-- ==== Sys2Proof/Word.lean ====
section
/-! DEFINITION. The word types and the one plain data structure of the model: a sorted list of keyed values.
Everything the manual treats as bits is a `BitVec`; keys, sizes and counts are `Nat`. -/

namespace Sys2Proof

/-- One byte of memory. -/
abbrev Byte := BitVec 8
/-- A 64-bit word: a register (R10), a descriptor word (R181), a general register (R154). -/
abbrev W64 := BitVec 64
/-- A 32-bit word: an instruction of the control core (R159), a vector lane (R126). -/
abbrev W32 := BitVec 32

/-- A sparse table from `Nat` keys to values, as a list of pairs. `insert` keeps the keys strictly rising. -/
abbrev SMap (α : Type) := List (Nat × α)

/-- The value a key holds, if the table lists the key. -/
def SMap.find? {α : Type} : SMap α → Nat → Option α
  | [], _ => none
  | (k', v) :: t, k => if k = k' then some v else SMap.find? t k

/-- Set a key. On a table with rising keys the result has rising keys. -/
def SMap.insert {α : Type} : SMap α → Nat → α → SMap α
  | [], k, v => [(k, v)]
  | (k', v') :: t, k, v =>
    if k < k' then (k, v) :: (k', v') :: t
    else if k = k' then (k, v) :: t
    else (k', v') :: SMap.insert t k v

/-- Take a key out. -/
def SMap.erase {α : Type} (m : SMap α) (k : Nat) : SMap α := m.filter (fun e => decide (e.1 ≠ k))

/-- The value of a key, `d` where the table does not list it. -/
def SMap.get {α : Type} (d : α) (m : SMap α) (k : Nat) : α := (m.find? k).getD d

/-- Set a key in canonical form: a value equal to the default is not listed. -/
def SMap.put {α : Type} [DecidableEq α] (d : α) (m : SMap α) (k : Nat) (v : α) : SMap α :=
  if v = d then m.erase k else m.insert k v

/-- Keep the entries whose key satisfies a test. -/
def SMap.keep {α : Type} (m : SMap α) (f : Nat → Bool) : SMap α := m.filter (fun e => f e.1)

/-- The keys rise strictly. -/
def SMap.sorted {α : Type} : SMap α → Bool
  | [] => true
  | [_] => true
  | (k, _) :: (k', v') :: t => decide (k < k') && SMap.sorted ((k', v') :: t)

end Sys2Proof
end

