-- ==== Sys2Proof/Machine/Bits.lean ====
section
/-! DEFINITION. Bit fields, sign extension, byte order (R9) and the cyclic codes of R217, R265 and R268. -/

namespace Sys2Proof.Machine

/-- Bits [lo+w-1:lo] of a number (R9). -/
def bits (x lo w : Nat) : Nat := (x >>> lo) % 2 ^ w

/-- Bits [lo+w-1:lo] of a 64-bit word, as a number. -/
def fld (x : W64) (lo w : Nat) : Nat := bits x.toNat lo w

/-- Is bit `i` of a number set? -/
def tb (x i : Nat) : Bool := x.testBit i

/-- 1 for true, 0 for false. -/
def b2n (b : Bool) : Nat := if b then 1 else 0

/-- Two's complement value of the low `w` bits. -/
def sx (v w : Nat) : Int :=
  if (v % 2 ^ w) * 2 < 2 ^ w then ((v % 2 ^ w : Nat) : Int) else ((v % 2 ^ w : Nat) : Int) - ((2 ^ w : Nat) : Int)

/-- A number with bit `i` set to `b`. -/
def setBit (x i : Nat) (b : Bool) : Nat :=
  if b then x ||| 2 ^ i else if x.testBit i then x - 2 ^ i else x

/-- `v` bounded by the largest `w`-bit number: a saturating count. -/
def sat (w v : Nat) : Nat := min v (2 ^ w - 1)

/-- The `n` bytes of a number, least significant first (R9). -/
def bytesOf : Nat → Nat → List Byte
  | 0, _ => []
  | n + 1, v => BitVec.ofNat 8 v :: bytesOf n (v / 256)

/-- The number that bytes spell, least significant first (R9). -/
def ofBytes : List Byte → Nat
  | [] => 0
  | b :: t => b.toNat + 256 * ofBytes t

/-- Bytes [a, a+n) of a list, zeros beyond its end. -/
def sub (bs : List Byte) (a n : Nat) : List Byte :=
  let t := (bs.drop a).take n
  t ++ List.replicate (n - t.length) 0

/-- The little-endian number at bytes [a, a+n). -/
def num (bs : List Byte) (a n : Nat) : Nat := ofBytes (sub bs a n)

/-- A list of bytes cut into pieces of at most `n` bytes. -/
def chunks (n : Nat) : Nat → List Byte → List (List Byte)
  | 0, _ => []
  | _ + 1, [] => []
  | fuel + 1, bs => bs.take n :: chunks n fuel (bs.drop n)

/-- One bit of a reflected cyclic code: shift right, fold the polynomial in. -/
def crcStepR (poly : Nat) (c : Nat) : Nat := if c % 2 = 1 then (c / 2) ^^^ poly else c / 2

/-- `f n`, with the number evaluated first: a long fold then stays shallow. -/
def atValue {α : Type} (f : Nat → α) (n : Nat) : α :=
  match n with
  | 0 => f 0
  | m + 1 => f (m + 1)
theorem atValue_eq {α : Type} (f : Nat → α) (n : Nat) : atValue f n = f n := by cases n <;> rfl

/-- A cyclic code over bytes, one byte after the other. -/
def crcBytes (next : Nat → Byte → Nat) : List Byte → Nat → Nat
  | [], c => c
  | b :: bs, c => atValue (crcBytes next bs) (next c b)

/-- A reflected cyclic code over bytes. -/
def crcR (poly init fin : Nat) (bs : List Byte) : Nat :=
  crcBytes (fun c b => Nat.repeat (crcStepR poly) 8 (c ^^^ b.toNat)) bs init ^^^ fin

/-- One bit of an unreflected 16-bit cyclic code. -/
def crc16Step (c : Nat) : Nat := if c ≥ 0x8000 then ((c * 2) % 0x10000) ^^^ 0x1021 else c * 2

/-- CRC-32C of R265: polynomial 0x1EDC_6F41, reflected as the name CRC-32C says. DEDUCED, log 20. -/
def crc32c (bs : List Byte) : Nat := crcR 0x82F63B78 0xFFFFFFFF 0xFFFFFFFF bs

/-- CRC-16 of R268: polynomial 0x1021, initial value 0xFFFF, no final XOR, most significant bit first. DEDUCED, log 20. -/
def crc16 (bs : List Byte) : Nat :=
  crcBytes (fun c b => Nat.repeat crc16Step 8 (c ^^^ (b.toNat * 256))) bs 0xFFFF

/-- CRC-64 of R217: the ECMA-182 polynomial reflected, initial value and final XOR all ones. -/
def crc64 (bs : List Byte) : Nat :=
  crcR 0xC96C5795D7870F42 0xFFFFFFFFFFFFFFFF 0xFFFFFFFFFFFFFFFF bs

/-- ceil(a / b). -/
def cdiv (a b : Nat) : Nat := (a + b - 1) / b

/-- A number built of (lowest bit, width, value) parts. -/
def packN (fs : List (Nat × Nat × Nat)) : Nat := fs.foldl (fun x f => x ||| ((f.2.2 % 2 ^ f.2.1) <<< f.1)) 0

/-- A field record of a descriptor or header: a 64-bit word built of (lowest bit, width, value) parts. -/
def pack (fs : List (Nat × Nat × Nat)) : W64 :=
  BitVec.ofNat 64 (packN fs)

/-- Replace the element at an index, if the list has it. -/
def upd {α : Type} : List α → Nat → α → List α
  | [], _, _ => []
  | _ :: t, 0, v => v :: t
  | h :: t, n + 1, v => h :: upd t n v

/-- Split off the first element that satisfies a test. -/
def takeFirst {α : Type} (f : α → Bool) : List α → Option (α × List α)
  | [] => none
  | h :: t => if f h then some (h, t) else (takeFirst f t).map (fun r => (r.1, h :: r.2))

/-- Apply a change to the first element that satisfies a test. -/
def modFirst {α : Type} (f : α → Bool) (g : α → α) : List α → List α
  | [] => []
  | h :: t => if f h then g h :: t else h :: modFirst f g t

/-- Bits set in the low `w` bits of a number. -/
def popcount (w x : Nat) : Nat := ((List.range w).filter (tb x)).length

end Sys2Proof.Machine
end

