-- ==== Sys2Proof/Syntax.lean ====
section
/-! DEFINITION. The commands of the block: one constructor of `Instr` for each row of the spec's opcode table, with the row's operands.
The commands come from outside the block (log 1): an instruction or command that an engine begins, a packet or symbol that arrives,
a timer or pin event, a register write. Every operand that the manual encodes in bits keeps every bit, reserved fields included,
so that the checks of reserved fields are the machine's and not the syntax's. -/

namespace Sys2Proof

/-- A physical cluster, by plot and slot: S00 to S14 standard, S15 wide, S16 spare (R20, R21). -/
structure CoreId where
  plot : Fin 32
  slot : Fin 17
deriving DecidableEq, Repr

/-- A Bin unit, by plot and unit (R227). -/
structure BinId where
  plot : Fin 32
  unit : Fin 8
deriving DecidableEq, Repr

/-- The three engines of a cluster, in the order of the completion record's ENGINE field (Table 7-7). -/
inductive Engine where
  | matrix
  | vector
  | dataMover
deriving DecidableEq, Repr

/-- Who makes a register access (Table 9-4, R254, R430, R488): the Steward, a Steward of another module (KIND 0x6, fabric-manager rights),
a host adapter's host by number, a data mover of a cluster, a control core on its own block, or the I3C and JTAG management path. -/
inductive Requester where
  | steward
  | peerSteward
  | host (h : Fin 16)
  | dataMover (k : CoreId)
  | core (k : CoreId)
  | management
deriving DecidableEq, Repr

/-- The target of an RST_CTL request, field by field (Table 16-5): domain code, plot, physical slot. -/
structure RstTarget where
  domain : BitVec 3
  plot : BitVec 5
  slot : BitVec 5
deriving DecidableEq, Repr

/-- The three counts that vote on a Pass event (R453). -/
inductive SeqUnit where
  | master
  | checking
  | voter
deriving DecidableEq, Repr

/-- The site fuse groups a SITE_FUSE may burn (R489). -/
inductive FuseGroup where
  | siteOptHash
  | ownerHash
  | custodianHash
  | siteOnly
deriving DecidableEq, Repr

/-- One package's MR4 report (R248): its refresh-rate field, and whether it reports the package above its operating temperature limit. -/
structure Mr4 where
  rate : BitVec 3
  hot : Bool
deriving DecidableEq, Repr

/-- A frame as received (R265): header, 256 payload bytes, CRC-32C. -/
structure Frame where
  hdr : W32
  payload : List Byte
  crc : W32
deriving DecidableEq, Repr

/-- The lanes of each direction of a port, bit 8 the spare (R259). -/
structure LaneSets where
  rx : BitVec 9
  tx : BitVec 9
deriving DecidableEq, Repr

/-- A packet: the four header words of Table 11-2 and the bytes after the header. -/
structure Packet where
  w0 : W64
  w1 : W64
  w2 : W64
  w3 : W64
  data : List Byte
deriving DecidableEq, Repr

/-- The R format of Table 6-1. -/
structure RForm where
  rd : BitVec 5
  ra : BitVec 5
  rb : BitVec 5
  fn : BitVec 4
  rsv : BitVec 5
deriving DecidableEq, Repr

/-- The I format of Table 6-1. -/
structure IForm where
  rd : BitVec 5
  ra : BitVec 5
  imm : BitVec 14
deriving DecidableEq, Repr

/-- The B format of Table 6-1. -/
structure BForm where
  ra : BitVec 5
  rb : BitVec 5
  off : BitVec 14
deriving DecidableEq, Repr

/-- The U format of Table 6-1. -/
structure UForm where
  rd : BitVec 5
  imm : BitVec 19
deriving DecidableEq, Repr

/-- The T format of Table 6-1. -/
structure TForm where
  tok : BitVec 6
  rsv : BitVec 2
  count : BitVec 16
deriving DecidableEq, Repr

/-- The VR format of Table 5-4. -/
structure VRForm where
  vd : BitVec 5
  va : BitVec 5
  vb : BitVec 5
  vc : BitVec 5
  msk : BitVec 3
  mz : BitVec 1
  fmt : BitVec 2
  rm : BitVec 3
  sub : BitVec 3
  imm : BitVec 24
deriving DecidableEq, Repr

/-- The VM format of Table 5-4; `rsv` holds the reserved bits [27:20]. -/
structure VMForm where
  vd : BitVec 5
  ab : BitVec 3
  inc : BitVec 1
  sab : BitVec 3
  rsv : BitVec 8
  msk : BitVec 3
  mz : BitVec 1
  fmt : BitVec 2
  rm : BitVec 3
  sub : BitVec 3
  off : BitVec 24
deriving DecidableEq, Repr

/-- The VC format of Table 5-4; `rsv` holds the reserved bits [39:13]. -/
structure VCForm where
  ci : BitVec 2
  aj : BitVec 3
  rsv : BitVec 27
  imm : BitVec 24
deriving DecidableEq, Repr

/-- The commands, in the table's order. Each docstring names the row and its rule. -/
inductive Instr where
  /-- PASS_BOUNDARY (R41). -/
  | passBoundary
  /-- VOTE_CLOSE (R46). -/
  | voteClose
  /-- COMMIT_MARKER_SEND (R49). -/
  | commitMarkerSend
  /-- GUARD_START (R41). -/
  | guardStart
  /-- ADD (R160). -/
  | add (k : CoreId) (f : RForm)
  /-- SUB (R160). -/
  | sub (k : CoreId) (f : RForm)
  /-- AND (R160). -/
  | andR (k : CoreId) (f : RForm)
  /-- OR (R160). -/
  | orR (k : CoreId) (f : RForm)
  /-- XOR (R160). -/
  | xorR (k : CoreId) (f : RForm)
  /-- SLL (R160). -/
  | sll (k : CoreId) (f : RForm)
  /-- SRL (R160). -/
  | srl (k : CoreId) (f : RForm)
  /-- SRA (R160). -/
  | sra (k : CoreId) (f : RForm)
  /-- MUL (R160). -/
  | mul (k : CoreId) (f : RForm)
  /-- MULHU (R160). -/
  | mulhu (k : CoreId) (f : RForm)
  /-- SLT (R160). -/
  | slt (k : CoreId) (f : RForm)
  /-- SLTU (R160). -/
  | sltu (k : CoreId) (f : RForm)
  /-- MIN (R160). -/
  | minS (k : CoreId) (f : RForm)
  /-- MAX (R160). -/
  | maxS (k : CoreId) (f : RForm)
  /-- ADDI (R160). -/
  | addi (k : CoreId) (f : IForm)
  /-- ANDI (R160). -/
  | andi (k : CoreId) (f : IForm)
  /-- ORI (R160). -/
  | ori (k : CoreId) (f : IForm)
  /-- XORI (R160). -/
  | xori (k : CoreId) (f : IForm)
  /-- SLLI (R160). -/
  | slli (k : CoreId) (f : IForm)
  /-- SRLI (R160). -/
  | srli (k : CoreId) (f : IForm)
  /-- SRAI (R160). -/
  | srai (k : CoreId) (f : IForm)
  /-- SLTI (R160). -/
  | slti (k : CoreId) (f : IForm)
  /-- LUI (R160). -/
  | lui (k : CoreId) (f : UForm)
  /-- LD (R161). -/
  | ld (k : CoreId) (f : IForm)
  /-- LW (R161). -/
  | lw (k : CoreId) (f : IForm)
  /-- ST (R155). -/
  | st (k : CoreId) (f : IForm)
  /-- SW (R155). -/
  | sw (k : CoreId) (f : IForm)
  /-- BEQ (R160). -/
  | beq (k : CoreId) (f : BForm)
  /-- BNE (R160). -/
  | bne (k : CoreId) (f : BForm)
  /-- BLT (R160). -/
  | blt (k : CoreId) (f : BForm)
  /-- BGE (R160). -/
  | bge (k : CoreId) (f : BForm)
  /-- BLTU (R160). -/
  | bltu (k : CoreId) (f : BForm)
  /-- BGEU (R160). -/
  | bgeu (k : CoreId) (f : BForm)
  /-- DBNZ (R160). -/
  | dbnz (k : CoreId) (f : BForm)
  /-- JAL (R160). -/
  | jal (k : CoreId) (f : UForm)
  /-- JALR (R161). -/
  | jalr (k : CoreId) (f : IForm)
  /-- ISSUE (R166). -/
  | issue (k : CoreId) (f : RForm)
  /-- ISSUE_QUEUE_FREE (R166). -/
  | issueQueueFree (k : CoreId)
  /-- TWAIT (R193). -/
  | twait (k : CoreId) (f : TForm)
  /-- TWAIT_SATISFIED (R193). -/
  | twaitSatisfied (k : CoreId)
  /-- TSIG (R194). -/
  | tsig (k : CoreId) (f : TForm)
  /-- FBEGIN (R157). -/
  | fbegin (k : CoreId) (f : UForm)
  /-- FEND (R165). -/
  | fend (k : CoreId) (f : RForm)
  /-- FEND_RETIRE (R165). -/
  | fendRetire (k : CoreId)
  /-- PASS (R163). -/
  | pass (k : CoreId) (f : IForm)
  /-- RDPASS (R160). -/
  | rdpass (k : CoreId) (f : RForm)
  /-- RDFC (R160). -/
  | rdfc (k : CoreId) (f : RForm)
  /-- SIM (R167). -/
  | sim (k : CoreId) (f : RForm)
  /-- IMSW (R168). -/
  | imsw (k : CoreId) (f : IForm)
  /-- CSRR (R161). -/
  | csrr (k : CoreId) (f : IForm)
  /-- CSRW (R161). -/
  | csrw (k : CoreId) (f : IForm)
  /-- NOP (R160). -/
  | nop (k : CoreId) (f : RForm)
  /-- HALT (R172). -/
  | halt (k : CoreId) (f : UForm)
  /-- BRK (R177). -/
  | brk (k : CoreId) (f : RForm)
  /-- ENGINE_DEQUEUE (R190). -/
  | engineDequeue (k : CoreId) (e : Engine)
  /-- MMUL (R106). -/
  | mmul (k : CoreId)
  /-- MOUT (R114). -/
  | mout (k : CoreId)
  /-- TSAVE (R119). -/
  | tsave (k : CoreId)
  /-- TLOAD (R119). -/
  | tload (k : CoreId)
  /-- TZERO (R110). -/
  | tzero (k : CoreId)
  /-- MATRIX_COMPLETE (R108). -/
  | matrixComplete (k : CoreId)
  /-- VEXEC (R128). -/
  | vexec (k : CoreId)
  /-- VEXEC_COMPLETE (R130). -/
  | vexecComplete (k : CoreId)
  /-- VLD (R135). -/
  | vld (k : CoreId) (f : VMForm)
  /-- VST (R135). -/
  | vst (k : CoreId) (f : VMForm)
  /-- VLDB (R135). -/
  | vldb (k : CoreId) (f : VMForm)
  /-- VLDQ (R143). -/
  | vldq (k : CoreId) (f : VMForm)
  /-- VSTQ (R143). -/
  | vstq (k : CoreId) (f : VMForm)
  /-- VLDM (R135). -/
  | vldm (k : CoreId) (f : VMForm)
  /-- VSTM (R135). -/
  | vstm (k : CoreId) (f : VMForm)
  /-- VSTW (R140). -/
  | vstw (k : CoreId) (f : VMForm)
  /-- VLDR (R140). -/
  | vldr (k : CoreId) (f : VMForm)
  /-- VADD (R135). -/
  | vadd (k : CoreId) (f : VRForm)
  /-- VSUB (R135). -/
  | vsub (k : CoreId) (f : VRForm)
  /-- VMUL (R135). -/
  | vmul (k : CoreId) (f : VRForm)
  /-- VFMA (R135). -/
  | vfma (k : CoreId) (f : VRForm)
  /-- VFMS (R135). -/
  | vfms (k : CoreId) (f : VRForm)
  /-- VFNMA (R135). -/
  | vfnma (k : CoreId) (f : VRForm)
  /-- VDIV (R135). -/
  | vdiv (k : CoreId) (f : VRForm)
  /-- VSQRT (R135). -/
  | vsqrt (k : CoreId) (f : VRForm)
  /-- VMIN (R135). -/
  | vmin (k : CoreId) (f : VRForm)
  /-- VMAX (R135). -/
  | vmax (k : CoreId) (f : VRForm)
  /-- VABS (R135). -/
  | vabs (k : CoreId) (f : VRForm)
  /-- VNEG (R135). -/
  | vneg (k : CoreId) (f : VRForm)
  /-- VMOV (R135). -/
  | vmov (k : CoreId) (f : VRForm)
  /-- VSPLI (R135). -/
  | vspli (k : CoreId) (f : VRForm)
  /-- VIOTA (R135). -/
  | viota (k : CoreId) (f : VRForm)
  /-- VCVT (R136). -/
  | vcvt (k : CoreId) (f : VRForm)
  /-- VRCP (R144). -/
  | vrcp (k : CoreId) (f : VRForm)
  /-- VRSQ (R144). -/
  | vrsq (k : CoreId) (f : VRForm)
  /-- VEXP2 (R144). -/
  | vexp2 (k : CoreId) (f : VRForm)
  /-- VLOG2 (R144). -/
  | vlog2 (k : CoreId) (f : VRForm)
  /-- VEXP (R144). -/
  | vexp (k : CoreId) (f : VRForm)
  /-- VTANH (R144). -/
  | vtanh (k : CoreId) (f : VRForm)
  /-- VERF (R144). -/
  | verf (k : CoreId) (f : VRForm)
  /-- VAND (R135). -/
  | vand (k : CoreId) (f : VRForm)
  /-- VOR (R135). -/
  | vor (k : CoreId) (f : VRForm)
  /-- VXOR (R135). -/
  | vxor (k : CoreId) (f : VRForm)
  /-- VSHL (R135). -/
  | vshl (k : CoreId) (f : VRForm)
  /-- VSHR (R135). -/
  | vshr (k : CoreId) (f : VRForm)
  /-- VCMP (R142). -/
  | vcmp (k : CoreId) (f : VRForm)
  /-- MAND (R135). -/
  | mand (k : CoreId) (f : VRForm)
  /-- MOR (R135). -/
  | mor (k : CoreId) (f : VRForm)
  /-- MXOR (R135). -/
  | mxor (k : CoreId) (f : VRForm)
  /-- MNOT (R135). -/
  | mnot (k : CoreId) (f : VRForm)
  /-- MFIRST (R135). -/
  | mfirst (k : CoreId) (f : VRForm)
  /-- MCNT (R135). -/
  | mcnt (k : CoreId) (f : VRForm)
  /-- VWIN (R140). -/
  | vwin (k : CoreId) (f : VRForm)
  /-- VRES (R140). -/
  | vres (k : CoreId) (f : VRForm)
  /-- VRSUM (R141). -/
  | vrsum (k : CoreId) (f : VRForm)
  /-- VRMAX (R141). -/
  | vrmax (k : CoreId) (f : VRForm)
  /-- VRMIN (R141). -/
  | vrmin (k : CoreId) (f : VRForm)
  /-- VBCL (R135). -/
  | vbcl (k : CoreId) (f : VRForm)
  /-- VEND (R130). -/
  | vend (k : CoreId) (f : VCForm)
  /-- VBNZ (R135). -/
  | vbnz (k : CoreId) (f : VCForm)
  /-- VSETC (R135). -/
  | vsetc (k : CoreId) (f : VCForm)
  /-- VADDA (R135). -/
  | vadda (k : CoreId) (f : VCForm)
  /-- DCOPY (R186). -/
  | dcopy (k : CoreId)
  /-- DFILL (R186). -/
  | dfill (k : CoreId)
  /-- DSIG (R187). -/
  | dsig (k : CoreId)
  /-- DCLOSE (R200). -/
  | dclose (k : CoreId)
  /-- DPOST (R228). -/
  | dpost (k : CoreId)
  /-- WPUSH (R220). -/
  | wpush (k : CoreId)
  /-- WPOP (R220). -/
  | wpop (k : CoreId)
  /-- DM_COMMAND_COMPLETE (R192). -/
  | dmCommandComplete (k : CoreId)
  /-- POSTED_TRANSFER (R387). -/
  | postedTransfer
  /-- CALLRED (R338). -/
  | callred (k : CoreId)
  /-- CREDSC (R339). -/
  | credsc (k : CoreId)
  /-- CALLGAT (R338). -/
  | callgat (k : CoreId)
  /-- CBCAST (R338). -/
  | cbcast (k : CoreId)
  /-- CGATHER (R341). -/
  | cgather (k : CoreId)
  /-- CVERD (R347). -/
  | cverd (k : CoreId)
  /-- CROT (R342). -/
  | crot (k : CoreId)
  /-- CBIND (R325). -/
  | cbind (k : CoreId)
  /-- COLLECTIVE_ROOM_ACCEPT (R326). -/
  | collectiveRoomAccept (k : CoreId)
  /-- CBIND_TAKES_EFFECT (R325). -/
  | cbindTakesEffect (c : Fin 512)
  /-- CVERD_CONTRIBUTE (R347). -/
  | cverdContribute (c : Fin 512)
  /-- CROT_START (R354). -/
  | crotStart (c : Fin 512)
  /-- EARLY_PACKET_HOLD_EXPIRY (R343). -/
  | earlyPacketHoldExpiry (n : Fin 12) (c : Fin 512) (opSeq : BitVec 16)
  /-- BIN_DEQUEUE (R228). -/
  | binDequeue (b : BinId)
  /-- BZERO (R230). -/
  | bzero (b : BinId)
  /-- BSCALE (R230). -/
  | bscale (b : BinId)
  /-- BACC (R230). -/
  | bacc (b : BinId)
  /-- BNORM (R231). -/
  | bnorm (b : BinId)
  /-- BSGDM (R231). -/
  | bsgdm (b : BinId)
  /-- BADAM (R231). -/
  | badam (b : BinId)
  /-- BCAST (R231). -/
  | bcast (b : BinId)
  /-- DRILL_DEQUEUE (R365). -/
  | drillDequeue (p : Fin 32)
  /-- DWINNOW (R366). -/
  | dwinnow (p : Fin 32)
  /-- DRESOW (R367). -/
  | dresow (p : Fin 32)
  /-- WINDROW_SPILL (R224). -/
  | windrowSpill (k : CoreId) (stack : Fin 8) (lines : Nat)
  /-- WINDROW_REFILL (R224). -/
  | windrowRefill (k : CoreId) (stack : Fin 8) (lines : Nat)
  /-- GRANARY_REPAIR (R212). -/
  | granaryRepair (p : Fin 32)
  /-- GLEAN_SWEEP (R215). -/
  | gleanSweep (p : Fin 32)
  /-- GLEAN_REQUEST (R217). -/
  | gleanRequest (p : Fin 32)
  /-- GLEAN_REQUEST_DONE (R217). -/
  | gleanRequestDone (p : Fin 32)
  /-- BARN_REFRESH (R248). -/
  | barnRefresh
  /-- BARN_MR4_READ (R248). -/
  | barnMr4Read (reports : List Mr4)
  /-- BARN_UPKEEP (R249). -/
  | barnUpkeep
  /-- BARN_RETIRE_REQUEST (R244). -/
  | barnRetireRequest (pkg : BitVec 5)
  /-- BARN_ECC_CLEAR (R258). -/
  | barnEccClear
  /-- BARN_ECC_INJECT (R258). -/
  | barnEccInject (pkg : BitVec 5)
  /-- GRAN_ECC_CLEAR (R237). -/
  | granEccClear (p : Fin 32)
  /-- INJECT_SINGLE (R237). -/
  | injectSingle (p : Fin 32)
  /-- INJECT_DOUBLE (R237). -/
  | injectDouble (p : Fin 32)
  /-- FRAME_TRANSMIT (R305). -/
  | frameTransmit (n : Fin 12)
  /-- FRAME_RECEIVE (R266): the lanes on which a codeword begins with the frame, and the wrong symbols of each lane's new codeword. -/
  | frameReceive (n : Fin 12) (fr : Frame) (fresh : BitVec 9) (wrong : List Nat)
  /-- ACK (R269). -/
  | ack (n : Fin 12) (sym : BitVec 128)
  /-- NAK (R270). -/
  | nak (n : Fin 12) (sym : BitVec 128)
  /-- CREDIT (R272). -/
  | credit (n : Fin 12) (sym : BitVec 128)
  /-- TIME_SYNC (R33). -/
  | timeSync (n : Fin 12) (sym : BitVec 128) (delay : Nat)
  /-- MARKER (R49). -/
  | marker (n : Fin 12) (sym : BitVec 128)
  /-- HELLO (R279). -/
  | hello (n : Fin 12) (sym : BitVec 128)
  /-- LANE_MAP (R275). -/
  | laneMap (n : Fin 12) (sym : BitVec 128)
  /-- LINK_DOWN (R282). -/
  | linkDown (n : Fin 12) (sym : BitVec 128)
  /-- TIME_SYNC_SEND (R33). -/
  | timeSyncSend (n : Fin 12)
  /-- ACK_TIMER (R269). -/
  | ackTimer (n : Fin 12)
  /-- HELLO_RESEND (R268). -/
  | helloResend (n : Fin 12)
  /-- LANE_MAP_RESEND (R268). -/
  | laneMapResend (n : Fin 12)
  /-- LANE_LOCK_LOSS (R275). -/
  | laneLockLoss (n : Fin 12) (lane : Fin 9)
  /-- LANE_SIGNAL_DETECT (R278). -/
  | laneSignalDetect (n : Fin 12) (lanes : BitVec 9)
  /-- PMD_TRAINING_DONE (R278). -/
  | pmdTrainingDone (n : Fin 12) (lanes : LaneSets) (medium : Nat)
  /-- PMD_TRAINING_TIMEOUT (R281). -/
  | pmdTrainingTimeout (n : Fin 12)
  /-- AUTO_RETRAIN_TIMER (R281). -/
  | autoRetrainTimer (n : Fin 12)
  /-- LINK_TIMEOUT_EXPIRY (R282). -/
  | linkTimeoutExpiry (n : Fin 12)
  /-- PORT_SHUTDOWN_COMPLETE (R284). -/
  | portShutdownComplete (n : Fin 12)
  /-- PORT_DRAIN_COMPLETE (R288). -/
  | portDrainComplete (n : Fin 12)
  /-- PORT_ENABLE (R284). -/
  | portEnable (n : Fin 12)
  /-- PORT_DISABLE (R284). -/
  | portDisable (n : Fin 12)
  /-- PORT_DRAIN (R288). -/
  | portDrain (n : Fin 12)
  /-- PORT_DRAIN_CLEAR (R288). -/
  | portDrainClear (n : Fin 12)
  /-- RETRAIN (R292). -/
  | retrain (n : Fin 12)
  /-- PORT_COUNT_CLEAR (R292). -/
  | portCountClear (n : Fin 12)
  /-- SPARE_NOW (R275). -/
  | spareNow (n : Fin 12) (lane : Fin 8)
  /-- ROUTE_PACKET (R296). -/
  | routePacket (src : Option (Fin 12))
  /-- SCHEDULED_WRITE (R310). -/
  | scheduledWrite
  /-- ELASTIC_WRITE (R310). -/
  | elasticWrite
  /-- ELASTIC_READ_REQUEST (R300). -/
  | elasticReadRequest
  /-- ELASTIC_RESPONSE (R300). -/
  | elasticResponse
  /-- SIGNAL_ONLY (R194). -/
  | signalOnly
  /-- EPOCH_CLOSE (R200). -/
  | epochClose
  /-- CSR_REQUEST (R254). -/
  | csrRequest
  /-- SCHEDULED_ACK (R203). -/
  | scheduledAck
  /-- REDUCTION_PARTIAL (R337). -/
  | reductionPartial (n : Fin 12)
  /-- REDUCTION_DATA (R338). -/
  | reductionData
  /-- GRANT (R341). -/
  | grant
  /-- BREAK (R351). -/
  | ringBreak
  /-- ABORT (R344). -/
  | ringAbort
  /-- REDUCTION_VERDICT (R347). -/
  | reductionVerdict
  /-- HOST_PACKET_INGRESS (R374). -/
  | hostPacketIngress
  /-- HWRITE (R385). -/
  | hwrite
  /-- HREAD (R385). -/
  | hread
  /-- DOORBELL (R381). -/
  | doorbell
  /-- MRDATA (R376). -/
  | mrdata
  /-- MWACK (R376). -/
  | mwack
  /-- PROBE (R388). -/
  | probe
  /-- SQ_ENTRY_FETCH (R382). -/
  | sqEntryFetch (q : Fin 8192)
  /-- QCOPY_IN (R380). -/
  | qcopyIn (q : Fin 8192)
  /-- QCOPY_OUT (R380). -/
  | qcopyOut (q : Fin 8192)
  /-- QSIGNAL (R386). -/
  | qsignal (q : Fin 8192)
  /-- QNOP (R380). -/
  | qnop (q : Fin 8192)
  /-- HOST_TIMEOUT_EXPIRY (R382). -/
  | hostTimeoutExpiry (tag : BitVec 24)
  /-- PROBE_TIMER (R388). -/
  | probeTimer
  /-- QP_ENABLE (R384). -/
  | qpEnable (q : Fin 8192)
  /-- QP_DISABLE (R384). -/
  | qpDisable (q : Fin 8192)
  /-- QP_DRAIN_COMPLETE (R384). -/
  | qpDrainComplete (q : Fin 8192)
  /-- LOADER_SCAN (R403). -/
  | loaderScan
  /-- LOADER_CHECK (R403). -/
  | loaderCheck (part : Fin 32) (req : Fin 32)
  /-- LOADER_LOAD (R403). -/
  | loaderLoad (part : Fin 32) (req : Fin 32)
  /-- LOADER_START (R403). -/
  | loaderStart (part : Fin 32) (req : Fin 32)
  /-- LOADER_UNLOAD (R403). -/
  | loaderUnload (part : Fin 32) (req : Fin 32)
  /-- BOOT_START (R391). -/
  | bootStart
  /-- OPTION_BLOCK_VERIFIED (R400). -/
  | optionBlockVerified (flashOk : Bool) (block : List Byte) (sig : List Byte)
  /-- GRANARY_FILL_DONE (R214). -/
  | granaryFillDone (spareFails : BitVec 32)
  /-- BOOT_IMAGE_VERIFIED (R396). -/
  | bootImageVerified (slotB : Bool) (image : List Byte)
  /-- BARN_FILL_DONE (R246). -/
  | barnFillDone (failed : BitVec 18)
  /-- STEWARD_INIT_DONE (R392). -/
  | stewardInitDone (ok : Bool)
  /-- STEWARD_INIT_TIMEOUT (R397). -/
  | stewardInitTimeout
  /-- NO_NEIGHBOUR_TIMEOUT (R392). -/
  | noNeighbourTimeout
  /-- HOLDOVER_EXPIRY (R35). -/
  | holdoverExpiry
  /-- RST_GO (R412). -/
  | rstGo (who : Requester) (target : RstTarget) (confirm : BitVec 8)
  /-- RST_HOLD (R418). -/
  | rstHold (who : Requester) (target : RstTarget) (confirm : BitVec 8)
  /-- RST_RELEASE (R418). -/
  | rstRelease (who : Requester) (target : RstTarget)
  /-- RESET_L_PULSE (R419). -/
  | resetLPulse (ns : Nat)
  /-- PWR_GOOD_LOW (R483). -/
  | pwrGoodLow
  /-- RAILS_STOP (R483). -/
  | railsStop
  /-- REFCLK_LOSS (R487). -/
  | refclkLoss
  /-- WATCHDOG_EXPIRY (R413). -/
  | watchdogExpiry
  /-- WDOG_KICK (R413). -/
  | wdogKick (who : Requester)
  /-- CRITICAL_ERROR (R412). -/
  | criticalError (unit : BitVec 8) (word : BitVec 32)
  /-- ISOLATION_TIMEOUT (R415). -/
  | isolationTimeout (target : RstTarget)
  /-- DOMAIN_CLEAR_DONE (R415). -/
  | domainClearDone (target : RstTarget)
  /-- FABRIC_DRAIN_DONE (R416). -/
  | fabricDrainDone
  /-- FABRIC_DRAIN_LIMIT (R416). -/
  | fabricDrainLimit
  /-- FABRIC_CLEAR_DONE (R416). -/
  | fabricClearDone
  /-- CHANGE_RECORD_SUBMIT (R430). -/
  | changeRecordSubmit
  /-- CHANGE_RECORD_VERIFIED (R430). -/
  | changeRecordVerified
  /-- PLOT_JOIN_FILL_DONE (R435). -/
  | plotJoinFillDone (p : Fin 32)
  /-- BARN_EXTENT_FILL_DONE (R435). -/
  | barnExtentFillDone (e : Fin 64)
  /-- ATTESTATION_REQUEST (R437). -/
  | attestationRequest
  /-- ATTESTATION_REPORT_WRITTEN (R437). -/
  | attestationReportWritten
  /-- SEQUENCER_DISAGREEMENT (R453). -/
  | sequencerDisagreement (outvoted : SeqUnit)
  /-- REGULATOR_PHASE_LOSS (R454). -/
  | regulatorPhaseLoss (rail : Fin 16)
  /-- THERMAL_SENSE (R485). -/
  | thermalSense (temps : List (BitVec 8))
  /-- POWER_SENSE (R484). -/
  | powerSense (vin iin pin avg : BitVec 16)
  /-- ERROR_RECORD_WRITE (R461). -/
  | errorRecordWrite
  /-- CONGESTION_RECORD (R467). -/
  | congestionRecord
  /-- PC_SAMPLE (R472). -/
  | pcSample
  /-- TRACE_BLOCK_WRITE (R470). -/
  | traceBlockWrite
  /-- TRACE_POST_END (R475). -/
  | tracePostEnd
  /-- TRACE_START (R475). -/
  | traceStart
  /-- TRACE_STOP (R475). -/
  | traceStop
  /-- TRACE_RESTART (R475). -/
  | traceRestart
  /-- TRACE_MARK_WRITE (R474). -/
  | traceMarkWrite (k : CoreId) (v : W64)
  /-- TEL_SNAP (R464). -/
  | telSnap
  /-- CLEAR_PEAKS (R478). -/
  | clearPeaks
  /-- DBG_STOP_GO (R476). -/
  | dbgStopGo
  /-- RESUME (R176). -/
  | resume (k : CoreId)
  /-- STEP (R179). -/
  | step (k : CoreId)
  /-- HALT_REQ (R177). -/
  | haltReq (k : CoreId)
  /-- IM_CTL_SWITCH (R168). -/
  | imCtlSwitch (k : CoreId)
  /-- IM_WINDOW_WRITE (R167). -/
  | imWindowWrite (who : Requester) (k : CoreId) (bankB : Bool) (off size : Nat) (v : W64)
  /-- EPOCH_ADVANCE (R199). -/
  | epochAdvance (k : CoreId)
  /-- CMP_RING_WRITE (R201). -/
  | cmpRingWrite (k : CoreId) (v : W64)
  /-- TOKEN_REG_WRITE (R204). -/
  | tokenRegWrite (k : CoreId) (reg : Fin 16) (v : W64)
  /-- SR_SEED_WRITE (R96). -/
  | srSeedWrite (k : CoreId) (v : W64)
  /-- WR_REGION_WRITE (R226). -/
  | wrRegionWrite (k : CoreId) (stack : Fin 8) (spill : Bool) (v : W64)
  /-- BIN_CFG_WRITE (R237). -/
  | binCfgWrite (b : BinId) (v : W64)
  /-- CSR_WRITE (R11). -/
  | csrWrite (who : Requester) (off size : Nat) (v : W64)
  /-- MAT_CHECK_CLEAR (R124). -/
  | matCheckClear (k : CoreId)
  /-- INJECT_RESIDUE (R123). -/
  | injectResidue (k : CoreId)
  /-- MAT_INJECT_COMPARE (R123). -/
  | matInjectCompare (k : CoreId)
  /-- INJECT_PARITY (R123). -/
  | injectParity (k : CoreId)
  /-- VEC_CHECK_CLEAR (R150). -/
  | vecCheckClear (k : CoreId)
  /-- VEC_INJECT_COMPARE (R149). -/
  | vecInjectCompare (k : CoreId)
  /-- VEC_INJECT_PARITY (R149). -/
  | vecInjectParity (k : CoreId)
  /-- CORE_CHECK_CLEAR (R180). -/
  | coreCheckClear (k : CoreId)
  /-- INJECT_LOCKSTEP (R180). -/
  | injectLockstep (k : CoreId)
  /-- INJECT_MEM (R180). -/
  | injectMem (k : CoreId)
  /-- BIN_CHECK_CLEAR (R237). -/
  | binCheckClear (b : BinId)
  /-- BIN_INJECT_COMPARE (R237). -/
  | binInjectCompare (b : BinId)
  /-- DRILL_CHECK_CLEAR (R370). -/
  | drillCheckClear (p : Fin 32)
  /-- DRILL_INJECT_COMPARE (R370). -/
  | drillInjectCompare (p : Fin 32)
  /-- COLL_CHECK_CLEAR (R355). -/
  | collCheckClear
  /-- COLL_INJECT (R355). -/
  | collInject (n : Fin 12)
  /-- CHANNEL_CLEAR (R344). -/
  | channelClear (c : Fin 512)
  /-- I3C_WRITE (R488). -/
  | i3cWrite (off : W64) (v : W64)
  /-- I3C_READ (R488). -/
  | i3cRead (off : W64)
  /-- BYPASS (R489). -/
  | bypass
  /-- IDCODE (R489). -/
  | idcode
  /-- SAMPLE_PRELOAD (R489). -/
  | samplePreload (pins preload : List Bool)
  /-- EXTEST (R489). -/
  | extest (cells : List Bool)
  /-- EXTEST_PULSE (R489). -/
  | extestPulse (cells : List Bool)
  /-- EXTEST_TRAIN (R489). -/
  | extestTrain (cells : List Bool)
  /-- CLAMP (R489). -/
  | clamp
  /-- HIGHZ (R489). -/
  | highz
  /-- CSR_ACCESS (R489). -/
  | csrAccess (write : Bool) (off : W64) (v : W64)
  /-- SITE_FUSE (R490). -/
  | siteFuse (group : FuseGroup) (value : BitVec 384)
  /-- SITE_FUSE_BURN_DONE (R490). -/
  | siteFuseBurnDone (readBack : BitVec 384)
  /-- PT_TEST_ENABLE (R491). -/
  | ptTestEnable (n : Fin 12) (on : Bool)
  /-- PT_TEST_CLEAR (R494). -/
  | ptTestClear (n : Fin 12)
  /-- PT_MARGIN_GO (R493). -/
  | ptMarginGo (n : Fin 12)
  /-- MARGIN_SCAN_DONE (R493). -/
  | marginScanDone (n : Fin 12) (errors : Nat)
  /-- PWR_GOOD_HIGH (R483). -/
  | pwrGoodHigh
  /-- RESERVED_TYPE_SYMBOL (R268). -/
  | reservedTypeSymbol (n : Fin 12) (sym : BitVec 128)
  /-- PT_CHECKER_LOCK (R492). -/
  | ptCheckerLock (n : Fin 12) (lane : Fin 9)
  /-- PT_CHECKER_LOCK_LOSS (R492). -/
  | ptCheckerLockLoss (n : Fin 12) (lane : Fin 9)
  /-- I3C_DYNAMIC_ADDRESS_ASSIGN (R488). -/
  | i3cDynamicAddressAssign (addr : BitVec 7)
deriving DecidableEq, Repr

end Sys2Proof
end

