-- ==== Sys2Proof/Decode.lean ====
section
/-! DEFINITION. Reading words as commands. The opcode table gives its rows no bits, so no word of its numbering spells a command. The words of the control
core (Table 6-1, Table 6-2) and of the vector engine (Table 5-4, Table 5-5) are read where a fetch finds what stands in the instruction memory. -/

namespace Sys2Proof

/-- The command that a word of the opcode table spells: the table gives no row any bits. -/
def decodeTableWord (_nbits _w : Nat) : Option Instr := none

def rForm (w : Nat) : RForm :=
  ⟨BitVec.ofNat 5 (w >>> 8), BitVec.ofNat 5 (w >>> 13), BitVec.ofNat 5 (w >>> 18), BitVec.ofNat 4 (w >>> 23), BitVec.ofNat 5 (w >>> 27)⟩
def iForm (w : Nat) : IForm := ⟨BitVec.ofNat 5 (w >>> 8), BitVec.ofNat 5 (w >>> 13), BitVec.ofNat 14 (w >>> 18)⟩
def bForm (w : Nat) : BForm := ⟨BitVec.ofNat 5 (w >>> 8), BitVec.ofNat 5 (w >>> 13), BitVec.ofNat 14 (w >>> 18)⟩
def uForm (w : Nat) : UForm := ⟨BitVec.ofNat 5 (w >>> 8), BitVec.ofNat 19 (w >>> 13)⟩
def tForm (w : Nat) : TForm := ⟨BitVec.ofNat 6 (w >>> 8), BitVec.ofNat 2 (w >>> 14), BitVec.ofNat 16 (w >>> 16)⟩

/-- The instruction of the control core that a 32-bit word holds; an unassigned opcode holds none (Table 6-2). -/
def decodeCore (w : Nat) (k : CoreId) : Option Instr :=
  match w % 256 with
  | 0x01 => some (.add k (rForm w)) | 0x02 => some (.sub k (rForm w)) | 0x03 => some (.andR k (rForm w))
  | 0x04 => some (.orR k (rForm w)) | 0x05 => some (.xorR k (rForm w)) | 0x06 => some (.sll k (rForm w))
  | 0x07 => some (.srl k (rForm w)) | 0x08 => some (.sra k (rForm w)) | 0x09 => some (.mul k (rForm w))
  | 0x0A => some (.mulhu k (rForm w)) | 0x0B => some (.slt k (rForm w)) | 0x0C => some (.sltu k (rForm w))
  | 0x0D => some (.minS k (rForm w)) | 0x0E => some (.maxS k (rForm w))
  | 0x11 => some (.addi k (iForm w)) | 0x13 => some (.andi k (iForm w)) | 0x14 => some (.ori k (iForm w))
  | 0x15 => some (.xori k (iForm w)) | 0x16 => some (.slli k (iForm w)) | 0x17 => some (.srli k (iForm w))
  | 0x18 => some (.srai k (iForm w)) | 0x1B => some (.slti k (iForm w)) | 0x1F => some (.lui k (uForm w))
  | 0x20 => some (.ld k (iForm w)) | 0x21 => some (.lw k (iForm w)) | 0x22 => some (.st k (iForm w)) | 0x23 => some (.sw k (iForm w))
  | 0x30 => some (.beq k (bForm w)) | 0x31 => some (.bne k (bForm w)) | 0x32 => some (.blt k (bForm w))
  | 0x33 => some (.bge k (bForm w)) | 0x34 => some (.bltu k (bForm w)) | 0x35 => some (.bgeu k (bForm w))
  | 0x36 => some (.dbnz k (bForm w)) | 0x37 => some (.jal k (uForm w)) | 0x38 => some (.jalr k (iForm w))
  | 0x40 => some (.issue k (rForm w)) | 0x41 => some (.twait k (tForm w)) | 0x42 => some (.tsig k (tForm w))
  | 0x50 => some (.fbegin k (uForm w)) | 0x51 => some (.fend k (rForm w)) | 0x52 => some (.pass k (iForm w))
  | 0x53 => some (.rdpass k (rForm w)) | 0x54 => some (.rdfc k (rForm w)) | 0x58 => some (.sim k (rForm w))
  | 0x59 => some (.imsw k (iForm w)) | 0x5C => some (.csrr k (iForm w)) | 0x5D => some (.csrw k (iForm w))
  | 0x60 => some (.nop k (rForm w)) | 0x61 => some (.halt k (uForm w)) | 0x62 => some (.brk k (rForm w))
  | _ => none

def vrForm (w : Nat) : VRForm :=
  { vd := BitVec.ofNat 5 (w >>> 8), va := BitVec.ofNat 5 (w >>> 13), vb := BitVec.ofNat 5 (w >>> 18), vc := BitVec.ofNat 5 (w >>> 23),
    msk := BitVec.ofNat 3 (w >>> 28), mz := BitVec.ofNat 1 (w >>> 31), fmt := BitVec.ofNat 2 (w >>> 32), rm := BitVec.ofNat 3 (w >>> 34),
    sub := BitVec.ofNat 3 (w >>> 37), imm := BitVec.ofNat 24 (w >>> 40) }
def vmForm (w : Nat) : VMForm :=
  { vd := BitVec.ofNat 5 (w >>> 8), ab := BitVec.ofNat 3 (w >>> 13), inc := BitVec.ofNat 1 (w >>> 16), sab := BitVec.ofNat 3 (w >>> 17),
    rsv := BitVec.ofNat 8 (w >>> 20), msk := BitVec.ofNat 3 (w >>> 28), mz := BitVec.ofNat 1 (w >>> 31), fmt := BitVec.ofNat 2 (w >>> 32),
    rm := BitVec.ofNat 3 (w >>> 34), sub := BitVec.ofNat 3 (w >>> 37), off := BitVec.ofNat 24 (w >>> 40) }
def vcForm (w : Nat) : VCForm :=
  { ci := BitVec.ofNat 2 (w >>> 8), aj := BitVec.ofNat 3 (w >>> 10), rsv := BitVec.ofNat 27 (w >>> 13), imm := BitVec.ofNat 24 (w >>> 40) }

/-- The instruction of the vector engine that a 64-bit word holds; an unassigned opcode holds none (Table 5-5). -/
def decodeVec (w : Nat) (k : CoreId) : Option Instr :=
  match w % 256 with
  | 0x01 => some (.vld k (vmForm w)) | 0x02 => some (.vst k (vmForm w)) | 0x03 => some (.vldb k (vmForm w))
  | 0x04 => some (.vldq k (vmForm w)) | 0x05 => some (.vstq k (vmForm w)) | 0x06 => some (.vldm k (vmForm w))
  | 0x07 => some (.vstm k (vmForm w)) | 0x08 => some (.vstw k (vmForm w)) | 0x09 => some (.vldr k (vmForm w))
  | 0x10 => some (.vadd k (vrForm w)) | 0x11 => some (.vsub k (vrForm w)) | 0x12 => some (.vmul k (vrForm w))
  | 0x13 => some (.vfma k (vrForm w)) | 0x14 => some (.vfms k (vrForm w)) | 0x15 => some (.vfnma k (vrForm w))
  | 0x16 => some (.vdiv k (vrForm w)) | 0x17 => some (.vsqrt k (vrForm w)) | 0x18 => some (.vmin k (vrForm w))
  | 0x19 => some (.vmax k (vrForm w)) | 0x1A => some (.vabs k (vrForm w)) | 0x1B => some (.vneg k (vrForm w))
  | 0x1C => some (.vmov k (vrForm w)) | 0x1D => some (.vspli k (vrForm w)) | 0x1E => some (.viota k (vrForm w))
  | 0x1F => some (.vcvt k (vrForm w)) | 0x20 => some (.vrcp k (vrForm w)) | 0x21 => some (.vrsq k (vrForm w))
  | 0x22 => some (.vexp2 k (vrForm w)) | 0x23 => some (.vlog2 k (vrForm w)) | 0x24 => some (.vexp k (vrForm w))
  | 0x25 => some (.vtanh k (vrForm w)) | 0x26 => some (.verf k (vrForm w)) | 0x28 => some (.vand k (vrForm w))
  | 0x29 => some (.vor k (vrForm w)) | 0x2A => some (.vxor k (vrForm w)) | 0x2B => some (.vshl k (vrForm w))
  | 0x2C => some (.vshr k (vrForm w)) | 0x30 => some (.vcmp k (vrForm w)) | 0x31 => some (.mand k (vrForm w))
  | 0x32 => some (.mor k (vrForm w)) | 0x33 => some (.mxor k (vrForm w)) | 0x34 => some (.mnot k (vrForm w))
  | 0x35 => some (.mfirst k (vrForm w)) | 0x36 => some (.mcnt k (vrForm w)) | 0x38 => some (.vwin k (vrForm w))
  | 0x39 => some (.vres k (vrForm w)) | 0x40 => some (.vrsum k (vrForm w)) | 0x41 => some (.vrmax k (vrForm w))
  | 0x42 => some (.vrmin k (vrForm w)) | 0x43 => some (.vbcl k (vrForm w)) | 0x70 => some (.vend k (vcForm w))
  | 0x71 => some (.vbnz k (vcForm w)) | 0x72 => some (.vsetc k (vcForm w)) | 0x73 => some (.vadda k (vcForm w))
  | _ => none

end Sys2Proof
end

