-- ==== Sys2Proof/Machine/Flags.lean ====
section
/-! DEFINITION. The exception word of Table 3-6 (R93). -/

namespace Sys2Proof.Machine

/-- The 8-bit exception word. -/
abbrev Exc := BitVec 8

def xINVALID : Exc := 0x01
def xDIVZERO : Exc := 0x02
def xOVERFLOW : Exc := 0x04
def xUNDERFLOW : Exc := 0x08
def xINEXACT : Exc := 0x10
def xNAN_INPUT : Exc := 0x20
def xCLAMP : Exc := 0x40

/-- What the matrix engine may set at output conversion: it never sets INEXACT (R93). -/
def xConvert : Exc := 0x0C
/-- What vector fast mode may raise (R89). -/
def xFast : Exc := 0x07
/-- What strict mode may raise (R90). -/
def xStrict : Exc := 0x1F

/-- A flag if a condition holds. -/
def xIf (b : Bool) (f : Exc) : Exc := if b then f else 0

end Sys2Proof.Machine
end

