-- ==== Sys2Proof/Config.lean ====
section
/-! DEFINITION. The values the manual leaves open, as constants without a body: no proof can see what one is.
A function applied to the counter `State.draws` gives a fresh value each time it is read. -/

namespace Sys2Proof.Machine

/-! ### The plan of a job image (R401): what the loader's checks ask of it -/

/-- A read or write of memory that a furrow makes, in program order: its range, the command of the furrow that makes it and the commands whose tokens that one has
waited for. `free` marks a Bin unit's journaled update and the Windrow's traffic (R52). -/
structure PlanAccess where
  write : Bool
  lo : Nat
  len : Nat
  cmd : Nat
  after : List Nat
  free : Bool
deriving DecidableEq, Repr, Inhabited

/-- A span of engine edges, and the remote command that ends it: the clk of the Pass at which its first reserved slot begins and at which it completes (R42, R203). -/
structure PlanSpan where
  edges : Nat
  remote : Option (Nat × Nat)
deriving DecidableEq, Repr, Inhabited

/-- A furrow of the schedule: unit as Table 15-10 numbers it, Pass of the cycle. `regs` are its uses of tiles, vector and mask registers in order, each with whether
it writes; `gregs` the registers of the core that it writes; `lines` the lines of core data memory that it stores to; `journal` the journal lines that it can write;
`sends` its scheduled frames by port; `handed` the ranges that its collectives or host-window transfers read; `tokens` the immediate signals and the waits of each
token; `drill` whether it posts to the Drill, and whether it waits for the Drill's signal. -/
structure PlanFurrow where
  unit : Nat
  pass : Nat
  id : Nat
  spans : List PlanSpan
  accesses : List PlanAccess
  regs : List (Nat × Bool)
  gregs : List Nat
  lines : List Nat
  journal : Nat
  sends : List (Nat × Nat)
  handed : List (Nat × Nat)
  tokens : List (Nat × Nat × Nat)
  drill : Bool × Bool
deriving DecidableEq, Repr, Inhabited

/-- One hop of a scheduled stream: a run of slots at a port, on this module where `port` names one, with the source and stream of its entries. `latency` is that of
the router after the hop. -/
structure PlanHop where
  port : Option Nat
  vc : Nat
  start : Nat
  slots : Nat
  source : Nat
  hopClk : Nat
  latency : Nat
deriving DecidableEq, Repr, Inhabited

/-- A scheduled stream; `adds` where its hops are a reduction's (R335). -/
structure PlanStream where
  stream : Nat
  frames : Nat
  adds : Bool
  hops : List PlanHop
deriving DecidableEq, Repr, Inhabited

/-- A descriptor found from the image: its offset, the logical cluster that issues it, its engine (0 matrix, 1 vector, 2 data mover) and its eight words. -/
structure PlanIssue where
  offset : Nat
  cluster : Nat
  engine : Nat
  words : List W64
deriving DecidableEq, Repr, Inhabited

/-- A collective operation: channel, axis, code, the axes to which other members bind the channel, the boundary planned for its result and the one that it meets in line
mode at the worst. -/
structure PlanOp where
  channel : Nat
  axis : Nat
  code : Nat
  others : List Nat
  planned : Nat
  inLine : Nat
deriving DecidableEq, Repr, Inhabited

/-- What a plan holds besides: `axes` by LSB, WIDTH, WRAP, LENGTH; the plots, ranges and queue pairs it names; `outside` what instructions outside any furrow read, by
unit and Pass; `received` the (source, stream) pairs that arrive; `senders` the most furrows that send on a stream in a Pass; `deliveries` the clk of a marker's path, the
sender's and the consumer's Pass, the consumer's unit and furrow; `steps` slot, step, first and last Pass; `verdicts` which modules of the slice lack a step's verdict, or
close it too early; `layers` the stages that hold each layer; `wstacks` cluster, stack, stage and greatest depth; `counts` cluster, token and its greatest count; `held`
cluster and greatest number of held-signal entries; `buffers` port and greatest numbers of staged, combined and early chunks; `owned` lodger, kind and number of a
resource; `reshards` the descriptors of a CROT, of the old layout's reductions and of the new one's; `chains` unit, Pass, furrow and terms of an accumulation. -/
structure Plan where
  axes : List (Nat × Nat × Nat × Nat)
  plots : List Nat
  ranges : List (Nat × Nat)
  queuePairs : List Nat
  furrows : List PlanFurrow
  outside : List (Nat × Nat × List Nat)
  issues : List PlanIssue
  streams : List PlanStream
  received : List (Nat × Nat)
  senders : List (Nat × Nat)
  deliveries : List (Nat × Nat × Nat × Nat × Nat)
  ops : List PlanOp
  steps : List (Nat × Nat × Nat × Nat)
  verdicts : List Nat
  layers : List (List Nat)
  stages : Nat
  wstacks : List (Nat × Nat × Nat × Nat)
  counts : List (Nat × Nat × Nat)
  held : List (Nat × Nat)
  buffers : List (Nat × Nat × Nat × Nat)
  owned : List (Bool × Nat × Nat)
  reshards : List (Nat × Nat × Nat)
  chains : List (Nat × Nat × Nat × Nat)
deriving DecidableEq, Repr, Inhabited

end Sys2Proof.Machine

namespace Sys2Proof.Config

/-- The draws of a cluster's stochastic generator, by seed and number of the draw: the algorithm is not given (R87, R88). UNVERIFIED, log 10. -/
opaque srDraw : W64 → Nat → BitVec 16
/-- Which two of the partial sums are added next: the order of A40 additions is not specified (R77). UNVERIFIED, log 11. -/
opaque addOrder : Nat → Nat
/-- The bits an approximation delivers, by operation, format and input: fixed by an algorithm the manual does not give (R144). UNVERIFIED, log 12. -/
opaque approx : Nat → Nat → W32 → W32
/-- How many engine edges the droop controller drops in a region, by region and number of the draw, within the bound of R43. UNVERIFIED, log 13. -/
opaque droppedEdges : Nat → Nat → Nat
/-- How many edges clock gating holds back in an idle region (R60), by region and number of the draw: when a region is gated is not given. UNVERIFIED, log 13. -/
opaque gatedEdges : Nat → Nat → Nat
/-- The signature the identity key makes of a digest (R437), 768 bits: the key is secret and its use of random numbers is not given. UNVERIFIED, log 19. -/
opaque ecdsaSign : BitVec 384 → BitVec 768
/-- The next nonce of Hayward's hardware generator (R428). UNVERIFIED, log 15. -/
opaque nonce : Nat → BitVec 256
/-- What the plan section of a job image holds, by the image: its encoding is the toolchain's (R401). UNVERIFIED, log 16. -/
opaque planOf : List Byte → Machine.Plan
/-- Counts of stall edges that follow from the engines' overlap, by register and field counter: timing (R60, R107, R147). UNVERIFIED, log 40. -/
opaque stallCount : Nat → Nat → Nat
/-- What a self-check finds, by number of the check: 0 nothing, 1 a defect that leaves half 0 good, 2 one that leaves half 1 good, 3 a defect in both
(R441, R447). It is the hardware's own condition. UNVERIFIED, log 41. -/
opaque selfCheck : Nat → Nat
/-- The refresh rate that an MR4 field asks for, 0 for 1×, 1 for 2×, 2 for 4×, by the field's value: the encoding is the packages' standard, which the
manual does not give (R248). UNVERIFIED, log 44. -/
opaque mr4Rate : Nat → Nat
/-- A free value where the manual states a value's existence but not the value. UNVERIFIED, log 17. -/
opaque free : Nat → W64
/-- The SR_SEED fuse of a physical slot (Table 3-8: unique and non-zero). UNVERIFIED, log 18. -/
opaque seedFuse : Nat → W64

end Sys2Proof.Config
end

