-- ==== Sys2Proof/Machine/Regs.lean ====
section
/-! DEFINITION. The registers of the manual, field by field: the bits, access codes (Table 0-5) and reset values of every register
table, each field under the manual's own name (`F.<REGISTER>_<FIELD>`), and for each block of Table 9-5 the list of its registers.
Reserved fields read as zero and take no value (R13), so they have no row. -/

namespace Sys2Proof.Machine

/-- The access codes of Table 0-5. -/
inductive Access where
  | ro | rw | w1c | wo | rwl | rwh
deriving DecidableEq, Repr

/-- The fuse-borne and identity values that a reset loads (Table 0-6, R25 to R27, R96, R438). -/
inductive FuseSrc where
  | grade | activeClusters | activePlots | fallow | seed | serial | svnFloor
  | ownerSet | custodianSet | siteOptSet | siteOnly | nonce | keyValid | keyRole | keyId
deriving DecidableEq, Repr

/-- Where a field's reset value comes from: a number, a place in the option block (R398), or a fuse (Table 0-6).
`optPort`, `optAxis` and `optVc` are the option block's arrays PORT_n, AXIS_a and CREDITS_v. -/
inductive Rst where
  | lit (v : Nat)
  | opt (byte bit : Nat)
  | optPort (bit : Nat)
  | optAxis (bit : Nat)
  | optVc
  | fuse (f : FuseSrc)
deriving DecidableEq, Repr

/-- One field of a register: the register's offset in its block with its stride and count, then the field's lowest bit, width,
access code and reset value. -/
structure Field where
  off : Nat
  stride : Nat
  count : Nat
  lo : Nat
  w : Nat
  acc : Access
  rst : Rst
deriving DecidableEq, Repr

/-- One register of a block, or an array of them: offset, stride, count and fields. -/
structure Reg where
  off : Nat
  stride : Nat
  count : Nat
  fields : List Field
deriving DecidableEq, Repr

namespace F
/-- R25: GLOBAL_ID [7:0] GRADE. -/
def GLOBAL_ID_GRADE : Field := ⟨0x0, 0x0, 1, 0, 8, .ro, .fuse .grade⟩
/-- R25: GLOBAL_ID [15:8] STEPPING. -/
def GLOBAL_ID_STEPPING : Field := ⟨0x0, 0x0, 1, 8, 8, .ro, .lit 0xB0⟩
/-- R25: GLOBAL_ID [31:16] DEVICE_ID. -/
def GLOBAL_ID_DEVICE_ID : Field := ⟨0x0, 0x0, 1, 16, 16, .rwl, .opt 0x10 0⟩
/-- R25: GLOBAL_ID [47:32] ACTIVE_CLUSTERS. -/
def GLOBAL_ID_ACTIVE_CLUSTERS : Field := ⟨0x0, 0x0, 1, 32, 16, .ro, .fuse .activeClusters⟩
/-- R26: PLOT_ENABLE [31:0] ACTIVE_PLOTS. -/
def PLOT_ENABLE_ACTIVE_PLOTS : Field := ⟨0x8, 0x0, 1, 0, 32, .ro, .fuse .activePlots⟩
/-- R27: PLOT_MAP_p [4:0] STANDIN. -/
def PLOT_MAP_STANDIN : Field := ⟨0x100, 0x8, 32, 0, 5, .ro, .lit 31⟩
/-- R27: PLOT_MAP_p [8] SPARE_RETIRED. -/
def PLOT_MAP_SPARE_RETIRED : Field := ⟨0x100, 0x8, 32, 8, 1, .ro, .lit 0⟩
/-- R27: PLOT_MAP_p [31:16] RETIRED. -/
def PLOT_MAP_RETIRED : Field := ⟨0x100, 0x8, 32, 16, 16, .ro, .lit 0⟩
/-- R27: PLOT_MAP_p [63] FALLOW. -/
def PLOT_MAP_FALLOW : Field := ⟨0x100, 0x8, 32, 63, 1, .ro, .fuse .fallow⟩
/-- R61: PASS_CFG [14:0] PASS_LEN. -/
def PASS_CFG_PASS_LEN : Field := ⟨0x0, 0x0, 1, 0, 15, .rwl, .opt 0x12 0⟩
/-- R61: PASS_CFG [30:16] BUDGET_CLK. -/
def PASS_CFG_BUDGET_CLK : Field := ⟨0x0, 0x0, 1, 16, 15, .ro, .lit 0⟩
/-- R61: PASS_CFG [46:32] EDGE_BUDGET. -/
def PASS_CFG_EDGE_BUDGET : Field := ⟨0x0, 0x0, 1, 32, 15, .ro, .lit 0⟩
/-- R62: FIELD_COUNT [63:0] COUNT. -/
def FIELD_COUNT_COUNT : Field := ⟨0x8, 0x0, 1, 0, 64, .ro, .lit 0⟩
/-- R62: PASS_NUM [47:0] NUM. -/
def PASS_NUM_NUM : Field := ⟨0x10, 0x0, 1, 0, 48, .ro, .lit 0⟩
/-- R62: PASS_PHASE [14:0] PHASE. -/
def PASS_PHASE_PHASE : Field := ⟨0x18, 0x0, 1, 0, 15, .ro, .lit 0⟩
/-- R62: PASS_PHASE [25:16] SLOT. -/
def PASS_PHASE_SLOT : Field := ⟨0x18, 0x0, 1, 16, 10, .ro, .lit 0⟩
/-- R63: TIME_CFG [11:0] SYNC_PORTS. -/
def TIME_CFG_SYNC_PORTS : Field := ⟨0x20, 0x0, 1, 0, 12, .rwl, .opt 0x18 0⟩
/-- R63: TIME_CFG [16] ROOT_BAR. -/
def TIME_CFG_ROOT_BAR : Field := ⟨0x20, 0x0, 1, 16, 1, .rwl, .opt 0x18 15⟩
/-- R63: TIME_STAT [2:0] STATE. -/
def TIME_STAT_STATE : Field := ⟨0x28, 0x0, 1, 0, 3, .ro, .lit 0⟩
/-- R63: TIME_STAT [7:4] PARENT_PORT. -/
def TIME_STAT_PARENT_PORT : Field := ⟨0x28, 0x0, 1, 4, 4, .ro, .lit 15⟩
/-- R63: TIME_STAT [15:8] HOPS_TO_ROOT. -/
def TIME_STAT_HOPS_TO_ROOT : Field := ⟨0x28, 0x0, 1, 8, 8, .ro, .lit 0⟩
/-- R63: TIME_STAT [31:16] ROOT_ID. -/
def TIME_STAT_ROOT_ID : Field := ⟨0x28, 0x0, 1, 16, 16, .ro, .lit 0⟩
/-- R63: TIME_STAT [47:32] OFFSET. -/
def TIME_STAT_OFFSET : Field := ⟨0x28, 0x0, 1, 32, 16, .ro, .lit 0⟩
/-- R63: TIME_STAT [59:48] FOREIGN_PORTS. -/
def TIME_STAT_FOREIGN_PORTS : Field := ⟨0x28, 0x0, 1, 48, 12, .ro, .lit 0⟩
/-- R64: COMMIT_CFG [5:0] COMMIT_GUARD. -/
def COMMIT_CFG_COMMIT_GUARD : Field := ⟨0x30, 0x0, 1, 0, 6, .rwl, .opt 0x14 0⟩
/-- R64: COMMIT_COUNT [31:0] REEXECUTED. -/
def COMMIT_COUNT_REEXECUTED : Field := ⟨0x38, 0x0, 1, 0, 32, .ro, .lit 0⟩
/-- R64: COMMIT_COUNT [63:32] SLIPPED. -/
def COMMIT_COUNT_SLIPPED : Field := ⟨0x38, 0x0, 1, 32, 32, .ro, .lit 0⟩
/-- R64: HOLD_COUNT [31:0] HELD_DELIVERIES. -/
def HOLD_COUNT_HELD_DELIVERIES : Field := ⟨0x40, 0x0, 1, 0, 32, .ro, .lit 0⟩
/-- R64: HOLD_COUNT [63:32] HELD_READS. -/
def HOLD_COUNT_HELD_READS : Field := ⟨0x40, 0x0, 1, 32, 32, .ro, .lit 0⟩
/-- R64: SEQ_STAT [0] MISMATCH. -/
def SEQ_STAT_MISMATCH : Field := ⟨0x48, 0x0, 1, 0, 1, .w1c, .lit 0⟩
/-- R64: SEQ_STAT [63:16] MISMATCH_PASS. -/
def SEQ_STAT_MISMATCH_PASS : Field := ⟨0x48, 0x0, 1, 16, 48, .ro, .lit 0⟩
/-- R96: EXC_CFG [7:0] CAPTURE_MASK. -/
def EXC_CFG_CAPTURE_MASK : Field := ⟨0x800, 0x0, 1, 0, 8, .rw, .lit 1⟩
/-- R96: EXC_SUMMARY [7:0] STICKY. -/
def EXC_SUMMARY_STICKY : Field := ⟨0x808, 0x0, 1, 0, 8, .w1c, .lit 0⟩
/-- R96: EXC_SUMMARY [8] CAPTURED. -/
def EXC_SUMMARY_CAPTURED : Field := ⟨0x808, 0x0, 1, 8, 1, .w1c, .lit 0⟩
/-- R96: EXC_SUMMARY [23:16] CAPTURED_FLAGS. -/
def EXC_SUMMARY_CAPTURED_FLAGS : Field := ⟨0x808, 0x0, 1, 16, 8, .ro, .lit 0⟩
/-- R96: EXC_SUMMARY [25:24] ENGINE. -/
def EXC_SUMMARY_ENGINE : Field := ⟨0x808, 0x0, 1, 24, 2, .ro, .lit 0⟩
/-- R96: EXC_FIRST_ID [15:0] LAYER_ID. -/
def EXC_FIRST_ID_LAYER_ID : Field := ⟨0x810, 0x0, 1, 0, 16, .ro, .lit 0⟩
/-- R96: EXC_FIRST_ID [31:16] OPERATOR_ID. -/
def EXC_FIRST_ID_OPERATOR_ID : Field := ⟨0x810, 0x0, 1, 16, 16, .ro, .lit 0⟩
/-- R96: EXC_FIRST_ID [36:32] REG. -/
def EXC_FIRST_ID_REG : Field := ⟨0x810, 0x0, 1, 32, 5, .ro, .lit 0⟩
/-- R96: EXC_FIRST_ID [47:40] EPOCH. -/
def EXC_FIRST_ID_EPOCH : Field := ⟨0x810, 0x0, 1, 40, 8, .ro, .lit 0⟩
/-- R96: EXC_FIRST_POS [31:0] ELEMENT. -/
def EXC_FIRST_POS_ELEMENT : Field := ⟨0x818, 0x0, 1, 0, 32, .ro, .lit 0⟩
/-- R96: EXC_FIRST_POS [39:32] ROW. -/
def EXC_FIRST_POS_ROW : Field := ⟨0x818, 0x0, 1, 32, 8, .ro, .lit 0⟩
/-- R96: EXC_FIRST_POS [47:40] COLUMN. -/
def EXC_FIRST_POS_COLUMN : Field := ⟨0x818, 0x0, 1, 40, 8, .ro, .lit 0⟩
/-- R96: EXC_FIRST_TIME [63:0] STAMP. -/
def EXC_FIRST_TIME_STAMP : Field := ⟨0x820, 0x0, 1, 0, 64, .ro, .lit 0⟩
/-- R96: SR_SEED [63:0] SEED. -/
def SR_SEED_SEED : Field := ⟨0x828, 0x0, 1, 0, 64, .rw, .fuse .seed⟩
/-- R124: MAT_STAT [5:0] QUEUED. -/
def MAT_STAT_QUEUED : Field := ⟨0x400, 0x0, 1, 0, 6, .ro, .lit 0⟩
/-- R124: MAT_STAT [11:8] IN_PIPE. -/
def MAT_STAT_IN_PIPE : Field := ⟨0x400, 0x0, 1, 8, 4, .ro, .lit 0⟩
/-- R124: MAT_STAT [31:16] TILE_BUSY. -/
def MAT_STAT_TILE_BUSY : Field := ⟨0x400, 0x0, 1, 16, 16, .ro, .lit 0⟩
/-- R124: MAT_STAT [32] STREAMING. -/
def MAT_STAT_STREAMING : Field := ⟨0x400, 0x0, 1, 32, 1, .ro, .lit 0⟩
/-- R124: MAT_EDGES [63:0] BUSY. -/
def MAT_EDGES_BUSY : Field := ⟨0x408, 0x0, 1, 0, 64, .ro, .lit 0⟩
/-- R124: MAT_ROWS [63:0] ROWS. -/
def MAT_ROWS_ROWS : Field := ⟨0x410, 0x0, 1, 0, 64, .ro, .lit 0⟩
/-- R124: MAT_STALL [31:0] TILE_STALL. -/
def MAT_STALL_TILE_STALL : Field := ⟨0x418, 0x0, 1, 0, 32, .ro, .lit 0⟩
/-- R124: MAT_STALL [63:32] LOAD_BOUND. -/
def MAT_STALL_LOAD_BOUND : Field := ⟨0x418, 0x0, 1, 32, 32, .ro, .lit 0⟩
/-- R124: MAT_CHECK [15:0] RESIDUE_ERRS. -/
def MAT_CHECK_RESIDUE_ERRS : Field := ⟨0x420, 0x0, 1, 0, 16, .ro, .lit 0⟩
/-- R124: MAT_CHECK [31:16] COMPARE_ERRS. -/
def MAT_CHECK_COMPARE_ERRS : Field := ⟨0x420, 0x0, 1, 16, 16, .ro, .lit 0⟩
/-- R124: MAT_CHECK [47:32] PARITY_ERRS. -/
def MAT_CHECK_PARITY_ERRS : Field := ⟨0x420, 0x0, 1, 32, 16, .ro, .lit 0⟩
/-- R124: MAT_CHECK_CTL [0] CLEAR. -/
def MAT_CHECK_CTL_CLEAR : Field := ⟨0x428, 0x0, 1, 0, 1, .wo, .lit 0⟩
/-- R124: MAT_CHECK_CTL [1] INJECT_RESIDUE. -/
def MAT_CHECK_CTL_INJECT_RESIDUE : Field := ⟨0x428, 0x0, 1, 1, 1, .wo, .lit 0⟩
/-- R124: MAT_CHECK_CTL [2] INJECT_COMPARE. -/
def MAT_CHECK_CTL_INJECT_COMPARE : Field := ⟨0x428, 0x0, 1, 2, 1, .wo, .lit 0⟩
/-- R124: MAT_CHECK_CTL [3] INJECT_PARITY. -/
def MAT_CHECK_CTL_INJECT_PARITY : Field := ⟨0x428, 0x0, 1, 3, 1, .wo, .lit 0⟩
/-- R124: MAT_REBLOCK [47:0] CHANGED. -/
def MAT_REBLOCK_CHANGED : Field := ⟨0x430, 0x0, 1, 0, 48, .ro, .lit 0⟩
/-- R150: VEC_STAT [5:0] QUEUED. -/
def VEC_STAT_QUEUED : Field := ⟨0x500, 0x0, 1, 0, 6, .ro, .lit 0⟩
/-- R150: VEC_STAT [8] BUSY. -/
def VEC_STAT_BUSY : Field := ⟨0x500, 0x0, 1, 8, 1, .ro, .lit 0⟩
/-- R150: VEC_STAT [9] MODE. -/
def VEC_STAT_MODE : Field := ⟨0x500, 0x0, 1, 9, 1, .ro, .lit 0⟩
/-- R150: VEC_STAT [10] BANK. -/
def VEC_STAT_BANK : Field := ⟨0x500, 0x0, 1, 10, 1, .ro, .lit 0⟩
/-- R150: VEC_STAT [20:12] LANES. -/
def VEC_STAT_LANES : Field := ⟨0x500, 0x0, 1, 12, 9, .ro, .lit 0⟩
/-- R150: VEC_STAT [45:32] PC. -/
def VEC_STAT_PC : Field := ⟨0x500, 0x0, 1, 32, 14, .ro, .lit 0⟩
/-- R150: VEC_EDGES [63:0] BUSY. -/
def VEC_EDGES_BUSY : Field := ⟨0x508, 0x0, 1, 0, 64, .ro, .lit 0⟩
/-- R150: VEC_INSTR [63:0] ISSUED. -/
def VEC_INSTR_ISSUED : Field := ⟨0x510, 0x0, 1, 0, 64, .ro, .lit 0⟩
/-- R150: VEC_LANEOPS [63:0] LANEOPS. -/
def VEC_LANEOPS_LANEOPS : Field := ⟨0x518, 0x0, 1, 0, 64, .ro, .lit 0⟩
/-- R150: VEC_STALL [31:0] DEP_STALL. -/
def VEC_STALL_DEP_STALL : Field := ⟨0x520, 0x0, 1, 0, 32, .ro, .lit 0⟩
/-- R150: VEC_STALL [63:32] PIPE_STALL. -/
def VEC_STALL_PIPE_STALL : Field := ⟨0x520, 0x0, 1, 32, 32, .ro, .lit 0⟩
/-- R150: VEC_STRICT [63:0] STRICT_EDGES. -/
def VEC_STRICT_STRICT_EDGES : Field := ⟨0x528, 0x0, 1, 0, 64, .ro, .lit 0⟩
/-- R150: VEC_CHECK [15:0] COMPARE_ERRS. -/
def VEC_CHECK_COMPARE_ERRS : Field := ⟨0x530, 0x0, 1, 0, 16, .ro, .lit 0⟩
/-- R150: VEC_CHECK [31:16] PARITY_ERRS. -/
def VEC_CHECK_PARITY_ERRS : Field := ⟨0x530, 0x0, 1, 16, 16, .ro, .lit 0⟩
/-- R150: VEC_CHECK_CTL [0] CLEAR. -/
def VEC_CHECK_CTL_CLEAR : Field := ⟨0x538, 0x0, 1, 0, 1, .wo, .lit 0⟩
/-- R150: VEC_CHECK_CTL [1] INJECT_COMPARE. -/
def VEC_CHECK_CTL_INJECT_COMPARE : Field := ⟨0x538, 0x0, 1, 1, 1, .wo, .lit 0⟩
/-- R150: VEC_CHECK_CTL [2] INJECT_PARITY. -/
def VEC_CHECK_CTL_INJECT_PARITY : Field := ⟨0x538, 0x0, 1, 2, 1, .wo, .lit 0⟩
/-- R180: CORE_STAT [0] HALTED. -/
def CORE_STAT_HALTED : Field := ⟨0x0, 0x0, 1, 0, 1, .ro, .lit 1⟩
/-- R180: CORE_STAT [1] IN_FURROW. -/
def CORE_STAT_IN_FURROW : Field := ⟨0x0, 0x0, 1, 1, 1, .ro, .lit 0⟩
/-- R180: CORE_STAT [2] WAIT_PASS. -/
def CORE_STAT_WAIT_PASS : Field := ⟨0x0, 0x0, 1, 2, 1, .ro, .lit 0⟩
/-- R180: CORE_STAT [3] WAIT_TOKEN. -/
def CORE_STAT_WAIT_TOKEN : Field := ⟨0x0, 0x0, 1, 3, 1, .ro, .lit 0⟩
/-- R180: CORE_STAT [4] WAIT_QUEUE. -/
def CORE_STAT_WAIT_QUEUE : Field := ⟨0x0, 0x0, 1, 4, 1, .ro, .lit 0⟩
/-- R180: CORE_STAT [5] WAIT_FEND. -/
def CORE_STAT_WAIT_FEND : Field := ⟨0x0, 0x0, 1, 5, 1, .ro, .lit 0⟩
/-- R180: CORE_STAT [6] REEXEC. -/
def CORE_STAT_REEXEC : Field := ⟨0x0, 0x0, 1, 6, 1, .ro, .lit 0⟩
/-- R180: CORE_STAT [7] BANK. -/
def CORE_STAT_BANK : Field := ⟨0x0, 0x0, 1, 7, 1, .ro, .lit 0⟩
/-- R180: CORE_STAT [10:8] SLOT. -/
def CORE_STAT_SLOT : Field := ⟨0x0, 0x0, 1, 8, 3, .ro, .lit 0⟩
/-- R180: CORE_STAT [29:16] PC. -/
def CORE_STAT_PC : Field := ⟨0x0, 0x0, 1, 16, 14, .ro, .lit 0⟩
/-- R180: CORE_STAT [47:32] FURROW_ID. -/
def CORE_STAT_FURROW_ID : Field := ⟨0x0, 0x0, 1, 32, 16, .ro, .lit 0⟩
/-- R180: CORE_HALT [7:0] REASON. -/
def CORE_HALT_REASON : Field := ⟨0x8, 0x0, 1, 0, 8, .ro, .lit 0⟩
/-- R180: CORE_HALT [10:8] SOURCE. -/
def CORE_HALT_SOURCE : Field := ⟨0x8, 0x0, 1, 8, 3, .ro, .lit 0⟩
/-- R180: CORE_HALT [11] BANK. -/
def CORE_HALT_BANK : Field := ⟨0x8, 0x0, 1, 11, 1, .ro, .lit 0⟩
/-- R180: CORE_HALT [29:16] ADDR. -/
def CORE_HALT_ADDR : Field := ⟨0x8, 0x0, 1, 16, 14, .ro, .lit 0⟩
/-- R180: CORE_HALT [47:32] FURROW_ID. -/
def CORE_HALT_FURROW_ID : Field := ⟨0x8, 0x0, 1, 32, 16, .ro, .lit 0⟩
/-- R180: CORE_HALT [55:48] CMD_CODE. -/
def CORE_HALT_CMD_CODE : Field := ⟨0x8, 0x0, 1, 48, 8, .ro, .lit 0⟩
/-- R180: CORE_HALT_TIME [63:0] STAMP. -/
def CORE_HALT_TIME_STAMP : Field := ⟨0x10, 0x0, 1, 0, 64, .ro, .lit 0⟩
/-- R180: CORE_DBG [0] RESUME. -/
def CORE_DBG_RESUME : Field := ⟨0x18, 0x0, 1, 0, 1, .wo, .lit 0⟩
/-- R180: CORE_DBG [1] STEP. -/
def CORE_DBG_STEP : Field := ⟨0x18, 0x0, 1, 1, 1, .wo, .lit 0⟩
/-- R180: CORE_DBG [2] HALT_REQ. -/
def CORE_DBG_HALT_REQ : Field := ⟨0x18, 0x0, 1, 2, 1, .wo, .lit 0⟩
/-- R180: CORE_DBG [3] DEBUG_EN. -/
def CORE_DBG_DEBUG_EN : Field := ⟨0x18, 0x0, 1, 3, 1, .rw, .lit 0⟩
/-- R180: CORE_DBG [12:8] GSEL. -/
def CORE_DBG_GSEL : Field := ⟨0x18, 0x0, 1, 8, 5, .rw, .lit 0⟩
/-- R180: CORE_DBG [29:16] RESUME_PC. -/
def CORE_DBG_RESUME_PC : Field := ⟨0x18, 0x0, 1, 16, 14, .rw, .lit 0⟩
/-- R180: CORE_GDATA [63:0] DATA. -/
def CORE_GDATA_DATA : Field := ⟨0x20, 0x0, 1, 0, 64, .rw, .lit 0⟩
/-- R180: IM_CTL [0] SWITCH. -/
def IM_CTL_SWITCH : Field := ⟨0x28, 0x0, 1, 0, 1, .wo, .lit 0⟩
/-- R180: IM_CTL [29:16] ENTRY. -/
def IM_CTL_ENTRY : Field := ⟨0x28, 0x0, 1, 16, 14, .rw, .lit 0⟩
/-- R180: IM_STAT [0] ACTIVE. -/
def IM_STAT_ACTIVE : Field := ⟨0x30, 0x0, 1, 0, 1, .ro, .lit 0⟩
/-- R180: IM_STAT [1] SWITCH_PENDING. -/
def IM_STAT_SWITCH_PENDING : Field := ⟨0x30, 0x0, 1, 1, 1, .ro, .lit 0⟩
/-- R180: IM_STAT [2] DRAINING. -/
def IM_STAT_DRAINING : Field := ⟨0x30, 0x0, 1, 2, 1, .ro, .lit 0⟩
/-- R180: IM_STAT [3] STARTED. -/
def IM_STAT_STARTED : Field := ⟨0x30, 0x0, 1, 3, 1, .ro, .lit 0⟩
/-- R180: IM_STAT [9:8] FETCHERS. -/
def IM_STAT_FETCHERS : Field := ⟨0x30, 0x0, 1, 8, 2, .ro, .lit 0⟩
/-- R180: IM_STAT [29:16] PENDING_ENTRY. -/
def IM_STAT_PENDING_ENTRY : Field := ⟨0x30, 0x0, 1, 16, 14, .ro, .lit 0⟩
/-- R180: IM_STAT [47:32] WRITE_ERRS. -/
def IM_STAT_WRITE_ERRS : Field := ⟨0x30, 0x0, 1, 32, 16, .ro, .lit 0⟩
/-- R180: CORE_BPn [13:0] OFFSET. -/
def CORE_BP_OFFSET : Field := ⟨0x38, 0x8, 4, 0, 14, .rw, .lit 0⟩
/-- R180: CORE_BPn [16] BANK. -/
def CORE_BP_BANK : Field := ⟨0x38, 0x8, 4, 16, 1, .rw, .lit 0⟩
/-- R180: CORE_BPn [17] ENABLE. -/
def CORE_BP_ENABLE : Field := ⟨0x38, 0x8, 4, 17, 1, .rw, .lit 0⟩
/-- R180: CORE_EDGES [63:0] RUN. -/
def CORE_EDGES_RUN : Field := ⟨0x58, 0x0, 1, 0, 64, .ro, .lit 0⟩
/-- R180: CORE_INSTR [63:0] RETIRED. -/
def CORE_INSTR_RETIRED : Field := ⟨0x60, 0x0, 1, 0, 64, .ro, .lit 0⟩
/-- R180: CORE_STALL [31:0] QUEUE_FULL. -/
def CORE_STALL_QUEUE_FULL : Field := ⟨0x68, 0x0, 1, 0, 32, .ro, .lit 0⟩
/-- R180: CORE_STALL [63:32] TOKEN_WAIT. -/
def CORE_STALL_TOKEN_WAIT : Field := ⟨0x68, 0x0, 1, 32, 32, .ro, .lit 0⟩
/-- R180: CORE_FURROWS [31:0] BEGUN. -/
def CORE_FURROWS_BEGUN : Field := ⟨0x70, 0x0, 1, 0, 32, .ro, .lit 0⟩
/-- R180: CORE_FURROWS [63:32] FEND_WAIT. -/
def CORE_FURROWS_FEND_WAIT : Field := ⟨0x70, 0x0, 1, 32, 32, .ro, .lit 0⟩
/-- R180: CORE_CHECK [15:0] LOCKSTEP_ERRS. -/
def CORE_CHECK_LOCKSTEP_ERRS : Field := ⟨0x78, 0x0, 1, 0, 16, .ro, .lit 0⟩
/-- R180: CORE_CHECK [31:16] MEM_CORRECTED. -/
def CORE_CHECK_MEM_CORRECTED : Field := ⟨0x78, 0x0, 1, 16, 16, .ro, .lit 0⟩
/-- R180: CORE_CHECK [47:32] MEM_UNCORRECTED. -/
def CORE_CHECK_MEM_UNCORRECTED : Field := ⟨0x78, 0x0, 1, 32, 16, .ro, .lit 0⟩
/-- R180: CORE_CHECK_CTL [0] CLEAR. -/
def CORE_CHECK_CTL_CLEAR : Field := ⟨0x80, 0x0, 1, 0, 1, .wo, .lit 0⟩
/-- R180: CORE_CHECK_CTL [1] INJECT_LOCKSTEP. -/
def CORE_CHECK_CTL_INJECT_LOCKSTEP : Field := ⟨0x80, 0x0, 1, 1, 1, .wo, .lit 0⟩
/-- R180: CORE_CHECK_CTL [2] INJECT_MEM. -/
def CORE_CHECK_CTL_INJECT_MEM : Field := ⟨0x80, 0x0, 1, 2, 1, .wo, .lit 0⟩
/-- R204: CMD_QSTAT [5:0] MAT_FWD. -/
def CMD_QSTAT_MAT_FWD : Field := ⟨0x600, 0x0, 1, 0, 6, .ro, .lit 0⟩
/-- R204: CMD_QSTAT [13:8] MAT_BWD. -/
def CMD_QSTAT_MAT_BWD : Field := ⟨0x600, 0x0, 1, 8, 6, .ro, .lit 0⟩
/-- R204: CMD_QSTAT [21:16] VEC_FWD. -/
def CMD_QSTAT_VEC_FWD : Field := ⟨0x600, 0x0, 1, 16, 6, .ro, .lit 0⟩
/-- R204: CMD_QSTAT [29:24] VEC_BWD. -/
def CMD_QSTAT_VEC_BWD : Field := ⟨0x600, 0x0, 1, 24, 6, .ro, .lit 0⟩
/-- R204: CMD_QSTAT [38:32] DM_FWD. -/
def CMD_QSTAT_DM_FWD : Field := ⟨0x600, 0x0, 1, 32, 7, .ro, .lit 0⟩
/-- R204: CMD_QSTAT [46:40] DM_BWD. -/
def CMD_QSTAT_DM_BWD : Field := ⟨0x600, 0x0, 1, 40, 7, .ro, .lit 0⟩
/-- R204: CMD_QSTAT [51:48] DM_INFLIGHT. -/
def CMD_QSTAT_DM_INFLIGHT : Field := ⟨0x600, 0x0, 1, 48, 4, .ro, .lit 0⟩
/-- R204: CMP_RING [20:0] BASE. -/
def CMP_RING_BASE : Field := ⟨0x608, 0x0, 1, 0, 21, .rw, .lit 0⟩
/-- R204: CMP_RING [27:24] SIZE_LOG2. -/
def CMP_RING_SIZE_LOG2 : Field := ⟨0x608, 0x0, 1, 24, 4, .rw, .lit 0⟩
/-- R204: CMP_WIDX [31:0] WIDX. -/
def CMP_WIDX_WIDX : Field := ⟨0x610, 0x0, 1, 0, 32, .ro, .lit 0⟩
/-- R204: EPOCH_STAT [7:0] CUR. -/
def EPOCH_STAT_CUR : Field := ⟨0x618, 0x0, 1, 0, 8, .ro, .lit 0⟩
/-- R204: EPOCH_STAT [15:8] PREV. -/
def EPOCH_STAT_PREV : Field := ⟨0x618, 0x0, 1, 8, 8, .ro, .lit 0⟩
/-- R204: EPOCH_STAT [16] PREV_OPEN. -/
def EPOCH_STAT_PREV_OPEN : Field := ⟨0x618, 0x0, 1, 16, 1, .ro, .lit 0⟩
/-- R204: EPOCH_STAT [17] ADV_PENDING. -/
def EPOCH_STAT_ADV_PENDING : Field := ⟨0x618, 0x0, 1, 17, 1, .ro, .lit 0⟩
/-- R204: EPOCH_STAT [31:24] PENDING_NEXT. -/
def EPOCH_STAT_PENDING_NEXT : Field := ⟨0x618, 0x0, 1, 24, 8, .ro, .lit 0⟩
/-- R204: EPOCH_CTL [7:0] NEXT. -/
def EPOCH_CTL_NEXT : Field := ⟨0x620, 0x0, 1, 0, 8, .rw, .lit 0⟩
/-- R204: EPOCH_CTL [8] ADVANCE. -/
def EPOCH_CTL_ADVANCE : Field := ⟨0x620, 0x0, 1, 8, 1, .wo, .lit 0⟩
/-- R204: EPOCH_DISCARDS [31:0] STALE_CMDS. -/
def EPOCH_DISCARDS_STALE_CMDS : Field := ⟨0x628, 0x0, 1, 0, 32, .ro, .lit 0⟩
/-- R204: EPOCH_DISCARDS [63:32] STALE_PKTS. -/
def EPOCH_DISCARDS_STALE_PKTS : Field := ⟨0x628, 0x0, 1, 32, 32, .ro, .lit 0⟩
/-- R204: HEAD_WAIT [31:0] MAT. -/
def HEAD_WAIT_MAT : Field := ⟨0x630, 0x0, 1, 0, 32, .ro, .lit 0⟩
/-- R204: HEAD_WAIT [63:32] VEC. -/
def HEAD_WAIT_VEC : Field := ⟨0x630, 0x0, 1, 32, 32, .ro, .lit 0⟩
/-- R204: DM_WAIT [31:0] DM. -/
def DM_WAIT_DM : Field := ⟨0x638, 0x0, 1, 0, 32, .ro, .lit 0⟩
/-- R204: DM_WAIT [63:32] BYPASS. -/
def DM_WAIT_BYPASS : Field := ⟨0x638, 0x0, 1, 32, 32, .ro, .lit 0⟩
/-- R204: HELD_STAT [7:0] ENTRIES. -/
def HELD_STAT_ENTRIES : Field := ⟨0x640, 0x0, 1, 0, 8, .ro, .lit 0⟩
/-- R204: HELD_STAT [15:8] PEAK. -/
def HELD_STAT_PEAK : Field := ⟨0x640, 0x0, 1, 8, 8, .ro, .lit 0⟩
/-- R204: HELD_STAT [63:32] BACKPRESSURE. -/
def HELD_STAT_BACKPRESSURE : Field := ⟨0x640, 0x0, 1, 32, 32, .ro, .lit 0⟩
/-- R204: TOKi [15:0] T0. -/
def TOK_T0 : Field := ⟨0x700, 0x8, 16, 0, 16, .rw, .lit 0⟩
/-- R204: TOKi [31:16] T1. -/
def TOK_T1 : Field := ⟨0x700, 0x8, 16, 16, 16, .rw, .lit 0⟩
/-- R204: TOKi [47:32] T2. -/
def TOK_T2 : Field := ⟨0x700, 0x8, 16, 32, 16, .rw, .lit 0⟩
/-- R204: TOKi [63:48] T3. -/
def TOK_T3 : Field := ⟨0x700, 0x8, 16, 48, 16, .rw, .lit 0⟩
/-- R237: GRAN_ECC [31:0] CORRECTED. -/
def GRAN_ECC_CORRECTED : Field := ⟨0x0, 0x0, 1, 0, 32, .ro, .lit 0⟩
/-- R237: GRAN_ECC [47:32] UNCORRECTABLE. -/
def GRAN_ECC_UNCORRECTABLE : Field := ⟨0x0, 0x0, 1, 32, 16, .ro, .lit 0⟩
/-- R237: GRAN_ECC_LAST [20:0] LINE. -/
def GRAN_ECC_LAST_LINE : Field := ⟨0x8, 0x0, 1, 0, 21, .ro, .lit 0⟩
/-- R237: GRAN_ECC_LAST [21] VALID. -/
def GRAN_ECC_LAST_VALID : Field := ⟨0x8, 0x0, 1, 21, 1, .ro, .lit 0⟩
/-- R237: GRAN_ECC_LAST [30:24] SYMBOL. -/
def GRAN_ECC_LAST_SYMBOL : Field := ⟨0x8, 0x0, 1, 24, 7, .ro, .lit 0⟩
/-- R237: GRAN_UC_FIRST [20:0] LINE. -/
def GRAN_UC_FIRST_LINE : Field := ⟨0x10, 0x0, 1, 0, 21, .ro, .lit 0⟩
/-- R237: GRAN_UC_FIRST [21] VALID. -/
def GRAN_UC_FIRST_VALID : Field := ⟨0x10, 0x0, 1, 21, 1, .w1c, .lit 0⟩
/-- R237: GRAN_UC_TIME [63:0] STAMP. -/
def GRAN_UC_TIME_STAMP : Field := ⟨0x18, 0x0, 1, 0, 64, .ro, .lit 0⟩
/-- R237: GRAN_REPAIR [5:0] QUEUED. -/
def GRAN_REPAIR_QUEUED : Field := ⟨0x20, 0x0, 1, 0, 6, .ro, .lit 0⟩
/-- R237: GRAN_REPAIR [31:16] DROPPED. -/
def GRAN_REPAIR_DROPPED : Field := ⟨0x20, 0x0, 1, 16, 16, .ro, .lit 0⟩
/-- R237: GRAN_REPAIR [63:32] REPAIRED. -/
def GRAN_REPAIR_REPAIRED : Field := ⟨0x20, 0x0, 1, 32, 32, .ro, .lit 0⟩
/-- R237: GRAN_OPEN [8:0] EXTENTS. -/
def GRAN_OPEN_EXTENTS : Field := ⟨0x28, 0x0, 1, 0, 9, .ro, .lit 0⟩
/-- R237: GRAN_OPEN [24:16] PEAK. -/
def GRAN_OPEN_PEAK : Field := ⟨0x28, 0x0, 1, 16, 9, .ro, .lit 0⟩
/-- R237: GRAN_ECC_CTL [0] CLEAR. -/
def GRAN_ECC_CTL_CLEAR : Field := ⟨0x30, 0x0, 1, 0, 1, .wo, .lit 0⟩
/-- R237: GRAN_ECC_CTL [1] INJECT_SINGLE. -/
def GRAN_ECC_CTL_INJECT_SINGLE : Field := ⟨0x30, 0x0, 1, 1, 1, .wo, .lit 0⟩
/-- R237: GRAN_ECC_CTL [2] INJECT_DOUBLE. -/
def GRAN_ECC_CTL_INJECT_DOUBLE : Field := ⟨0x30, 0x0, 1, 2, 1, .wo, .lit 0⟩
/-- R237: GLEAN_CFG [15:0] LINES_PER_PASS. -/
def GLEAN_CFG_LINES_PER_PASS : Field := ⟨0x100, 0x0, 1, 0, 16, .rw, .lit 512⟩
/-- R237: GLEAN_CFG [16] ENABLE. -/
def GLEAN_CFG_ENABLE : Field := ⟨0x100, 0x0, 1, 16, 1, .rw, .lit 1⟩
/-- R237: GLEAN_CFG [17] SUM_EN. -/
def GLEAN_CFG_SUM_EN : Field := ⟨0x100, 0x0, 1, 17, 1, .rw, .lit 1⟩
/-- R237: GLEAN_STAT [20:0] POS. -/
def GLEAN_STAT_POS : Field := ⟨0x108, 0x0, 1, 0, 21, .ro, .lit 0⟩
/-- R237: GLEAN_STAT [24] BUSY. -/
def GLEAN_STAT_BUSY : Field := ⟨0x108, 0x0, 1, 24, 1, .ro, .lit 0⟩
/-- R237: GLEAN_STAT [63:32] SWEEPS. -/
def GLEAN_STAT_SWEEPS : Field := ⟨0x108, 0x0, 1, 32, 32, .ro, .lit 0⟩
/-- R237: GLEAN_SUM_RING [41:0] BASE. -/
def GLEAN_SUM_RING_BASE : Field := ⟨0x110, 0x0, 1, 0, 42, .rw, .lit 0⟩
/-- R237: GLEAN_SUM_RING [47:44] SIZE_LOG2. -/
def GLEAN_SUM_RING_SIZE_LOG2 : Field := ⟨0x110, 0x0, 1, 44, 4, .rw, .lit 0⟩
/-- R237: GLEAN_SUM_RING [63:48] WIDX. -/
def GLEAN_SUM_RING_WIDX : Field := ⟨0x110, 0x0, 1, 48, 16, .ro, .lit 0⟩
/-- R237: GLEAN_REQ_RANGE [20:0] START. -/
def GLEAN_REQ_RANGE_START : Field := ⟨0x118, 0x0, 1, 0, 21, .rw, .lit 0⟩
/-- R237: GLEAN_REQ_RANGE [43:22] LINES. -/
def GLEAN_REQ_RANGE_LINES : Field := ⟨0x118, 0x0, 1, 22, 22, .rw, .lit 0⟩
/-- R237: GLEAN_REQ_CTL [0] GO. -/
def GLEAN_REQ_CTL_GO : Field := ⟨0x120, 0x0, 1, 0, 1, .wo, .lit 0⟩
/-- R237: GLEAN_REQ_CTL [31:16] REFUSED. -/
def GLEAN_REQ_CTL_REFUSED : Field := ⟨0x120, 0x0, 1, 16, 16, .ro, .lit 0⟩
/-- R237: GLEAN_REQ_CTL [63:32] TAG. -/
def GLEAN_REQ_CTL_TAG : Field := ⟨0x120, 0x0, 1, 32, 32, .rw, .lit 0⟩
/-- R237: GLEAN_REQ_DEST [47:0] ADDR. -/
def GLEAN_REQ_DEST_ADDR : Field := ⟨0x128, 0x0, 1, 0, 48, .rw, .lit 0⟩
/-- R237: VERDICT_s [15:0] STEP. -/
def VERDICT_STEP : Field := ⟨0x200, 0x8, 8, 0, 16, .ro, .lit 0⟩
/-- R237: VERDICT_s [16] VALID. -/
def VERDICT_VALID : Field := ⟨0x200, 0x8, 8, 16, 1, .ro, .lit 0⟩
/-- R237: VERDICT_s [17] FINITE. -/
def VERDICT_FINITE : Field := ⟨0x200, 0x8, 8, 17, 1, .ro, .lit 0⟩
/-- R237: BIN_STAT [4:0] QUEUED. -/
def BIN_STAT_QUEUED : Field := ⟨0x1000, 0x100, 8, 0, 5, .ro, .lit 0⟩
/-- R237: BIN_STAT [8] BUSY. -/
def BIN_STAT_BUSY : Field := ⟨0x1000, 0x100, 8, 8, 1, .ro, .lit 0⟩
/-- R237: BIN_STAT [23:16] CODE. -/
def BIN_STAT_CODE : Field := ⟨0x1000, 0x100, 8, 16, 8, .ro, .lit 0⟩
/-- R237: BIN_STAT [31:24] STICKY. -/
def BIN_STAT_STICKY : Field := ⟨0x1000, 0x100, 8, 24, 8, .w1c, .lit 0⟩
/-- R237: BIN_STAT [45:32] JOURNAL_USED. -/
def BIN_STAT_JOURNAL_USED : Field := ⟨0x1000, 0x100, 8, 32, 14, .ro, .lit 0⟩
/-- R237: BIN_CFG [20:0] JOURNAL_BASE. -/
def BIN_CFG_JOURNAL_BASE : Field := ⟨0x1008, 0x100, 8, 0, 21, .rw, .lit 0⟩
/-- R237: BIN_CFG [37:24] JOURNAL_LINES. -/
def BIN_CFG_JOURNAL_LINES : Field := ⟨0x1008, 0x100, 8, 24, 14, .rw, .lit 0⟩
/-- R237: BIN_DONE [31:0] DONE. -/
def BIN_DONE_DONE : Field := ⟨0x1010, 0x100, 8, 0, 32, .ro, .lit 0⟩
/-- R237: BIN_DONE [47:32] SKIPPED. -/
def BIN_DONE_SKIPPED : Field := ⟨0x1010, 0x100, 8, 32, 16, .ro, .lit 0⟩
/-- R237: BIN_DONE [63:48] STALE. -/
def BIN_DONE_STALE : Field := ⟨0x1010, 0x100, 8, 48, 16, .ro, .lit 0⟩
/-- R237: BIN_ELEMS [63:0] ELEMS. -/
def BIN_ELEMS_ELEMS : Field := ⟨0x1018, 0x100, 8, 0, 64, .ro, .lit 0⟩
/-- R237: BIN_CHECK [15:0] COMPARE_ERRS. -/
def BIN_CHECK_COMPARE_ERRS : Field := ⟨0x1020, 0x100, 8, 0, 16, .ro, .lit 0⟩
/-- R237: BIN_CHECK [31:16] PARITY_ERRS. -/
def BIN_CHECK_PARITY_ERRS : Field := ⟨0x1020, 0x100, 8, 16, 16, .ro, .lit 0⟩
/-- R237: BIN_CHECK [47:32] REPLAYS. -/
def BIN_CHECK_REPLAYS : Field := ⟨0x1020, 0x100, 8, 32, 16, .ro, .lit 0⟩
/-- R237: BIN_CHECK_CTL [0] CLEAR. -/
def BIN_CHECK_CTL_CLEAR : Field := ⟨0x1028, 0x100, 8, 0, 1, .wo, .lit 0⟩
/-- R237: BIN_CHECK_CTL [1] INJECT_COMPARE. -/
def BIN_CHECK_CTL_INJECT_COMPARE : Field := ⟨0x1028, 0x100, 8, 1, 1, .wo, .lit 0⟩
/-- R238: WR_REGION_s [20:0] BASE_LINE. -/
def WR_REGION_BASE_LINE : Field := ⟨0x900, 0x18, 8, 0, 21, .rw, .lit 0⟩
/-- R238: WR_REGION_s [42:22] RING_LINES. -/
def WR_REGION_RING_LINES : Field := ⟨0x900, 0x18, 8, 22, 21, .rw, .lit 0⟩
/-- R238: WR_SPILL_s [41:0] BASE. -/
def WR_SPILL_BASE : Field := ⟨0x908, 0x18, 8, 0, 42, .rw, .lit 0⟩
/-- R238: WR_SPILL_s [63:42] SPILL_LINES. -/
def WR_SPILL_SPILL_LINES : Field := ⟨0x908, 0x18, 8, 42, 22, .rw, .lit 0⟩
/-- R238: WR_STAT_s [31:0] DEPTH. -/
def WR_STAT_DEPTH : Field := ⟨0x910, 0x18, 8, 0, 32, .ro, .lit 0⟩
/-- R238: WR_STAT_s [53:32] RESIDENT. -/
def WR_STAT_RESIDENT : Field := ⟨0x910, 0x18, 8, 32, 22, .ro, .lit 0⟩
/-- R238: WR_WAIT [31:0] PUSH_WAIT. -/
def WR_WAIT_PUSH_WAIT : Field := ⟨0x9c0, 0x0, 1, 0, 32, .ro, .lit 0⟩
/-- R238: WR_WAIT [63:32] POP_WAIT. -/
def WR_WAIT_POP_WAIT : Field := ⟨0x9c0, 0x0, 1, 32, 32, .ro, .lit 0⟩
/-- R238: WR_MOVED [31:0] SPILLED. -/
def WR_MOVED_SPILLED : Field := ⟨0x9c8, 0x0, 1, 0, 32, .ro, .lit 0⟩
/-- R238: WR_MOVED [63:32] REFILLED. -/
def WR_MOVED_REFILLED : Field := ⟨0x9c8, 0x0, 1, 32, 32, .ro, .lit 0⟩
/-- R258: BARN_ID [4:0] PACKAGES. -/
def BARN_ID_PACKAGES : Field := ⟨0x0, 0x0, 1, 0, 5, .ro, .lit 18⟩
/-- R258: BARN_ID [15:8] PKG_GIB. -/
def BARN_ID_PKG_GIB : Field := ⟨0x0, 0x0, 1, 8, 8, .ro, .lit 32⟩
/-- R258: BARN_ID [19:16] SUBCH. -/
def BARN_ID_SUBCH : Field := ⟨0x0, 0x0, 1, 16, 4, .ro, .lit 4⟩
/-- R258: BARN_ID [23:20] RANKS. -/
def BARN_ID_RANKS : Field := ⟨0x0, 0x0, 1, 20, 4, .ro, .lit 2⟩
/-- R258: BARN_ID [39:24] RATE. -/
def BARN_ID_RATE : Field := ⟨0x0, 0x0, 1, 24, 16, .ro, .lit 9600⟩
/-- R258: BARN_CFG [7:0] ELASTIC_MIN. -/
def BARN_CFG_ELASTIC_MIN : Field := ⟨0x8, 0x0, 1, 0, 8, .rwl, .opt 0x16 0⟩
/-- R258: BARN_CFG [23:16] RETIRE_THRESH. -/
def BARN_CFG_RETIRE_THRESH : Field := ⟨0x8, 0x0, 1, 16, 8, .rw, .lit 64⟩
/-- R258: BARN_CFG [24] RFM_EN. -/
def BARN_CFG_RFM_EN : Field := ⟨0x8, 0x0, 1, 24, 1, .rwl, .opt 0x17 0⟩
/-- R258: BARN_STAT [2:0] STATE. -/
def BARN_STAT_STATE : Field := ⟨0x10, 0x0, 1, 0, 3, .ro, .lit 0⟩
/-- R258: BARN_STAT [12:8] RETIRED_PKG. -/
def BARN_STAT_RETIRED_PKG : Field := ⟨0x10, 0x0, 1, 8, 5, .ro, .lit 31⟩
/-- R258: BARN_STAT [17:16] REFRESH_RATE. -/
def BARN_STAT_REFRESH_RATE : Field := ⟨0x10, 0x0, 1, 16, 2, .ro, .lit 0⟩
/-- R258: BARN_RETIRE [4:0] PKG. -/
def BARN_RETIRE_PKG : Field := ⟨0x18, 0x0, 1, 0, 5, .wo, .lit 0⟩
/-- R258: BARN_RETIRE [8] GO. -/
def BARN_RETIRE_GO : Field := ⟨0x18, 0x0, 1, 8, 1, .wo, .lit 0⟩
/-- R258: BARN_ECC [31:0] CORRECTED. -/
def BARN_ECC_CORRECTED : Field := ⟨0x20, 0x0, 1, 0, 32, .ro, .lit 0⟩
/-- R258: BARN_ECC [47:32] UNCORRECTABLE. -/
def BARN_ECC_UNCORRECTABLE : Field := ⟨0x20, 0x0, 1, 32, 16, .ro, .lit 0⟩
/-- R258: BARN_UC_FIRST [29:0] BLOCK. -/
def BARN_UC_FIRST_BLOCK : Field := ⟨0x28, 0x0, 1, 0, 30, .ro, .lit 0⟩
/-- R258: BARN_UC_FIRST [30] VALID. -/
def BARN_UC_FIRST_VALID : Field := ⟨0x28, 0x0, 1, 30, 1, .w1c, .lit 0⟩
/-- R258: BARN_UC_TIME [63:0] STAMP. -/
def BARN_UC_TIME_STAMP : Field := ⟨0x30, 0x0, 1, 0, 64, .ro, .lit 0⟩
/-- R258: BARN_OPEN [10:0] EXTENTS. -/
def BARN_OPEN_EXTENTS : Field := ⟨0x38, 0x0, 1, 0, 11, .ro, .lit 0⟩
/-- R258: BARN_OPEN [26:16] PEAK. -/
def BARN_OPEN_PEAK : Field := ⟨0x38, 0x0, 1, 16, 11, .ro, .lit 0⟩
/-- R258: BARN_QSTAT [8:0] READS. -/
def BARN_QSTAT_READS : Field := ⟨0x40, 0x0, 1, 0, 9, .ro, .lit 0⟩
/-- R258: BARN_QSTAT [24:16] WRITES. -/
def BARN_QSTAT_WRITES : Field := ⟨0x40, 0x0, 1, 16, 9, .ro, .lit 0⟩
/-- R258: BARN_QSTAT [63:32] BACKPRESSURE. -/
def BARN_QSTAT_BACKPRESSURE : Field := ⟨0x40, 0x0, 1, 32, 32, .ro, .lit 0⟩
/-- R258: BARN_ECC_CTL [0] CLEAR. -/
def BARN_ECC_CTL_CLEAR : Field := ⟨0x48, 0x0, 1, 0, 1, .wo, .lit 0⟩
/-- R258: BARN_ECC_CTL [1] INJECT. -/
def BARN_ECC_CTL_INJECT : Field := ⟨0x48, 0x0, 1, 1, 1, .wo, .lit 0⟩
/-- R258: BARN_ECC_CTL [12:8] INJ_PKG. -/
def BARN_ECC_CTL_INJ_PKG : Field := ⟨0x48, 0x0, 1, 8, 5, .rw, .lit 0⟩
/-- R258: BARN_PKG_k [31:0] CORRECTED. -/
def BARN_PKG_CORRECTED : Field := ⟨0x100, 0x8, 18, 0, 32, .ro, .lit 0⟩
/-- R258: BARN_PKG_k [47:32] WINDOW. -/
def BARN_PKG_WINDOW : Field := ⟨0x100, 0x8, 18, 32, 16, .ro, .lit 0⟩
/-- R258: BARN_PKG_k [50:48] MR4_RATE. -/
def BARN_PKG_MR4_RATE : Field := ⟨0x100, 0x8, 18, 48, 3, .ro, .lit 0⟩
/-- R292: PORT_CFG [1:0] MODE. -/
def PORT_CFG_MODE : Field := ⟨0x0, 0x0, 1, 0, 2, .rwl, .optPort 0⟩
/-- R292: PORT_CFG [2] FEC. -/
def PORT_CFG_FEC : Field := ⟨0x0, 0x0, 1, 2, 1, .rwl, .optPort 2⟩
/-- R292: PORT_CFG [4:3] PMD. -/
def PORT_CFG_PMD : Field := ⟨0x0, 0x0, 1, 3, 2, .rwl, .optPort 3⟩
/-- R292: PORT_CFG [10:8] AXIS. -/
def PORT_CFG_AXIS : Field := ⟨0x0, 0x0, 1, 8, 3, .rwh, .optPort 5⟩
/-- R292: PORT_CFG [11] SIGN. -/
def PORT_CFG_SIGN : Field := ⟨0x0, 0x0, 1, 11, 1, .rwh, .optPort 8⟩
/-- R292: PORT_CFG [12] SPARE_EN. -/
def PORT_CFG_SPARE_EN : Field := ⟨0x0, 0x0, 1, 12, 1, .rwl, .optPort 9⟩
/-- R292: PORT_CFG [13] AUTO_RETRAIN. -/
def PORT_CFG_AUTO_RETRAIN : Field := ⟨0x0, 0x0, 1, 13, 1, .rw, .lit 1⟩
/-- R292: PORT_CFG [31:16] SPARE_THRESH. -/
def PORT_CFG_SPARE_THRESH : Field := ⟨0x0, 0x0, 1, 16, 16, .rw, .lit 256⟩
/-- R292: PORT_CFG [43:32] LINK_TIMEOUT. -/
def PORT_CFG_LINK_TIMEOUT : Field := ⟨0x0, 0x0, 1, 32, 12, .rw, .lit 512⟩
/-- R292: PORT_CFG [47:44] REPLAY_LIMIT. -/
def PORT_CFG_REPLAY_LIMIT : Field := ⟨0x0, 0x0, 1, 44, 4, .rw, .lit 8⟩
/-- R292: PORT_CTL [0] ENABLE. -/
def PORT_CTL_ENABLE : Field := ⟨0x8, 0x0, 1, 0, 1, .rw, .lit 1⟩
/-- R292: PORT_CTL [1] DRAIN. -/
def PORT_CTL_DRAIN : Field := ⟨0x8, 0x0, 1, 1, 1, .rw, .lit 0⟩
/-- R292: PORT_CTL [2] RETRAIN. -/
def PORT_CTL_RETRAIN : Field := ⟨0x8, 0x0, 1, 2, 1, .wo, .lit 0⟩
/-- R292: PORT_CTL [3] CLEAR. -/
def PORT_CTL_CLEAR : Field := ⟨0x8, 0x0, 1, 3, 1, .wo, .lit 0⟩
/-- R292: PORT_CTL [4] SPARE_NOW. -/
def PORT_CTL_SPARE_NOW : Field := ⟨0x8, 0x0, 1, 4, 1, .wo, .lit 0⟩
/-- R292: PORT_CTL [10:8] SPARE_LANE. -/
def PORT_CTL_SPARE_LANE : Field := ⟨0x8, 0x0, 1, 8, 3, .rw, .lit 0⟩
/-- R292: PORT_STAT [3:0] STATE. -/
def PORT_STAT_STATE : Field := ⟨0x10, 0x0, 1, 0, 4, .ro, .lit 0⟩
/-- R292: PORT_STAT [11:8] SPARED_LANE. -/
def PORT_STAT_SPARED_LANE : Field := ⟨0x10, 0x0, 1, 8, 4, .ro, .lit 15⟩
/-- R292: PORT_STAT [12] SPARE_PENDING. -/
def PORT_STAT_SPARE_PENDING : Field := ⟨0x10, 0x0, 1, 12, 1, .ro, .lit 0⟩
/-- R292: PORT_STAT [13] SPARE_FAILED. -/
def PORT_STAT_SPARE_FAILED : Field := ⟨0x10, 0x0, 1, 13, 1, .ro, .lit 0⟩
/-- R292: PORT_STAT [18:16] TEAM_UP. -/
def PORT_STAT_TEAM_UP : Field := ⟨0x10, 0x0, 1, 16, 3, .ro, .lit 0⟩
/-- R292: PORT_STAT [22:20] TEAM_SIZE. -/
def PORT_STAT_TEAM_SIZE : Field := ⟨0x10, 0x0, 1, 20, 3, .ro, .lit 0⟩
/-- R292: PORT_STAT [47:32] UP_COUNT. -/
def PORT_STAT_UP_COUNT : Field := ⟨0x10, 0x0, 1, 32, 16, .ro, .lit 0⟩
/-- R292: PORT_STAT [51:48] LAST_DOWN. -/
def PORT_STAT_LAST_DOWN : Field := ⟨0x10, 0x0, 1, 48, 4, .ro, .lit 15⟩
/-- R292: PORT_NBR [15:0] DEVICE_ID. -/
def PORT_NBR_DEVICE_ID : Field := ⟨0x18, 0x0, 1, 0, 16, .ro, .lit 0⟩
/-- R292: PORT_NBR [19:16] PORT. -/
def PORT_NBR_PORT : Field := ⟨0x18, 0x0, 1, 16, 4, .ro, .lit 0⟩
/-- R292: PORT_NBR [21:20] MODE. -/
def PORT_NBR_MODE : Field := ⟨0x18, 0x0, 1, 20, 2, .ro, .lit 0⟩
/-- R292: PORT_NBR [22] FEC. -/
def PORT_NBR_FEC : Field := ⟨0x18, 0x0, 1, 22, 1, .ro, .lit 0⟩
/-- R292: PORT_NBR [26:24] AXIS. -/
def PORT_NBR_AXIS : Field := ⟨0x18, 0x0, 1, 24, 3, .ro, .lit 0⟩
/-- R292: PORT_NBR [27] SIGN. -/
def PORT_NBR_SIGN : Field := ⟨0x18, 0x0, 1, 27, 1, .ro, .lit 0⟩
/-- R292: PORT_NBR [28] VALID. -/
def PORT_NBR_VALID : Field := ⟨0x18, 0x0, 1, 28, 1, .ro, .lit 0⟩
/-- R292: PORT_NBR [46:32] PASS_LEN. -/
def PORT_NBR_PASS_LEN : Field := ⟨0x18, 0x0, 1, 32, 15, .ro, .lit 0⟩
/-- R292: PORT_HOP [11:0] HOP_CLK. -/
def PORT_HOP_HOP_CLK : Field := ⟨0x20, 0x0, 1, 0, 12, .ro, .lit 0⟩
/-- R292: PORT_HOP [27:16] MEDIUM_CLK. -/
def PORT_HOP_MEDIUM_CLK : Field := ⟨0x20, 0x0, 1, 16, 12, .ro, .lit 0⟩
/-- R292: PORT_FEC [31:0] CORRECTED. -/
def PORT_FEC_CORRECTED : Field := ⟨0x28, 0x0, 1, 0, 32, .ro, .lit 0⟩
/-- R292: PORT_FEC [47:32] UNCORRECTABLE. -/
def PORT_FEC_UNCORRECTABLE : Field := ⟨0x28, 0x0, 1, 32, 16, .ro, .lit 0⟩
/-- R292: PORT_LINK [31:0] CRC_ERRS. -/
def PORT_LINK_CRC_ERRS : Field := ⟨0x30, 0x0, 1, 0, 32, .ro, .lit 0⟩
/-- R292: PORT_LINK [47:32] NAKS_SENT. -/
def PORT_LINK_NAKS_SENT : Field := ⟨0x30, 0x0, 1, 32, 16, .ro, .lit 0⟩
/-- R292: PORT_LINK [55:48] DOWN_EVENTS. -/
def PORT_LINK_DOWN_EVENTS : Field := ⟨0x30, 0x0, 1, 48, 8, .ro, .lit 0⟩
/-- R292: PORT_LINK [63:56] BAD_SYMBOLS. -/
def PORT_LINK_BAD_SYMBOLS : Field := ⟨0x30, 0x0, 1, 56, 8, .ro, .lit 0⟩
/-- R292: PORT_REPLAY [31:0] REPLAYED. -/
def PORT_REPLAY_REPLAYED : Field := ⟨0x38, 0x0, 1, 0, 32, .ro, .lit 0⟩
/-- R292: PORT_REPLAY [42:32] OCCUPANCY. -/
def PORT_REPLAY_OCCUPANCY : Field := ⟨0x38, 0x0, 1, 32, 11, .ro, .lit 0⟩
/-- R292: PORT_REPLAY [54:44] PEAK. -/
def PORT_REPLAY_PEAK : Field := ⟨0x38, 0x0, 1, 44, 11, .ro, .lit 0⟩
/-- R292: PORT_VC_v [12:0] CREDITS. -/
def PORT_VC_CREDITS : Field := ⟨0x40, 0x8, 8, 0, 13, .rwl, .optVc⟩
/-- R292: PORT_VC_v [28:16] HELD. -/
def PORT_VC_HELD : Field := ⟨0x40, 0x8, 8, 16, 13, .ro, .lit 0⟩
/-- R292: PORT_VC_v [63:32] NO_CREDIT. -/
def PORT_VC_NO_CREDIT : Field := ⟨0x40, 0x8, 8, 32, 32, .ro, .lit 0⟩
/-- R292: LANE_k [2:0] STATE. -/
def LANE_STATE : Field := ⟨0x80, 0x8, 9, 0, 3, .ro, .lit 0⟩
/-- R292: LANE_k [11:8] ROLE. -/
def LANE_ROLE : Field := ⟨0x80, 0x8, 9, 8, 4, .ro, .lit 15⟩
/-- R292: LANE_k [47:16] SYM_ERRS. -/
def LANE_SYM_ERRS : Field := ⟨0x80, 0x8, 9, 16, 32, .ro, .lit 0⟩
/-- R292: LANE_k [63:48] LOCK_LOSSES. -/
def LANE_LOCK_LOSSES : Field := ⟨0x80, 0x8, 9, 48, 16, .ro, .lit 0⟩
/-- R322: ROUTE_CFG [9:0] THROTTLE_HI. -/
def ROUTE_CFG_THROTTLE_HI : Field := ⟨0x0, 0x0, 1, 0, 10, .rw, .lit 384⟩
/-- R322: ROUTE_CFG [25:16] THROTTLE_LO. -/
def ROUTE_CFG_THROTTLE_LO : Field := ⟨0x0, 0x0, 1, 16, 10, .rw, .lit 128⟩
/-- R322: ROUTE_CFG [35:32] UNRES_MIN. -/
def ROUTE_CFG_UNRES_MIN : Field := ⟨0x0, 0x0, 1, 32, 4, .rwl, .opt 0x15 0⟩
/-- R322: ROUTE_MATCH [15:0] FIELD_MASK. -/
def ROUTE_MATCH_FIELD_MASK : Field := ⟨0x8, 0x0, 1, 0, 16, .ro, .lit 0⟩
/-- R322: DIR_STAT [11:0] UP. -/
def DIR_STAT_UP : Field := ⟨0x10, 0x0, 1, 0, 12, .ro, .lit 0⟩
/-- R322: DIR_STAT [27:16] LOST. -/
def DIR_STAT_LOST : Field := ⟨0x10, 0x0, 1, 16, 12, .ro, .lit 0⟩
/-- R322: ROUTE_DROP [31:0] NO_ROUTE. -/
def ROUTE_DROP_NO_ROUTE : Field := ⟨0x18, 0x0, 1, 0, 32, .ro, .lit 0⟩
/-- R322: ROUTE_DROP [47:32] BAD_HEADER. -/
def ROUTE_DROP_BAD_HEADER : Field := ⟨0x18, 0x0, 1, 32, 16, .ro, .lit 0⟩
/-- R322: ROUTE_TURN [31:0] TURNED_PKTS. -/
def ROUTE_TURN_TURNED_PKTS : Field := ⟨0x20, 0x0, 1, 0, 32, .ro, .lit 0⟩
/-- R322: ROUTE_TURN [63:32] LATE_FRAMES. -/
def ROUTE_TURN_LATE_FRAMES : Field := ⟨0x20, 0x0, 1, 32, 32, .ro, .lit 0⟩
/-- R322: ROUTE_ORDER [31:0] DUPLICATES. -/
def ROUTE_ORDER_DUPLICATES : Field := ⟨0x28, 0x0, 1, 0, 32, .ro, .lit 0⟩
/-- R322: ROUTE_ORDER [42:32] REORDER_PEAK. -/
def ROUTE_ORDER_REORDER_PEAK : Field := ⟨0x28, 0x0, 1, 32, 11, .ro, .lit 0⟩
/-- R322: THROTTLE_STAT [11:0] ACTIVE. -/
def THROTTLE_STAT_ACTIVE : Field := ⟨0x30, 0x0, 1, 0, 12, .ro, .lit 0⟩
/-- R322: THROTTLE_STAT [63:32] THROTTLED. -/
def THROTTLE_STAT_THROTTLED : Field := ⟨0x30, 0x0, 1, 32, 32, .ro, .lit 0⟩
/-- R322: PEER_STAT [12:0] PEERS. -/
def PEER_STAT_PEERS : Field := ⟨0x38, 0x0, 1, 0, 13, .ro, .lit 0⟩
/-- R322: PEER_STAT [27:16] STREAMS_RX. -/
def PEER_STAT_STREAMS_RX : Field := ⟨0x38, 0x0, 1, 16, 12, .ro, .lit 0⟩
/-- R322: PEER_STAT [47:32] PEER_FULL. -/
def PEER_STAT_PEER_FULL : Field := ⟨0x38, 0x0, 1, 32, 16, .ro, .lit 0⟩
/-- R322: AXIS_a [3:0] LSB. -/
def AXIS_LSB : Field := ⟨0x100, 0x8, 6, 0, 4, .rwh, .optAxis 0⟩
/-- R322: AXIS_a [6:4] WIDTH. -/
def AXIS_WIDTH : Field := ⟨0x100, 0x8, 6, 4, 3, .rwh, .optAxis 4⟩
/-- R322: AXIS_a [7] WRAP. -/
def AXIS_WRAP : Field := ⟨0x100, 0x8, 6, 7, 1, .rwh, .optAxis 7⟩
/-- R322: AXIS_a [14:8] LENGTH. -/
def AXIS_LENGTH : Field := ⟨0x100, 0x8, 6, 8, 7, .rwh, .optAxis 8⟩
/-- R322: AXIS_a [21:16] POS. -/
def AXIS_POS : Field := ⟨0x100, 0x8, 6, 16, 6, .ro, .lit 0⟩
/-- R322: AXIS_a [26:24] ROLE. -/
def AXIS_ROLE : Field := ⟨0x100, 0x8, 6, 24, 3, .rwh, .optAxis 24⟩
/-- R322: SLICE_GEOM0_s [5:0] LO0. -/
def SLICE_GEOM0_LO0 : Field := ⟨0x1000, 0x20, 64, 0, 6, .rwh, .lit 0⟩
/-- R322: SLICE_GEOM0_s [21:16] LO1. -/
def SLICE_GEOM0_LO1 : Field := ⟨0x1000, 0x20, 64, 16, 6, .rwh, .lit 0⟩
/-- R322: SLICE_GEOM0_s [37:32] LO2. -/
def SLICE_GEOM0_LO2 : Field := ⟨0x1000, 0x20, 64, 32, 6, .rwh, .lit 0⟩
/-- R322: SLICE_GEOM0_s [53:48] LO3. -/
def SLICE_GEOM0_LO3 : Field := ⟨0x1000, 0x20, 64, 48, 6, .rwh, .lit 0⟩
/-- R322: SLICE_GEOM0_s [11:6] LEN_10. -/
def SLICE_GEOM0_LEN_10 : Field := ⟨0x1000, 0x20, 64, 6, 6, .rwh, .lit 0⟩
/-- R322: SLICE_GEOM0_s [27:22] LEN_11. -/
def SLICE_GEOM0_LEN_11 : Field := ⟨0x1000, 0x20, 64, 22, 6, .rwh, .lit 0⟩
/-- R322: SLICE_GEOM0_s [43:38] LEN_12. -/
def SLICE_GEOM0_LEN_12 : Field := ⟨0x1000, 0x20, 64, 38, 6, .rwh, .lit 0⟩
/-- R322: SLICE_GEOM0_s [59:54] LEN_13. -/
def SLICE_GEOM0_LEN_13 : Field := ⟨0x1000, 0x20, 64, 54, 6, .rwh, .lit 0⟩
/-- R322: SLICE_GEOM0_s [13:12] SHAPE0. -/
def SLICE_GEOM0_SHAPE0 : Field := ⟨0x1000, 0x20, 64, 12, 2, .rwh, .lit 0⟩
/-- R322: SLICE_GEOM0_s [29:28] SHAPE1. -/
def SLICE_GEOM0_SHAPE1 : Field := ⟨0x1000, 0x20, 64, 28, 2, .rwh, .lit 0⟩
/-- R322: SLICE_GEOM0_s [45:44] SHAPE2. -/
def SLICE_GEOM0_SHAPE2 : Field := ⟨0x1000, 0x20, 64, 44, 2, .rwh, .lit 0⟩
/-- R322: SLICE_GEOM0_s [61:60] SHAPE3. -/
def SLICE_GEOM0_SHAPE3 : Field := ⟨0x1000, 0x20, 64, 60, 2, .rwh, .lit 0⟩
/-- R322: SLICE_GEOM1_s [5:0] LO4. -/
def SLICE_GEOM1_LO4 : Field := ⟨0x1008, 0x20, 64, 0, 6, .rwh, .lit 0⟩
/-- R322: SLICE_GEOM1_s [21:16] LO5. -/
def SLICE_GEOM1_LO5 : Field := ⟨0x1008, 0x20, 64, 16, 6, .rwh, .lit 0⟩
/-- R322: SLICE_GEOM1_s [11:6] LEN_14. -/
def SLICE_GEOM1_LEN_14 : Field := ⟨0x1008, 0x20, 64, 6, 6, .rwh, .lit 0⟩
/-- R322: SLICE_GEOM1_s [27:22] LEN_15. -/
def SLICE_GEOM1_LEN_15 : Field := ⟨0x1008, 0x20, 64, 22, 6, .rwh, .lit 0⟩
/-- R322: SLICE_GEOM1_s [13:12] SHAPE4. -/
def SLICE_GEOM1_SHAPE4 : Field := ⟨0x1008, 0x20, 64, 12, 2, .rwh, .lit 0⟩
/-- R322: SLICE_GEOM1_s [29:28] SHAPE5. -/
def SLICE_GEOM1_SHAPE5 : Field := ⟨0x1008, 0x20, 64, 28, 2, .rwh, .lit 0⟩
/-- R322: SLICE_GEOM1_s [39:32] SLICE_ID. -/
def SLICE_GEOM1_SLICE_ID : Field := ⟨0x1008, 0x20, 64, 32, 8, .rwh, .lit 0⟩
/-- R322: SLICE_GEOM1_s [40] VALID. -/
def SLICE_GEOM1_VALID : Field := ⟨0x1008, 0x20, 64, 40, 1, .rwh, .lit 0⟩
/-- R322: SLICE_PARTS_s [31:0] PARTS. -/
def SLICE_PARTS_PARTS : Field := ⟨0x1010, 0x20, 64, 0, 32, .rwh, .lit 0⟩
/-- R323: SLOT_j [11:0] STREAM_A. -/
def SLOT_STREAM_A : Field := ⟨0x1000, 0x8, 480, 0, 12, .rwh, .lit 0⟩
/-- R323: SLOT_j [43:32] STREAM_B. -/
def SLOT_STREAM_B : Field := ⟨0x1000, 0x8, 480, 32, 12, .rwh, .lit 0⟩
/-- R323: SLOT_j [15:12] SOURCE_A. -/
def SLOT_SOURCE_A : Field := ⟨0x1000, 0x8, 480, 12, 4, .rwh, .lit 15⟩
/-- R323: SLOT_j [47:44] SOURCE_B. -/
def SLOT_SOURCE_B : Field := ⟨0x1000, 0x8, 480, 44, 4, .rwh, .lit 15⟩
/-- R323: SLOT_j [23:16] SLICE_A. -/
def SLOT_SLICE_A : Field := ⟨0x1000, 0x8, 480, 16, 8, .rwh, .lit 0⟩
/-- R323: SLOT_j [55:48] SLICE_B. -/
def SLOT_SLICE_B : Field := ⟨0x1000, 0x8, 480, 48, 8, .rwh, .lit 0⟩
/-- R355: COLL_CFG [3:0] CHECK_LOG2. -/
def COLL_CFG_CHECK_LOG2 : Field := ⟨0x0, 0x0, 1, 0, 4, .rw, .lit 8⟩
/-- R355: COLL_CFG [15:8] HOLD_LIMIT. -/
def COLL_CFG_HOLD_LIMIT : Field := ⟨0x0, 0x0, 1, 8, 8, .rw, .lit 16⟩
/-- R355: COLL_CFG [19:16] HARROW_LIMIT. -/
def COLL_CFG_HARROW_LIMIT : Field := ⟨0x0, 0x0, 1, 16, 4, .rw, .lit 3⟩
/-- R355: COLL_STAT [10:0] OPS. -/
def COLL_STAT_OPS : Field := ⟨0x8, 0x0, 1, 0, 11, .ro, .lit 0⟩
/-- R355: COLL_STAT [25:16] ABORTED. -/
def COLL_STAT_ABORTED : Field := ⟨0x8, 0x0, 1, 16, 10, .ro, .lit 0⟩
/-- R355: COLL_STAT [42:32] LINE_OPS. -/
def COLL_STAT_LINE_OPS : Field := ⟨0x8, 0x0, 1, 32, 11, .ro, .lit 0⟩
/-- R355: COLL_NF [15:0] DEVICE. -/
def COLL_NF_DEVICE : Field := ⟨0x10, 0x0, 1, 0, 16, .ro, .lit 0⟩
/-- R355: COLL_NF [16] VALID. -/
def COLL_NF_VALID : Field := ⟨0x10, 0x0, 1, 16, 1, .w1c, .lit 0⟩
/-- R355: COLL_NF [25:17] CHANNEL. -/
def COLL_NF_CHANNEL : Field := ⟨0x10, 0x0, 1, 17, 9, .ro, .lit 0⟩
/-- R355: COLL_NF [47:32] OP_SEQ. -/
def COLL_NF_OP_SEQ : Field := ⟨0x10, 0x0, 1, 32, 16, .ro, .lit 0⟩
/-- R355: COLL_NF [63:48] STEP. -/
def COLL_NF_STEP : Field := ⟨0x10, 0x0, 1, 48, 16, .ro, .lit 0⟩
/-- R355: COLL_NF_TIME [63:0] STAMP. -/
def COLL_NF_TIME_STAMP : Field := ⟨0x18, 0x0, 1, 0, 64, .ro, .lit 0⟩
/-- R355: COLL_RECOVER [15:0] DUP_PARTIALS. -/
def COLL_RECOVER_DUP_PARTIALS : Field := ⟨0x20, 0x0, 1, 0, 16, .ro, .lit 0⟩
/-- R355: COLL_RECOVER [31:16] STALE_GEN. -/
def COLL_RECOVER_STALE_GEN : Field := ⟨0x20, 0x0, 1, 16, 16, .ro, .lit 0⟩
/-- R355: COLL_RECOVER [47:32] BREAKS. -/
def COLL_RECOVER_BREAKS : Field := ⟨0x20, 0x0, 1, 32, 16, .ro, .lit 0⟩
/-- R355: COLL_RECOVER [63:48] STALE_EPOCH. -/
def COLL_RECOVER_STALE_EPOCH : Field := ⟨0x20, 0x0, 1, 48, 16, .ro, .lit 0⟩
/-- R355: GATHER_STAT [31:0] GRANT_WAIT. -/
def GATHER_STAT_GRANT_WAIT : Field := ⟨0x28, 0x0, 1, 0, 32, .ro, .lit 0⟩
/-- R355: GATHER_STAT [37:32] PENDING. -/
def GATHER_STAT_PENDING : Field := ⟨0x28, 0x0, 1, 32, 6, .ro, .lit 0⟩
/-- R355: GATHER_STAT [45:40] PEAK. -/
def GATHER_STAT_PEAK : Field := ⟨0x28, 0x0, 1, 40, 6, .ro, .lit 0⟩
/-- R355: COLL_CHECK_CTL [0] CLEAR. -/
def COLL_CHECK_CTL_CLEAR : Field := ⟨0x30, 0x0, 1, 0, 1, .wo, .lit 0⟩
/-- R355: COLL_CHECK_CTL [1] INJECT. -/
def COLL_CHECK_CTL_INJECT : Field := ⟨0x30, 0x0, 1, 1, 1, .wo, .lit 0⟩
/-- R355: COLL_CHECK_CTL [7:4] INJ_PORT. -/
def COLL_CHECK_CTL_INJ_PORT : Field := ⟨0x30, 0x0, 1, 4, 4, .rw, .lit 0⟩
/-- R355: HARROW_n [31:0] SAMPLED. -/
def HARROW_SAMPLED : Field := ⟨0x100, 0x8, 12, 0, 32, .ro, .lit 0⟩
/-- R355: HARROW_n [47:32] MISMATCHES. -/
def HARROW_MISMATCHES : Field := ⟨0x100, 0x8, 12, 32, 16, .ro, .lit 0⟩
/-- R355: HARROW_n [51:48] RUN. -/
def HARROW_RUN : Field := ⟨0x100, 0x8, 12, 48, 4, .ro, .lit 0⟩
/-- R355: HARROW_n [52] FAILED. -/
def HARROW_FAILED : Field := ⟨0x100, 0x8, 12, 52, 1, .ro, .lit 0⟩
/-- R355: CHAN_CFG_c [2:0] AXIS. -/
def CHAN_CFG_AXIS : Field := ⟨0x10000, 0x10, 512, 0, 3, .ro, .lit 0⟩
/-- R355: CHAN_CFG_c [3] BOUND. -/
def CHAN_CFG_BOUND : Field := ⟨0x10000, 0x10, 512, 3, 1, .ro, .lit 0⟩
/-- R355: CHAN_CFG_c [6:4] STATE. -/
def CHAN_CFG_STATE : Field := ⟨0x10000, 0x10, 512, 4, 3, .ro, .lit 0⟩
/-- R355: CHAN_CFG_c [8] CLEAR. -/
def CHAN_CFG_CLEAR : Field := ⟨0x10000, 0x10, 512, 8, 1, .wo, .lit 0⟩
/-- R355: CHAN_CFG_c [19:16] OPS. -/
def CHAN_CFG_OPS : Field := ⟨0x10000, 0x10, 512, 16, 4, .ro, .lit 0⟩
/-- R355: CHAN_CFG_c [47:32] NEXT_SEQ. -/
def CHAN_CFG_NEXT_SEQ : Field := ⟨0x10000, 0x10, 512, 32, 16, .ro, .lit 0⟩
/-- R355: CHAN_STAT_c [15:0] LAST_SEQ. -/
def CHAN_STAT_LAST_SEQ : Field := ⟨0x10008, 0x10, 512, 0, 16, .ro, .lit 0⟩
/-- R355: CHAN_STAT_c [16] NONFINITE. -/
def CHAN_STAT_NONFINITE : Field := ⟨0x10008, 0x10, 512, 16, 1, .ro, .lit 0⟩
/-- R355: CHAN_STAT_c [17] WRAP. -/
def CHAN_STAT_WRAP : Field := ⟨0x10008, 0x10, 512, 17, 1, .ro, .lit 0⟩
/-- R355: CHAN_STAT_c [18] LINE. -/
def CHAN_STAT_LINE : Field := ⟨0x10008, 0x10, 512, 18, 1, .ro, .lit 0⟩
/-- R355: CHAN_STAT_c [19] ORDER. -/
def CHAN_STAT_ORDER : Field := ⟨0x10008, 0x10, 512, 19, 1, .ro, .lit 0⟩
/-- R355: CHAN_STAT_c [39:24] NF_DEVICE. -/
def CHAN_STAT_NF_DEVICE : Field := ⟨0x10008, 0x10, 512, 24, 16, .ro, .lit 0⟩
/-- R355: CHAN_STAT_c [40] NF_VALID. -/
def CHAN_STAT_NF_VALID : Field := ⟨0x10008, 0x10, 512, 40, 1, .ro, .lit 0⟩
/-- R355: BUF_k [15:0] BUSY. -/
def BUF_BUSY : Field := ⟨0x20000, 0x8, 1024, 0, 16, .ro, .lit 0⟩
/-- R355: BUF_k [16] ROT_WAIT. -/
def BUF_ROT_WAIT : Field := ⟨0x20000, 0x8, 1024, 16, 1, .ro, .lit 0⟩
/-- R355: BUF_k [17] ROT_ACTIVE. -/
def BUF_ROT_ACTIVE : Field := ⟨0x20000, 0x8, 1024, 17, 1, .ro, .lit 0⟩
/-- R355: BUF_k [47:32] ROTATIONS. -/
def BUF_ROTATIONS : Field := ⟨0x20000, 0x8, 1024, 32, 16, .ro, .lit 0⟩
/-- R370: DRILL_STAT [4:0] QUEUED. -/
def DRILL_STAT_QUEUED : Field := ⟨0x8000, 0x0, 1, 0, 5, .ro, .lit 0⟩
/-- R370: DRILL_STAT [8] BUSY. -/
def DRILL_STAT_BUSY : Field := ⟨0x8000, 0x0, 1, 8, 1, .ro, .lit 0⟩
/-- R370: DRILL_STAT [23:16] CODE. -/
def DRILL_STAT_CODE : Field := ⟨0x8000, 0x0, 1, 16, 8, .ro, .lit 0⟩
/-- R370: DRILL_DONE [31:0] DONE. -/
def DRILL_DONE_DONE : Field := ⟨0x8008, 0x0, 1, 0, 32, .ro, .lit 0⟩
/-- R370: DRILL_DONE [47:32] STALE. -/
def DRILL_DONE_STALE : Field := ⟨0x8008, 0x0, 1, 32, 16, .ro, .lit 0⟩
/-- R370: DRILL_DONE [63:48] BAD_SEL. -/
def DRILL_DONE_BAD_SEL : Field := ⟨0x8008, 0x0, 1, 48, 16, .ro, .lit 0⟩
/-- R370: DRILL_OVER [31:0] OVERFLOWED. -/
def DRILL_OVER_OVERFLOWED : Field := ⟨0x8010, 0x0, 1, 0, 32, .ro, .lit 0⟩
/-- R370: DRILL_OVER [43:32] LAST_EXPERT. -/
def DRILL_OVER_LAST_EXPERT : Field := ⟨0x8010, 0x0, 1, 32, 12, .ro, .lit 0⟩
/-- R370: DRILL_CHECK [15:0] COMPARE_ERRS. -/
def DRILL_CHECK_COMPARE_ERRS : Field := ⟨0x8018, 0x0, 1, 0, 16, .ro, .lit 0⟩
/-- R370: DRILL_CHECK [31:16] PARITY_ERRS. -/
def DRILL_CHECK_PARITY_ERRS : Field := ⟨0x8018, 0x0, 1, 16, 16, .ro, .lit 0⟩
/-- R370: DRILL_CHECK_CTL [0] CLEAR. -/
def DRILL_CHECK_CTL_CLEAR : Field := ⟨0x8020, 0x0, 1, 0, 1, .wo, .lit 0⟩
/-- R370: DRILL_CHECK_CTL [1] INJECT_COMPARE. -/
def DRILL_CHECK_CTL_INJECT_COMPARE : Field := ⟨0x8020, 0x0, 1, 1, 1, .wo, .lit 0⟩
/-- R390: GATE_CFG [15:0] GATE_DEVICE. -/
def GATE_CFG_GATE_DEVICE : Field := ⟨0x0, 0x0, 1, 0, 16, .rwh, .opt 0x1C 0⟩
/-- R390: GATE_CFG [19:16] GROUP_BITS. -/
def GATE_CFG_GROUP_BITS : Field := ⟨0x0, 0x0, 1, 16, 4, .rwh, .opt 0x1E 0⟩
/-- R390: GATE_CFG [47:32] FM_HOSTS. -/
def GATE_CFG_FM_HOSTS : Field := ⟨0x0, 0x0, 1, 32, 16, .rwh, .opt 0x20 0⟩
/-- R390: GATE_STAT [0] IS_GATE. -/
def GATE_STAT_IS_GATE : Field := ⟨0x8, 0x0, 1, 0, 1, .ro, .lit 0⟩
/-- R390: GATE_STAT [1] PATH. -/
def GATE_STAT_PATH : Field := ⟨0x8, 0x0, 1, 1, 1, .ro, .lit 0⟩
/-- R390: GATE_STAT [31:16] PATH_DOWNS. -/
def GATE_STAT_PATH_DOWNS : Field := ⟨0x8, 0x0, 1, 16, 16, .ro, .lit 0⟩
/-- R390: GATE_STAT [63:32] DROPPED_TO_HOST. -/
def GATE_STAT_DROPPED_TO_HOST : Field := ⟨0x8, 0x0, 1, 32, 32, .ro, .lit 0⟩
/-- R390: QM_CFG [15:0] HOST_TIMEOUT. -/
def QM_CFG_HOST_TIMEOUT : Field := ⟨0x10, 0x0, 1, 0, 16, .rw, .lit 1000⟩
/-- R390: QM_CFG [23:16] PROBE_PASSES. -/
def QM_CFG_PROBE_PASSES : Field := ⟨0x10, 0x0, 1, 16, 8, .rw, .lit 64⟩
/-- R390: QM_STAT [8:0] INFLIGHT. -/
def QM_STAT_INFLIGHT : Field := ⟨0x18, 0x0, 1, 0, 9, .ro, .lit 0⟩
/-- R390: QM_STAT [22:16] MREADS. -/
def QM_STAT_MREADS : Field := ⟨0x18, 0x0, 1, 16, 7, .ro, .lit 0⟩
/-- R390: QM_STAT [32:24] POSTED. -/
def QM_STAT_POSTED : Field := ⟨0x18, 0x0, 1, 24, 9, .ro, .lit 0⟩
/-- R390: QM_ERRS [15:0] DENIED. -/
def QM_ERRS_DENIED : Field := ⟨0x20, 0x0, 1, 0, 16, .ro, .lit 0⟩
/-- R390: QM_ERRS [31:16] BAD_PKTS. -/
def QM_ERRS_BAD_PKTS : Field := ⟨0x20, 0x0, 1, 16, 16, .ro, .lit 0⟩
/-- R390: QM_ERRS [47:32] TIMEOUTS. -/
def QM_ERRS_TIMEOUTS : Field := ⟨0x20, 0x0, 1, 32, 16, .ro, .lit 0⟩
/-- R390: QM_ERRS [63:48] EXPORT_FAILS. -/
def QM_ERRS_EXPORT_FAILS : Field := ⟨0x20, 0x0, 1, 48, 16, .ro, .lit 0⟩
/-- R390: HOST_h [31:0] PARTS. -/
def HOST_PARTS : Field := ⟨0x100, 0x8, 16, 0, 32, .rwh, .lit 0⟩
/-- R390: XLAT_WIN_s [25:0] BASE. -/
def XLAT_WIN_BASE : Field := ⟨0x1000, 0x20, 1024, 0, 26, .rwh, .lit 0⟩
/-- R390: XLAT_WIN_s [51:26] PAGES. -/
def XLAT_WIN_PAGES : Field := ⟨0x1000, 0x20, 1024, 26, 26, .rwh, .lit 0⟩
/-- R390: XLAT_HOST_s [42:0] HBASE. -/
def XLAT_HOST_HBASE : Field := ⟨0x1008, 0x20, 1024, 0, 43, .rwh, .lit 0⟩
/-- R390: XLAT_HOST_s [46:43] HOST. -/
def XLAT_HOST_HOST : Field := ⟨0x1008, 0x20, 1024, 43, 4, .rwh, .lit 0⟩
/-- R390: XLAT_RIGHTS_s [4:0] PART. -/
def XLAT_RIGHTS_PART : Field := ⟨0x1010, 0x20, 1024, 0, 5, .rwh, .lit 0⟩
/-- R390: XLAT_RIGHTS_s [5] READ. -/
def XLAT_RIGHTS_READ : Field := ⟨0x1010, 0x20, 1024, 5, 1, .rwh, .lit 0⟩
/-- R390: XLAT_RIGHTS_s [6] WRITE. -/
def XLAT_RIGHTS_WRITE : Field := ⟨0x1010, 0x20, 1024, 6, 1, .rwh, .lit 0⟩
/-- R390: XLAT_RIGHTS_s [7] VALID. -/
def XLAT_RIGHTS_VALID : Field := ⟨0x1010, 0x20, 1024, 7, 1, .rwh, .lit 0⟩
/-- R390: QP_OWNER_n [4:0] PART. -/
def QP_OWNER_PART : Field := ⟨0x10000, 0x40, 8192, 0, 5, .rwh, .lit 0⟩
/-- R390: QP_OWNER_n [8:5] HOST. -/
def QP_OWNER_HOST : Field := ⟨0x10000, 0x40, 8192, 5, 4, .rwh, .lit 0⟩
/-- R390: QP_OWNER_n [9] VALID. -/
def QP_OWNER_VALID : Field := ⟨0x10000, 0x40, 8192, 9, 1, .rwh, .lit 0⟩
/-- R390: QP_SQ_n [41:0] BASE. -/
def QP_SQ_BASE : Field := ⟨0x10008, 0x40, 8192, 0, 42, .rw, .lit 0⟩
/-- R390: QP_SQ_n [46:42] SIZE_LOG2. -/
def QP_SQ_SIZE_LOG2 : Field := ⟨0x10008, 0x40, 8192, 42, 5, .rw, .lit 0⟩
/-- R390: QP_CQ_n [41:0] BASE. -/
def QP_CQ_BASE : Field := ⟨0x10010, 0x40, 8192, 0, 42, .rw, .lit 0⟩
/-- R390: QP_CQ_n [46:42] SIZE_LOG2. -/
def QP_CQ_SIZE_LOG2 : Field := ⟨0x10010, 0x40, 8192, 42, 5, .rw, .lit 0⟩
/-- R390: QP_CQ_n [47] NOTIFY. -/
def QP_CQ_NOTIFY : Field := ⟨0x10010, 0x40, 8192, 47, 1, .rw, .lit 0⟩
/-- R390: QP_IDX_n [15:0] SQ_HEAD. -/
def QP_IDX_SQ_HEAD : Field := ⟨0x10018, 0x40, 8192, 0, 16, .ro, .lit 0⟩
/-- R390: QP_IDX_n [31:16] SQ_TAIL. -/
def QP_IDX_SQ_TAIL : Field := ⟨0x10018, 0x40, 8192, 16, 16, .ro, .lit 0⟩
/-- R390: QP_IDX_n [47:32] CQ_TAIL. -/
def QP_IDX_CQ_TAIL : Field := ⟨0x10018, 0x40, 8192, 32, 16, .ro, .lit 0⟩
/-- R390: QP_IDX_n [63:48] CQ_HEAD. -/
def QP_IDX_CQ_HEAD : Field := ⟨0x10018, 0x40, 8192, 48, 16, .ro, .lit 0⟩
/-- R390: QP_DB_n [15:0] SQ_TAIL. -/
def QP_DB_SQ_TAIL : Field := ⟨0x10020, 0x40, 8192, 0, 16, .wo, .lit 0⟩
/-- R390: QP_DB_n [31:16] CQ_HEAD. -/
def QP_DB_CQ_HEAD : Field := ⟨0x10020, 0x40, 8192, 16, 16, .wo, .lit 0⟩
/-- R390: QP_DB_n [32] SQ_VALID. -/
def QP_DB_SQ_VALID : Field := ⟨0x10020, 0x40, 8192, 32, 1, .wo, .lit 0⟩
/-- R390: QP_DB_n [33] CQ_VALID. -/
def QP_DB_CQ_VALID : Field := ⟨0x10020, 0x40, 8192, 33, 1, .wo, .lit 0⟩
/-- R390: QP_STAT_n [0] ENABLE. -/
def QP_STAT_ENABLE : Field := ⟨0x10028, 0x40, 8192, 0, 1, .rw, .lit 0⟩
/-- R390: QP_STAT_n [2:1] STATE. -/
def QP_STAT_STATE : Field := ⟨0x10028, 0x40, 8192, 1, 2, .ro, .lit 0⟩
/-- R390: QP_STAT_n [3] PHASE. -/
def QP_STAT_PHASE : Field := ⟨0x10028, 0x40, 8192, 3, 1, .ro, .lit 1⟩
/-- R390: QP_STAT_n [31:16] BAD_DB. -/
def QP_STAT_BAD_DB : Field := ⟨0x10028, 0x40, 8192, 16, 16, .ro, .lit 0⟩
/-- R390: QP_STAT_n [35:32] INFLIGHT. -/
def QP_STAT_INFLIGHT : Field := ⟨0x10028, 0x40, 8192, 32, 4, .ro, .lit 0⟩
/-- R390: QP_STAT_n [63:48] COMPLETED. -/
def QP_STAT_COMPLETED : Field := ⟨0x10028, 0x40, 8192, 48, 16, .ro, .lit 0⟩
/-- R407: BOOT_STAT [3:0] STATE. -/
def BOOT_STAT_STATE : Field := ⟨0x100, 0x0, 1, 0, 4, .ro, .lit 0⟩
/-- R407: BOOT_STAT [15:8] FAIL_CODE. -/
def BOOT_STAT_FAIL_CODE : Field := ⟨0x100, 0x0, 1, 8, 8, .ro, .lit 0⟩
/-- R407: BOOT_STAT [16] SLOT. -/
def BOOT_STAT_SLOT : Field := ⟨0x100, 0x0, 1, 16, 1, .ro, .lit 0⟩
/-- R407: BOOT_STAT [17] SLOT_A_BAD. -/
def BOOT_STAT_SLOT_A_BAD : Field := ⟨0x100, 0x0, 1, 17, 1, .ro, .lit 0⟩
/-- R407: BOOT_STAT [18] SLOT_B_BAD. -/
def BOOT_STAT_SLOT_B_BAD : Field := ⟨0x100, 0x0, 1, 18, 1, .ro, .lit 0⟩
/-- R407: BOOT_STAT [31:24] OPT_OFFSET. -/
def BOOT_STAT_OPT_OFFSET : Field := ⟨0x100, 0x0, 1, 24, 8, .ro, .lit 0⟩
/-- R407: BOOT_STAT [63:32] OPT_SERIAL. -/
def BOOT_STAT_OPT_SERIAL : Field := ⟨0x100, 0x0, 1, 32, 32, .ro, .opt 0x08 0⟩
/-- R407: BOOT_TIME [63:0] STAMP. -/
def BOOT_TIME_STAMP : Field := ⟨0x108, 0x0, 1, 0, 64, .ro, .lit 0⟩
/-- R407: LOADER_STAT [15:0] LOADS. -/
def LOADER_STAT_LOADS : Field := ⟨0x110, 0x0, 1, 0, 16, .ro, .lit 0⟩
/-- R407: LOADER_STAT [31:16] REFUSALS. -/
def LOADER_STAT_REFUSALS : Field := ⟨0x110, 0x0, 1, 16, 16, .ro, .lit 0⟩
/-- R407: LOADER_STAT [39:32] LAST_CODE. -/
def LOADER_STAT_LAST_CODE : Field := ⟨0x110, 0x0, 1, 32, 8, .ro, .lit 0⟩
/-- R407: LOADER_STAT [44:40] LAST_PART. -/
def LOADER_STAT_LAST_PART : Field := ⟨0x110, 0x0, 1, 40, 5, .ro, .lit 0⟩
/-- R407: LOADER_STAT [48] BUSY. -/
def LOADER_STAT_BUSY : Field := ⟨0x110, 0x0, 1, 48, 1, .ro, .lit 0⟩
/-- R420: RST_CAUSE [0] POWER_ON. -/
def RST_CAUSE_POWER_ON : Field := ⟨0x0, 0x0, 1, 0, 1, .w1c, .lit 1⟩
/-- R420: RST_CAUSE [1] RESET_L. -/
def RST_CAUSE_RESET_L : Field := ⟨0x0, 0x0, 1, 1, 1, .w1c, .lit 0⟩
/-- R420: RST_CAUSE [2] SOFTWARE. -/
def RST_CAUSE_SOFTWARE : Field := ⟨0x0, 0x0, 1, 2, 1, .w1c, .lit 0⟩
/-- R420: RST_CAUSE [3] WATCHDOG. -/
def RST_CAUSE_WATCHDOG : Field := ⟨0x0, 0x0, 1, 3, 1, .w1c, .lit 0⟩
/-- R420: RST_CAUSE [4] CRITICAL. -/
def RST_CAUSE_CRITICAL : Field := ⟨0x0, 0x0, 1, 4, 1, .w1c, .lit 0⟩
/-- R420: RST_CAUSE [5] THERMAL. -/
def RST_CAUSE_THERMAL : Field := ⟨0x0, 0x0, 1, 5, 1, .w1c, .lit 0⟩
/-- R420: RST_CAUSE [6] REMOTE. -/
def RST_CAUSE_REMOTE : Field := ⟨0x0, 0x0, 1, 6, 1, .w1c, .lit 0⟩
/-- R420: RST_CAUSE [7] OVERPOWER. -/
def RST_CAUSE_OVERPOWER : Field := ⟨0x0, 0x0, 1, 7, 1, .w1c, .lit 0⟩
/-- R420: RST_CAUSE [15:8] CRIT_UNIT. -/
def RST_CAUSE_CRIT_UNIT : Field := ⟨0x0, 0x0, 1, 8, 8, .ro, .lit 0⟩
/-- R420: RST_CTL [2:0] DOMAIN. -/
def RST_CTL_DOMAIN : Field := ⟨0x8, 0x0, 1, 0, 3, .rw, .lit 0⟩
/-- R420: RST_CTL [12:8] PLOT. -/
def RST_CTL_PLOT : Field := ⟨0x8, 0x0, 1, 8, 5, .rw, .lit 0⟩
/-- R420: RST_CTL [17:13] SLOT. -/
def RST_CTL_SLOT : Field := ⟨0x8, 0x0, 1, 13, 5, .rw, .lit 0⟩
/-- R420: RST_CTL [24] GO. -/
def RST_CTL_GO : Field := ⟨0x8, 0x0, 1, 24, 1, .wo, .lit 0⟩
/-- R420: RST_CTL [25] HOLD. -/
def RST_CTL_HOLD : Field := ⟨0x8, 0x0, 1, 25, 1, .wo, .lit 0⟩
/-- R420: RST_CTL [26] RELEASE. -/
def RST_CTL_RELEASE : Field := ⟨0x8, 0x0, 1, 26, 1, .wo, .lit 0⟩
/-- R420: RST_CTL [63:56] CONFIRM. -/
def RST_CTL_CONFIRM : Field := ⟨0x8, 0x0, 1, 56, 8, .wo, .lit 0⟩
/-- R420: RST_STAT [2:0] FABRIC. -/
def RST_STAT_FABRIC : Field := ⟨0x10, 0x0, 1, 0, 3, .ro, .lit 0⟩
/-- R420: RST_STAT [6:4] STEWARD. -/
def RST_STAT_STEWARD : Field := ⟨0x10, 0x0, 1, 4, 3, .ro, .lit 0⟩
/-- R420: RST_STAT [8] PIN. -/
def RST_STAT_PIN : Field := ⟨0x10, 0x0, 1, 8, 1, .ro, .lit 1⟩
/-- R420: WDOG_CFG [15:0] PASSES. -/
def WDOG_CFG_PASSES : Field := ⟨0x18, 0x0, 1, 0, 16, .rw, .lit 1024⟩
/-- R420: WDOG_CFG [16] ESCALATE. -/
def WDOG_CFG_ESCALATE : Field := ⟨0x18, 0x0, 1, 16, 1, .rw, .lit 0⟩
/-- R420: WDOG_KICK [0] KICK. -/
def WDOG_KICK_KICK : Field := ⟨0x20, 0x0, 1, 0, 1, .wo, .lit 0⟩
/-- R420: RST_COUNT [15:0] DOMAIN_RESETS. -/
def RST_COUNT_DOMAIN_RESETS : Field := ⟨0x28, 0x0, 1, 0, 16, .ro, .lit 0⟩
/-- R420: RST_COUNT [31:16] WDOG_EXPIRIES. -/
def RST_COUNT_WDOG_EXPIRIES : Field := ⟨0x28, 0x0, 1, 16, 16, .ro, .lit 0⟩
/-- R420: RST_COUNT [47:32] WRAPPED. -/
def RST_COUNT_WRAPPED : Field := ⟨0x28, 0x0, 1, 32, 16, .ro, .lit 0⟩
/-- R420: RST_COUNT [63:48] REFUSED. -/
def RST_COUNT_REFUSED : Field := ⟨0x28, 0x0, 1, 48, 16, .ro, .lit 0⟩
/-- R420: RST_CFG [15:0] DRAIN_LIMIT. -/
def RST_CFG_DRAIN_LIMIT : Field := ⟨0x30, 0x0, 1, 0, 16, .rw, .lit 65535⟩
/-- R420: RST_CFG [16] FABRIC_DRAIN. -/
def RST_CFG_FABRIC_DRAIN : Field := ⟨0x30, 0x0, 1, 16, 1, .rw, .lit 1⟩
/-- R420: RST_PLOT_p [2:0] STATE. -/
def RST_PLOT_STATE : Field := ⟨0x400, 0x8, 32, 0, 3, .ro, .lit 0⟩
/-- R420: RST_SLOT_p [16:0] BUSY. -/
def RST_SLOT_BUSY : Field := ⟨0x500, 0x8, 32, 0, 17, .ro, .lit 0⟩
/-- R420: RST_SLOT_p [36:20] HELD. -/
def RST_SLOT_HELD : Field := ⟨0x500, 0x8, 32, 20, 17, .ro, .lit 0⟩
/-- R420: RST_SLOT_p [56:40] PENDING. -/
def RST_SLOT_PENDING : Field := ⟨0x500, 0x8, 32, 40, 17, .ro, .lit 0⟩
/-- R438: HW_STAT [0] VERIFYING. -/
def HW_STAT_VERIFYING : Field := ⟨0x0, 0x0, 1, 0, 1, .ro, .lit 0⟩
/-- R438: HW_STAT [3:1] PENDING. -/
def HW_STAT_PENDING : Field := ⟨0x0, 0x0, 1, 1, 3, .ro, .lit 0⟩
/-- R438: HW_STAT [15:8] LAST_CODE. -/
def HW_STAT_LAST_CODE : Field := ⟨0x0, 0x0, 1, 8, 8, .ro, .lit 0⟩
/-- R438: HW_STAT [16] AT_APPLY. -/
def HW_STAT_AT_APPLY : Field := ⟨0x0, 0x0, 1, 16, 1, .ro, .lit 0⟩
/-- R438: HW_STAT [31:24] LAST_ITEM. -/
def HW_STAT_LAST_ITEM : Field := ⟨0x0, 0x0, 1, 24, 8, .ro, .lit 255⟩
/-- R438: HW_STAT [47:32] APPLIED. -/
def HW_STAT_APPLIED : Field := ⟨0x0, 0x0, 1, 32, 16, .ro, .lit 0⟩
/-- R438: HW_STAT [63:48] REFUSED. -/
def HW_STAT_REFUSED : Field := ⟨0x0, 0x0, 1, 48, 16, .ro, .lit 0⟩
/-- R438: HW_FUSE [0] OWNER_SET. -/
def HW_FUSE_OWNER_SET : Field := ⟨0x8, 0x0, 1, 0, 1, .ro, .fuse .ownerSet⟩
/-- R438: HW_FUSE [1] CUSTODIAN_SET. -/
def HW_FUSE_CUSTODIAN_SET : Field := ⟨0x8, 0x0, 1, 1, 1, .ro, .fuse .custodianSet⟩
/-- R438: HW_FUSE [2] SITE_OPT_SET. -/
def HW_FUSE_SITE_OPT_SET : Field := ⟨0x8, 0x0, 1, 2, 1, .ro, .fuse .siteOptSet⟩
/-- R438: HW_FUSE [3] SITE_ONLY. -/
def HW_FUSE_SITE_ONLY : Field := ⟨0x8, 0x0, 1, 3, 1, .ro, .fuse .siteOnly⟩
/-- R438: HW_FUSE [13:8] SVN_FLOOR. -/
def HW_FUSE_SVN_FLOOR : Field := ⟨0x8, 0x0, 1, 8, 6, .ro, .fuse .svnFloor⟩
/-- R438: HW_SERIAL [63:0] SERIAL. -/
def HW_SERIAL_SERIAL : Field := ⟨0x10, 0x0, 1, 0, 64, .ro, .fuse .serial⟩
/-- R438: HW_NONCE_k [63:0] NONCE. -/
def HW_NONCE_NONCE : Field := ⟨0x20, 0x8, 4, 0, 64, .ro, .fuse .nonce⟩
/-- R438: HW_SUBMIT [47:0] ADDR. -/
def HW_SUBMIT_ADDR : Field := ⟨0x40, 0x0, 1, 0, 48, .rw, .lit 0⟩
/-- R438: HW_SUBMIT [48] GO. -/
def HW_SUBMIT_GO : Field := ⟨0x40, 0x0, 1, 48, 1, .wo, .lit 0⟩
/-- R438: HW_APPLY [47:0] PASS. -/
def HW_APPLY_PASS : Field := ⟨0x48, 0x0, 1, 0, 48, .ro, .lit 0⟩
/-- R438: ATT_CTL [0] GO. -/
def ATT_CTL_GO : Field := ⟨0x80, 0x0, 1, 0, 1, .wo, .lit 0⟩
/-- R438: ATT_CTL [1] BUSY. -/
def ATT_CTL_BUSY : Field := ⟨0x80, 0x0, 1, 1, 1, .ro, .lit 0⟩
/-- R438: ATT_CTL [12:8] PART. -/
def ATT_CTL_PART : Field := ⟨0x80, 0x0, 1, 8, 5, .rw, .lit 0⟩
/-- R438: ATT_CTL [13] PART_EN. -/
def ATT_CTL_PART_EN : Field := ⟨0x80, 0x0, 1, 13, 1, .rw, .lit 0⟩
/-- R438: ATT_CTL [47:32] REPORTS. -/
def ATT_CTL_REPORTS : Field := ⟨0x80, 0x0, 1, 32, 16, .ro, .lit 0⟩
/-- R438: ATT_DEST [47:0] ADDR. -/
def ATT_DEST_ADDR : Field := ⟨0x88, 0x0, 1, 0, 48, .rw, .lit 0⟩
/-- R438: ATT_CHALLENGE_k [63:0] CHALLENGE. -/
def ATT_CHALLENGE_CHALLENGE : Field := ⟨0x90, 0x8, 4, 0, 64, .rw, .lit 0⟩
/-- R438: KEY_INFO_s [0] VALID. -/
def KEY_INFO_VALID : Field := ⟨0x1000, 0x8, 64, 0, 1, .ro, .fuse .keyValid⟩
/-- R438: KEY_INFO_s [2:1] ROLE. -/
def KEY_INFO_ROLE : Field := ⟨0x1000, 0x8, 64, 1, 2, .ro, .fuse .keyRole⟩
/-- R438: KEY_INFO_s [63:8] KEY_ID. -/
def KEY_INFO_KEY_ID : Field := ⟨0x1000, 0x8, 64, 8, 56, .ro, .fuse .keyId⟩
/-- R438: PART_p [31:0] PLOTS. -/
def PART_PLOTS : Field := ⟨0x2000, 0x8, 32, 0, 32, .rwh, .lit 0⟩
/-- R438: PART_p [37:32] TENANT. -/
def PART_TENANT : Field := ⟨0x2000, 0x8, 32, 32, 6, .rwh, .lit 0⟩
/-- R438: PART_p [38] VALID. -/
def PART_VALID : Field := ⟨0x2000, 0x8, 32, 38, 1, .rwh, .lit 0⟩
/-- R438: PART_p [39] FILLING. -/
def PART_FILLING : Field := ⟨0x2000, 0x8, 32, 39, 1, .ro, .lit 0⟩
/-- R438: BARN_EXT_e [17:0] BASE. -/
def BARN_EXT_BASE : Field := ⟨0x2100, 0x8, 64, 0, 18, .rwh, .lit 0⟩
/-- R438: BARN_EXT_e [35:18] UNITS. -/
def BARN_EXT_UNITS : Field := ⟨0x2100, 0x8, 64, 18, 18, .rwh, .lit 0⟩
/-- R438: BARN_EXT_e [40:36] PART. -/
def BARN_EXT_PART : Field := ⟨0x2100, 0x8, 64, 36, 5, .rwh, .lit 0⟩
/-- R438: BARN_EXT_e [41] VALID. -/
def BARN_EXT_VALID : Field := ⟨0x2100, 0x8, 64, 41, 1, .rwh, .lit 0⟩
/-- R438: BARN_EXT_e [42] FILLING. -/
def BARN_EXT_FILLING : Field := ⟨0x2100, 0x8, 64, 42, 1, .ro, .lit 0⟩
/-- R438: SLICE_OWNER_i [5:0] TENANT. -/
def SLICE_OWNER_TENANT : Field := ⟨0x2400, 0x8, 256, 0, 6, .rwh, .lit 0⟩
/-- R438: SLICE_OWNER_i [6] VALID. -/
def SLICE_OWNER_VALID : Field := ⟨0x2400, 0x8, 256, 6, 1, .rwh, .lit 0⟩
/-- R462: FLT_CFG [3:0] STRIKE_LIMIT. -/
def FLT_CFG_STRIKE_LIMIT : Field := ⟨0x0, 0x0, 1, 0, 4, .rw, .lit 3⟩
/-- R462: FLT_CFG [31:8] STRIKE_WINDOW. -/
def FLT_CFG_STRIKE_WINDOW : Field := ⟨0x0, 0x0, 1, 8, 24, .rw, .lit 1048576⟩
/-- R462: FLT_CFG [32] STANDIN_EN. -/
def FLT_CFG_STANDIN_EN : Field := ⟨0x0, 0x0, 1, 32, 1, .rw, .lit 1⟩
/-- R462: FLT_STAT [0] UNMASKED. -/
def FLT_STAT_UNMASKED : Field := ⟨0x8, 0x0, 1, 0, 1, .w1c, .lit 0⟩
/-- R462: FLT_STAT [1] DEGRADED. -/
def FLT_STAT_DEGRADED : Field := ⟨0x8, 0x0, 1, 1, 1, .w1c, .lit 0⟩
/-- R462: FLT_STAT [15:8] LAST_CLASS. -/
def FLT_STAT_LAST_CLASS : Field := ⟨0x8, 0x0, 1, 8, 8, .ro, .lit 0⟩
/-- R462: FLT_STAT [63:32] MASKED. -/
def FLT_STAT_MASKED : Field := ⟨0x8, 0x0, 1, 32, 32, .ro, .lit 0⟩
/-- R462: ERR_RING [41:0] BASE. -/
def ERR_RING_BASE : Field := ⟨0x10, 0x0, 1, 0, 42, .ro, .lit 0⟩
/-- R462: ERR_RING [48:44] SIZE_LOG2. -/
def ERR_RING_SIZE_LOG2 : Field := ⟨0x10, 0x0, 1, 44, 5, .ro, .opt 0x23 0⟩
/-- R462: ERR_WIDX [31:0] WIDX. -/
def ERR_WIDX_WIDX : Field := ⟨0x18, 0x0, 1, 0, 32, .ro, .lit 0⟩
/-- R462: ERR_RIDX [31:0] RIDX. -/
def ERR_RIDX_RIDX : Field := ⟨0x20, 0x0, 1, 0, 32, .rw, .lit 0⟩
/-- R462: ERR_RIDX [47:32] OVERWRITTEN. -/
def ERR_RIDX_OVERWRITTEN : Field := ⟨0x20, 0x0, 1, 32, 16, .ro, .lit 0⟩
/-- R462: ERR_RIDX [63:48] LOST. -/
def ERR_RIDX_LOST : Field := ⟨0x20, 0x0, 1, 48, 16, .ro, .lit 0⟩
/-- R462: FLT_SEQ [0] MASTER. -/
def FLT_SEQ_MASTER : Field := ⟨0x28, 0x0, 1, 0, 1, .ro, .lit 0⟩
/-- R462: FLT_SEQ [1] C0_RETIRED. -/
def FLT_SEQ_C0_RETIRED : Field := ⟨0x28, 0x0, 1, 1, 1, .ro, .lit 0⟩
/-- R462: FLT_SEQ [2] C1_RETIRED. -/
def FLT_SEQ_C1_RETIRED : Field := ⟨0x28, 0x0, 1, 2, 1, .ro, .lit 0⟩
/-- R462: FLT_SEQ [5:4] VOTER. -/
def FLT_SEQ_VOTER : Field := ⟨0x28, 0x0, 1, 4, 2, .ro, .lit 0⟩
/-- R462: FLT_SEQ [11:8] VOTERS_RETIRED. -/
def FLT_SEQ_VOTERS_RETIRED : Field := ⟨0x28, 0x0, 1, 8, 4, .ro, .lit 0⟩
/-- R462: FLT_SEQ [31:16] VOTES. -/
def FLT_SEQ_VOTES : Field := ⟨0x28, 0x0, 1, 16, 16, .ro, .lit 0⟩
/-- R462: FLT_VR [15:0] PHASE_LOST. -/
def FLT_VR_PHASE_LOST : Field := ⟨0x30, 0x0, 1, 0, 16, .ro, .lit 0⟩
/-- R462: FLT_VR [31:16] RAIL_STRETCH. -/
def FLT_VR_RAIL_STRETCH : Field := ⟨0x30, 0x0, 1, 16, 16, .ro, .lit 0⟩
/-- R462: FLT_VR [47:32] PHASE_EVENTS. -/
def FLT_VR_PHASE_EVENTS : Field := ⟨0x30, 0x0, 1, 32, 16, .ro, .lit 0⟩
/-- R462: FLT_CRIT [31:0] CORRECTED. -/
def FLT_CRIT_CORRECTED : Field := ⟨0x38, 0x0, 1, 0, 32, .ro, .lit 0⟩
/-- R462: FLT_CRIT [39:32] LAST_UNIT. -/
def FLT_CRIT_LAST_UNIT : Field := ⟨0x38, 0x0, 1, 32, 8, .ro, .lit 0⟩
/-- R462: FLT_PORTS [11:0] HARROW_SINGLE. -/
def FLT_PORTS_HARROW_SINGLE : Field := ⟨0x40, 0x0, 1, 0, 12, .ro, .lit 0⟩
/-- R462: FLT_PORTS [27:16] HARROW_BYPASS. -/
def FLT_PORTS_HARROW_BYPASS : Field := ⟨0x40, 0x0, 1, 16, 12, .ro, .lit 0⟩
/-- R462: FLT_UNIT [3:0] STRIKES. -/
def FLT_UNIT_STRIKES : Field := ⟨0xa00, 0x0, 1, 0, 4, .ro, .lit 0⟩
/-- R462: FLT_UNIT [4] SELFCHECK_FAIL. -/
def FLT_UNIT_SELFCHECK_FAIL : Field := ⟨0xa00, 0x0, 1, 4, 1, .ro, .lit 0⟩
/-- R462: FLT_UNIT [63:16] LAST_STRIKE. -/
def FLT_UNIT_LAST_STRIKE : Field := ⟨0xa00, 0x0, 1, 16, 48, .ro, .lit 0⟩
/-- R462: FLT_PLOT [7:0] BIN_SINGLE. -/
def FLT_PLOT_BIN_SINGLE : Field := ⟨0x300, 0x0, 1, 0, 8, .ro, .lit 0⟩
/-- R462: FLT_PLOT [15:8] BIN_LOST. -/
def FLT_PLOT_BIN_LOST : Field := ⟨0x300, 0x0, 1, 8, 8, .ro, .lit 0⟩
/-- R462: FLT_PLOT [16] DRILL_SINGLE. -/
def FLT_PLOT_DRILL_SINGLE : Field := ⟨0x300, 0x0, 1, 16, 1, .ro, .lit 0⟩
/-- R462: FLT_PLOT [17] DRILL_LOST. -/
def FLT_PLOT_DRILL_LOST : Field := ⟨0x300, 0x0, 1, 17, 1, .ro, .lit 0⟩
/-- R466: PT_TX_BYTES [63:0] BYTES. -/
def PT_TX_BYTES_BYTES : Field := ⟨0x100, 0x0, 1, 0, 64, .ro, .lit 0⟩
/-- R466: PT_RX_BYTES [63:0] BYTES. -/
def PT_RX_BYTES_BYTES : Field := ⟨0x108, 0x0, 1, 0, 64, .ro, .lit 0⟩
/-- R466: PT_TX_SCHED [63:0] BYTES. -/
def PT_TX_SCHED_BYTES : Field := ⟨0x110, 0x0, 1, 0, 64, .ro, .lit 0⟩
/-- R466: PT_TX_TRANSIT [63:0] BYTES. -/
def PT_TX_TRANSIT_BYTES : Field := ⟨0x118, 0x0, 1, 0, 64, .ro, .lit 0⟩
/-- R466: PT_PKTS [31:0] TX. -/
def PT_PKTS_TX : Field := ⟨0x120, 0x0, 1, 0, 32, .ro, .lit 0⟩
/-- R466: PT_PKTS [63:32] RX. -/
def PT_PKTS_RX : Field := ⟨0x120, 0x0, 1, 32, 32, .ro, .lit 0⟩
/-- R466: PT_POSITIONS [31:0] RES_IDLE. -/
def PT_POSITIONS_RES_IDLE : Field := ⟨0x128, 0x0, 1, 0, 32, .ro, .lit 0⟩
/-- R466: PT_POSITIONS [63:32] MOVED. -/
def PT_POSITIONS_MOVED : Field := ⟨0x128, 0x0, 1, 32, 32, .ro, .lit 0⟩
/-- R466: PT_Q_v [7:0] DEPTH. -/
def PT_Q_DEPTH : Field := ⟨0x130, 0x8, 8, 0, 8, .ro, .lit 0⟩
/-- R466: PT_Q_v [15:8] PEAK. -/
def PT_Q_PEAK : Field := ⟨0x130, 0x8, 8, 8, 8, .ro, .lit 0⟩
/-- R466: PT_Q_v [63:32] STALL. -/
def PT_Q_STALL : Field := ⟨0x130, 0x8, 8, 32, 32, .ro, .lit 0⟩
/-- R466: PT_VC_BYTES_v [63:0] BYTES. -/
def PT_VC_BYTES_BYTES : Field := ⟨0x180, 0x8, 8, 0, 64, .ro, .lit 0⟩
/-- R478: TEL_CTL [0] SNAP. -/
def TEL_CTL_SNAP : Field := ⟨0x100, 0x0, 1, 0, 1, .wo, .lit 0⟩
/-- R478: TEL_CTL [1] VIEW. -/
def TEL_CTL_VIEW : Field := ⟨0x100, 0x0, 1, 1, 1, .rw, .lit 0⟩
/-- R478: TEL_CTL [2] CLEAR_PEAKS. -/
def TEL_CTL_CLEAR_PEAKS : Field := ⟨0x100, 0x0, 1, 2, 1, .wo, .lit 0⟩
/-- R478: TEL_SNAP_TIME [63:0] STAMP. -/
def TEL_SNAP_TIME_STAMP : Field := ⟨0x108, 0x0, 1, 0, 64, .ro, .lit 0⟩
/-- R478: CONG_CFG [4:0] INTERVAL_LOG2. -/
def CONG_CFG_INTERVAL_LOG2 : Field := ⟨0x110, 0x0, 1, 0, 5, .rw, .lit 10⟩
/-- R478: CONG_CFG [5] ENABLE. -/
def CONG_CFG_ENABLE : Field := ⟨0x110, 0x0, 1, 5, 1, .rw, .lit 1⟩
/-- R478: CONG_CFG [6] SEND. -/
def CONG_CFG_SEND : Field := ⟨0x110, 0x0, 1, 6, 1, .rw, .lit 0⟩
/-- R478: CONG_CFG [12:8] COLLECT_BITS. -/
def CONG_CFG_COLLECT_BITS : Field := ⟨0x110, 0x0, 1, 8, 5, .rw, .lit 0⟩
/-- R478: CONG_DEST [63:0] ADDR. -/
def CONG_DEST_ADDR : Field := ⟨0x118, 0x0, 1, 0, 64, .rw, .lit 0⟩
/-- R478: CONG_STAT [15:0] SEQ. -/
def CONG_STAT_SEQ : Field := ⟨0x120, 0x0, 1, 0, 16, .ro, .lit 0⟩
/-- R478: CONG_STAT [31:16] SEND_FAILS. -/
def CONG_STAT_SEND_FAILS : Field := ⟨0x120, 0x0, 1, 16, 16, .ro, .lit 0⟩
/-- R478: CONG_STAT [47:32] LATE. -/
def CONG_STAT_LATE : Field := ⟨0x120, 0x0, 1, 32, 16, .ro, .lit 0⟩
/-- R478: CONG_LAST_k [63:0] WORD. -/
def CONG_LAST_WORD : Field := ⟨0x180, 0x8, 8, 0, 64, .ro, .lit 0⟩
/-- R478: TRACE_CFG [0] SAMPLE_EN. -/
def TRACE_CFG_SAMPLE_EN : Field := ⟨0x128, 0x0, 1, 0, 1, .rw, .lit 0⟩
/-- R478: TRACE_CFG [1] BRANCH_EN. -/
def TRACE_CFG_BRANCH_EN : Field := ⟨0x128, 0x0, 1, 1, 1, .rw, .lit 0⟩
/-- R478: TRACE_CFG [2] CMD_EN. -/
def TRACE_CFG_CMD_EN : Field := ⟨0x128, 0x0, 1, 2, 1, .rw, .lit 0⟩
/-- R478: TRACE_CFG [3] MARK_EN. -/
def TRACE_CFG_MARK_EN : Field := ⟨0x128, 0x0, 1, 3, 1, .rw, .lit 0⟩
/-- R478: TRACE_CFG [4] MODE. -/
def TRACE_CFG_MODE : Field := ⟨0x128, 0x0, 1, 4, 1, .rw, .lit 0⟩
/-- R478: TRACE_CFG [5] TRIG_HALT. -/
def TRACE_CFG_TRIG_HALT : Field := ⟨0x128, 0x0, 1, 5, 1, .rw, .lit 0⟩
/-- R478: TRACE_CFG [12:8] PERIOD_LOG2. -/
def TRACE_CFG_PERIOD_LOG2 : Field := ⟨0x128, 0x0, 1, 8, 5, .rw, .lit 12⟩
/-- R478: TRACE_CFG [23:16] TRIG_CLASS. -/
def TRACE_CFG_TRIG_CLASS : Field := ⟨0x128, 0x0, 1, 16, 8, .rw, .lit 0⟩
/-- R478: TRACE_CFG [47:32] POST_PASSES. -/
def TRACE_CFG_POST_PASSES : Field := ⟨0x128, 0x0, 1, 32, 16, .rw, .lit 16⟩
/-- R478: TRACE_CTL [0] START. -/
def TRACE_CTL_START : Field := ⟨0x130, 0x0, 1, 0, 1, .wo, .lit 0⟩
/-- R478: TRACE_CTL [1] STOP. -/
def TRACE_CTL_STOP : Field := ⟨0x130, 0x0, 1, 1, 1, .wo, .lit 0⟩
/-- R478: TRACE_CTL [2] RESTART. -/
def TRACE_CTL_RESTART : Field := ⟨0x130, 0x0, 1, 2, 1, .wo, .lit 0⟩
/-- R478: TRACE_FILTER [31:0] PLOTS. -/
def TRACE_FILTER_PLOTS : Field := ⟨0x138, 0x0, 1, 0, 32, .rw, .lit 0⟩
/-- R478: TRACE_FILTER [48:32] SLOTS. -/
def TRACE_FILTER_SLOTS : Field := ⟨0x138, 0x0, 1, 32, 17, .rw, .lit 0⟩
/-- R478: TRACE_LAYER [15:0] LO. -/
def TRACE_LAYER_LO : Field := ⟨0x140, 0x0, 1, 0, 16, .rw, .lit 0⟩
/-- R478: TRACE_LAYER [31:16] HI. -/
def TRACE_LAYER_HI : Field := ⟨0x140, 0x0, 1, 16, 16, .rw, .lit 65535⟩
/-- R478: TRACE_STAT [1:0] STATE. -/
def TRACE_STAT_STATE : Field := ⟨0x148, 0x0, 1, 0, 2, .ro, .lit 0⟩
/-- R478: TRACE_STAT [2] ENABLE_PENDING. -/
def TRACE_STAT_ENABLE_PENDING : Field := ⟨0x148, 0x0, 1, 2, 1, .ro, .lit 0⟩
/-- R478: TRACE_STAT [3] WRAPPED. -/
def TRACE_STAT_WRAPPED : Field := ⟨0x148, 0x0, 1, 3, 1, .ro, .lit 0⟩
/-- R478: TRACE_STAT [4] FULL. -/
def TRACE_STAT_FULL : Field := ⟨0x148, 0x0, 1, 4, 1, .ro, .lit 0⟩
/-- R478: TRACE_STAT [7:5] TRIG_CAUSE. -/
def TRACE_STAT_TRIG_CAUSE : Field := ⟨0x148, 0x0, 1, 5, 3, .ro, .lit 0⟩
/-- R478: TRACE_STAT [31:16] DROPPED. -/
def TRACE_STAT_DROPPED : Field := ⟨0x148, 0x0, 1, 16, 16, .ro, .lit 0⟩
/-- R478: TRACE_STAT [42:32] QUEUED. -/
def TRACE_STAT_QUEUED : Field := ⟨0x148, 0x0, 1, 32, 11, .ro, .lit 0⟩
/-- R478: TRACE_WIDX [31:0] WIDX. -/
def TRACE_WIDX_WIDX : Field := ⟨0x150, 0x0, 1, 0, 32, .ro, .lit 0⟩
/-- R478: TRACE_WIDX [63:32] SEQ. -/
def TRACE_WIDX_SEQ : Field := ⟨0x150, 0x0, 1, 32, 32, .ro, .lit 0⟩
/-- R478: DBG_STOP [0] GO. -/
def DBG_STOP_GO : Field := ⟨0x158, 0x0, 1, 0, 1, .wo, .lit 0⟩
/-- R478: DBG_STOP [1] ON_TRIGGER. -/
def DBG_STOP_ON_TRIGGER : Field := ⟨0x158, 0x0, 1, 1, 1, .rw, .lit 0⟩
/-- R478: DBG_STOP [2] ON_BRK. -/
def DBG_STOP_ON_BRK : Field := ⟨0x158, 0x0, 1, 2, 1, .rw, .lit 0⟩
/-- R478: DBG_STOP [12:8] PART. -/
def DBG_STOP_PART : Field := ⟨0x158, 0x0, 1, 8, 5, .rw, .lit 0⟩
/-- R478: DBG_STOP [63:16] STOP_PASS. -/
def DBG_STOP_STOP_PASS : Field := ⟨0x158, 0x0, 1, 16, 48, .rw, .lit 0⟩
/-- R478: DBG_STAT [0] ARMED. -/
def DBG_STAT_ARMED : Field := ⟨0x160, 0x0, 1, 0, 1, .ro, .lit 0⟩
/-- R478: DBG_STAT [1] STOPPED. -/
def DBG_STAT_STOPPED : Field := ⟨0x160, 0x0, 1, 1, 1, .ro, .lit 0⟩
/-- R478: DBG_STAT [2] DRAINED. -/
def DBG_STAT_DRAINED : Field := ⟨0x160, 0x0, 1, 2, 1, .ro, .lit 0⟩
/-- R478: DBG_STAT [25:16] HALTED. -/
def DBG_STAT_HALTED : Field := ⟨0x160, 0x0, 1, 16, 10, .ro, .lit 0⟩
/-- R478: DBG_STAT [63:32] STOPS. -/
def DBG_STAT_STOPS : Field := ⟨0x160, 0x0, 1, 32, 32, .ro, .lit 0⟩
/-- R478: TRACE_MARK [63:0] VALUE. -/
def TRACE_MARK_VALUE : Field := ⟨0xb00, 0x0, 1, 0, 64, .wo, .lit 0⟩
/-- R494: PT_TEST [0] TEST_EN. -/
def PT_TEST_TEST_EN : Field := ⟨0x200, 0x0, 1, 0, 1, .rw, .lit 0⟩
/-- R494: PT_TEST [2:1] PATTERN. -/
def PT_TEST_PATTERN : Field := ⟨0x200, 0x0, 1, 1, 2, .rw, .lit 0⟩
/-- R494: PT_TEST [3] INVERT. -/
def PT_TEST_INVERT : Field := ⟨0x200, 0x0, 1, 3, 1, .rw, .lit 0⟩
/-- R494: PT_TEST [5:4] LOOP. -/
def PT_TEST_LOOP : Field := ⟨0x200, 0x0, 1, 4, 2, .rw, .lit 0⟩
/-- R494: PT_TEST [16:8] GEN_LANES. -/
def PT_TEST_GEN_LANES : Field := ⟨0x200, 0x0, 1, 8, 9, .rw, .lit 0⟩
/-- R494: PT_TEST [25:17] CHK_LANES. -/
def PT_TEST_CHK_LANES : Field := ⟨0x200, 0x0, 1, 17, 9, .rw, .lit 0⟩
/-- R494: PT_TEST [26] CLEAR. -/
def PT_TEST_CLEAR : Field := ⟨0x200, 0x0, 1, 26, 1, .wo, .lit 0⟩
/-- R494: PT_MARGIN [3:0] LANE. -/
def PT_MARGIN_LANE : Field := ⟨0x208, 0x0, 1, 0, 4, .rw, .lit 0⟩
/-- R494: PT_MARGIN [9:4] TIME_OFS. -/
def PT_MARGIN_TIME_OFS : Field := ⟨0x208, 0x0, 1, 4, 6, .rw, .lit 0⟩
/-- R494: PT_MARGIN [15:10] VOLT_OFS. -/
def PT_MARGIN_VOLT_OFS : Field := ⟨0x208, 0x0, 1, 10, 6, .rw, .lit 0⟩
/-- R494: PT_MARGIN [21:16] DWELL_LOG2. -/
def PT_MARGIN_DWELL_LOG2 : Field := ⟨0x208, 0x0, 1, 16, 6, .rw, .lit 30⟩
/-- R494: PT_MARGIN [22] GO. -/
def PT_MARGIN_GO : Field := ⟨0x208, 0x0, 1, 22, 1, .wo, .lit 0⟩
/-- R494: PT_ERR_k [39:0] ERRORS. -/
def PT_ERR_ERRORS : Field := ⟨0x210, 0x8, 9, 0, 40, .ro, .lit 0⟩
/-- R494: PT_ERR_k [40] LOCK. -/
def PT_ERR_LOCK : Field := ⟨0x210, 0x8, 9, 40, 1, .ro, .lit 0⟩
/-- R494: PT_ERR_k [63:56] LOCK_LOSSES. -/
def PT_ERR_LOCK_LOSSES : Field := ⟨0x210, 0x8, 9, 56, 8, .ro, .lit 0⟩
/-- R494: PT_BITS_k [47:0] BITS. -/
def PT_BITS_BITS : Field := ⟨0x260, 0x8, 9, 0, 48, .ro, .lit 0⟩
/-- R494: PT_MARGIN_RES [39:0] ERRORS. -/
def PT_MARGIN_RES_ERRORS : Field := ⟨0x258, 0x0, 1, 0, 40, .ro, .lit 0⟩
/-- R494: PT_MARGIN_RES [40] DONE. -/
def PT_MARGIN_RES_DONE : Field := ⟨0x258, 0x0, 1, 40, 1, .ro, .lit 1⟩
/-- R495: PWR_STAT [15:0] VIN. -/
def PWR_STAT_VIN : Field := ⟨0x200, 0x0, 1, 0, 16, .ro, .lit 0⟩
/-- R495: PWR_STAT [31:16] IIN. -/
def PWR_STAT_IIN : Field := ⟨0x200, 0x0, 1, 16, 16, .ro, .lit 0⟩
/-- R495: PWR_STAT [47:32] PIN. -/
def PWR_STAT_PIN : Field := ⟨0x200, 0x0, 1, 32, 16, .ro, .lit 0⟩
/-- R495: PWR_STAT [48] CAP_ACTIVE. -/
def PWR_STAT_CAP_ACTIVE : Field := ⟨0x200, 0x0, 1, 48, 1, .ro, .lit 0⟩
/-- R495: PWR_CAP [15:0] LIMIT. -/
def PWR_CAP_LIMIT : Field := ⟨0x208, 0x0, 1, 0, 16, .rw, .lit 2000⟩
/-- R495: PWR_COUNT [31:0] CAP_PASSES. -/
def PWR_COUNT_CAP_PASSES : Field := ⟨0x210, 0x0, 1, 0, 32, .ro, .lit 0⟩
/-- R495: PWR_COUNT [47:32] PEAK_W. -/
def PWR_COUNT_PEAK_W : Field := ⟨0x210, 0x0, 1, 32, 16, .ro, .lit 0⟩
/-- R495: THERM_CFG [7:0] WARN. -/
def THERM_CFG_WARN : Field := ⟨0x218, 0x0, 1, 0, 8, .rw, .lit 100⟩
/-- R495: THERM_CFG [15:8] TRIP. -/
def THERM_CFG_TRIP : Field := ⟨0x218, 0x0, 1, 8, 8, .ro, .lit 110⟩
/-- R495: THERM_CFG [23:16] RELEASE. -/
def THERM_CFG_RELEASE : Field := ⟨0x218, 0x0, 1, 16, 8, .ro, .lit 90⟩
/-- R495: THERM_STAT [7:0] MAX. -/
def THERM_STAT_MAX : Field := ⟨0x220, 0x0, 1, 0, 8, .ro, .lit 0⟩
/-- R495: THERM_STAT [12:8] MAX_SENSOR. -/
def THERM_STAT_MAX_SENSOR : Field := ⟨0x220, 0x0, 1, 8, 5, .ro, .lit 0⟩
/-- R495: THERM_STAT [13] WARN. -/
def THERM_STAT_WARN : Field := ⟨0x220, 0x0, 1, 13, 1, .ro, .lit 0⟩
/-- R495: THERM_STAT [14] BARN_HOT. -/
def THERM_STAT_BARN_HOT : Field := ⟨0x220, 0x0, 1, 14, 1, .ro, .lit 0⟩
/-- R495: THERM_STAT [31:16] WARN_PASSES. -/
def THERM_STAT_WARN_PASSES : Field := ⟨0x220, 0x0, 1, 16, 16, .ro, .lit 0⟩
/-- R495: THERM_SENSE_k [7:0] TEMP. -/
def THERM_SENSE_TEMP : Field := ⟨0x240, 0x8, 20, 0, 8, .ro, .lit 0⟩
/-- R495: THERM_SENSE_k [15:8] PEAK. -/
def THERM_SENSE_PEAK : Field := ⟨0x240, 0x8, 20, 8, 8, .ro, .lit 0⟩
/-- R478: GRAN_RD_p [63:0] BYTES. -/
def GRAN_RD_BYTES : Field := ⟨0x200, 0x10, 32, 0, 64, .ro, .lit 0⟩
/-- R478: GRAN_WR_p [63:0] BYTES. -/
def GRAN_WR_BYTES : Field := ⟨0x208, 0x10, 32, 0, 64, .ro, .lit 0⟩
/-- R478: BARN_RD [63:0] BYTES. -/
def BARN_RD_BYTES : Field := ⟨0x400, 0x0, 1, 0, 64, .ro, .lit 0⟩
/-- R478: BARN_WR [63:0] BYTES. -/
def BARN_WR_BYTES : Field := ⟨0x408, 0x0, 1, 0, 64, .ro, .lit 0⟩
/-- R478: BARN_ELASTIC [63:0] BYTES. -/
def BARN_ELASTIC_BYTES : Field := ⟨0x410, 0x0, 1, 0, 64, .ro, .lit 0⟩
/-- R478: WIN_RD [63:0] BYTES. -/
def WIN_RD_BYTES : Field := ⟨0x418, 0x0, 1, 0, 64, .ro, .lit 0⟩
/-- R478: WIN_WR [63:0] BYTES. -/
def WIN_WR_BYTES : Field := ⟨0x420, 0x0, 1, 0, 64, .ro, .lit 0⟩
end F

/-- The registers of the block: Global and identity (Table 1-4). -/
def globRegs : List Reg :=
  [⟨0x0, 0x0, 1, [F.GLOBAL_ID_GRADE, F.GLOBAL_ID_STEPPING, F.GLOBAL_ID_DEVICE_ID, F.GLOBAL_ID_ACTIVE_CLUSTERS]⟩,
   ⟨0x8, 0x0, 1, [F.PLOT_ENABLE_ACTIVE_PLOTS]⟩,
   ⟨0x100, 0x8, 32, [F.PLOT_MAP_STANDIN, F.PLOT_MAP_SPARE_RETIRED, F.PLOT_MAP_RETIRED, F.PLOT_MAP_FALLOW]⟩]

/-- The registers of the block: Pass sequencer (Table 2-4). -/
def seqRegs : List Reg :=
  [⟨0x0, 0x0, 1, [F.PASS_CFG_PASS_LEN, F.PASS_CFG_BUDGET_CLK, F.PASS_CFG_EDGE_BUDGET]⟩,
   ⟨0x8, 0x0, 1, [F.FIELD_COUNT_COUNT]⟩,
   ⟨0x10, 0x0, 1, [F.PASS_NUM_NUM]⟩,
   ⟨0x18, 0x0, 1, [F.PASS_PHASE_PHASE, F.PASS_PHASE_SLOT]⟩,
   ⟨0x20, 0x0, 1, [F.TIME_CFG_SYNC_PORTS, F.TIME_CFG_ROOT_BAR]⟩,
   ⟨0x28, 0x0, 1, [F.TIME_STAT_STATE, F.TIME_STAT_PARENT_PORT, F.TIME_STAT_HOPS_TO_ROOT, F.TIME_STAT_ROOT_ID, F.TIME_STAT_OFFSET, F.TIME_STAT_FOREIGN_PORTS]⟩,
   ⟨0x30, 0x0, 1, [F.COMMIT_CFG_COMMIT_GUARD]⟩,
   ⟨0x38, 0x0, 1, [F.COMMIT_COUNT_REEXECUTED, F.COMMIT_COUNT_SLIPPED]⟩,
   ⟨0x40, 0x0, 1, [F.HOLD_COUNT_HELD_DELIVERIES, F.HOLD_COUNT_HELD_READS]⟩,
   ⟨0x48, 0x0, 1, [F.SEQ_STAT_MISMATCH, F.SEQ_STAT_MISMATCH_PASS]⟩]

/-- The registers of the block: Cluster block (Tables 3-7, 4-7, 5-10, 6-5, 7-9, 8-11, 18-5, 19-8). -/
def slotRegs : List Reg :=
  [⟨0x800, 0x0, 1, [F.EXC_CFG_CAPTURE_MASK]⟩,
   ⟨0x808, 0x0, 1, [F.EXC_SUMMARY_STICKY, F.EXC_SUMMARY_CAPTURED, F.EXC_SUMMARY_CAPTURED_FLAGS, F.EXC_SUMMARY_ENGINE]⟩,
   ⟨0x810, 0x0, 1, [F.EXC_FIRST_ID_LAYER_ID, F.EXC_FIRST_ID_OPERATOR_ID, F.EXC_FIRST_ID_REG, F.EXC_FIRST_ID_EPOCH]⟩,
   ⟨0x818, 0x0, 1, [F.EXC_FIRST_POS_ELEMENT, F.EXC_FIRST_POS_ROW, F.EXC_FIRST_POS_COLUMN]⟩,
   ⟨0x820, 0x0, 1, [F.EXC_FIRST_TIME_STAMP]⟩,
   ⟨0x828, 0x0, 1, [F.SR_SEED_SEED]⟩,
   ⟨0x400, 0x0, 1, [F.MAT_STAT_QUEUED, F.MAT_STAT_IN_PIPE, F.MAT_STAT_TILE_BUSY, F.MAT_STAT_STREAMING]⟩,
   ⟨0x408, 0x0, 1, [F.MAT_EDGES_BUSY]⟩,
   ⟨0x410, 0x0, 1, [F.MAT_ROWS_ROWS]⟩,
   ⟨0x418, 0x0, 1, [F.MAT_STALL_TILE_STALL, F.MAT_STALL_LOAD_BOUND]⟩,
   ⟨0x420, 0x0, 1, [F.MAT_CHECK_RESIDUE_ERRS, F.MAT_CHECK_COMPARE_ERRS, F.MAT_CHECK_PARITY_ERRS]⟩,
   ⟨0x428, 0x0, 1, [F.MAT_CHECK_CTL_CLEAR, F.MAT_CHECK_CTL_INJECT_RESIDUE, F.MAT_CHECK_CTL_INJECT_COMPARE, F.MAT_CHECK_CTL_INJECT_PARITY]⟩,
   ⟨0x430, 0x0, 1, [F.MAT_REBLOCK_CHANGED]⟩,
   ⟨0x500, 0x0, 1, [F.VEC_STAT_QUEUED, F.VEC_STAT_BUSY, F.VEC_STAT_MODE, F.VEC_STAT_BANK, F.VEC_STAT_LANES, F.VEC_STAT_PC]⟩,
   ⟨0x508, 0x0, 1, [F.VEC_EDGES_BUSY]⟩,
   ⟨0x510, 0x0, 1, [F.VEC_INSTR_ISSUED]⟩,
   ⟨0x518, 0x0, 1, [F.VEC_LANEOPS_LANEOPS]⟩,
   ⟨0x520, 0x0, 1, [F.VEC_STALL_DEP_STALL, F.VEC_STALL_PIPE_STALL]⟩,
   ⟨0x528, 0x0, 1, [F.VEC_STRICT_STRICT_EDGES]⟩,
   ⟨0x530, 0x0, 1, [F.VEC_CHECK_COMPARE_ERRS, F.VEC_CHECK_PARITY_ERRS]⟩,
   ⟨0x538, 0x0, 1, [F.VEC_CHECK_CTL_CLEAR, F.VEC_CHECK_CTL_INJECT_COMPARE, F.VEC_CHECK_CTL_INJECT_PARITY]⟩,
   ⟨0x0, 0x0, 1, [F.CORE_STAT_HALTED, F.CORE_STAT_IN_FURROW, F.CORE_STAT_WAIT_PASS, F.CORE_STAT_WAIT_TOKEN, F.CORE_STAT_WAIT_QUEUE, F.CORE_STAT_WAIT_FEND, F.CORE_STAT_REEXEC, F.CORE_STAT_BANK, F.CORE_STAT_SLOT, F.CORE_STAT_PC, F.CORE_STAT_FURROW_ID]⟩,
   ⟨0x8, 0x0, 1, [F.CORE_HALT_REASON, F.CORE_HALT_SOURCE, F.CORE_HALT_BANK, F.CORE_HALT_ADDR, F.CORE_HALT_FURROW_ID, F.CORE_HALT_CMD_CODE]⟩,
   ⟨0x10, 0x0, 1, [F.CORE_HALT_TIME_STAMP]⟩,
   ⟨0x18, 0x0, 1, [F.CORE_DBG_RESUME, F.CORE_DBG_STEP, F.CORE_DBG_HALT_REQ, F.CORE_DBG_DEBUG_EN, F.CORE_DBG_GSEL, F.CORE_DBG_RESUME_PC]⟩,
   ⟨0x20, 0x0, 1, [F.CORE_GDATA_DATA]⟩,
   ⟨0x28, 0x0, 1, [F.IM_CTL_SWITCH, F.IM_CTL_ENTRY]⟩,
   ⟨0x30, 0x0, 1, [F.IM_STAT_ACTIVE, F.IM_STAT_SWITCH_PENDING, F.IM_STAT_DRAINING, F.IM_STAT_STARTED, F.IM_STAT_FETCHERS, F.IM_STAT_PENDING_ENTRY, F.IM_STAT_WRITE_ERRS]⟩,
   ⟨0x38, 0x8, 4, [F.CORE_BP_OFFSET, F.CORE_BP_BANK, F.CORE_BP_ENABLE]⟩,
   ⟨0x58, 0x0, 1, [F.CORE_EDGES_RUN]⟩,
   ⟨0x60, 0x0, 1, [F.CORE_INSTR_RETIRED]⟩,
   ⟨0x68, 0x0, 1, [F.CORE_STALL_QUEUE_FULL, F.CORE_STALL_TOKEN_WAIT]⟩,
   ⟨0x70, 0x0, 1, [F.CORE_FURROWS_BEGUN, F.CORE_FURROWS_FEND_WAIT]⟩,
   ⟨0x78, 0x0, 1, [F.CORE_CHECK_LOCKSTEP_ERRS, F.CORE_CHECK_MEM_CORRECTED, F.CORE_CHECK_MEM_UNCORRECTED]⟩,
   ⟨0x80, 0x0, 1, [F.CORE_CHECK_CTL_CLEAR, F.CORE_CHECK_CTL_INJECT_LOCKSTEP, F.CORE_CHECK_CTL_INJECT_MEM]⟩,
   ⟨0x600, 0x0, 1, [F.CMD_QSTAT_MAT_FWD, F.CMD_QSTAT_MAT_BWD, F.CMD_QSTAT_VEC_FWD, F.CMD_QSTAT_VEC_BWD, F.CMD_QSTAT_DM_FWD, F.CMD_QSTAT_DM_BWD, F.CMD_QSTAT_DM_INFLIGHT]⟩,
   ⟨0x608, 0x0, 1, [F.CMP_RING_BASE, F.CMP_RING_SIZE_LOG2]⟩,
   ⟨0x610, 0x0, 1, [F.CMP_WIDX_WIDX]⟩,
   ⟨0x618, 0x0, 1, [F.EPOCH_STAT_CUR, F.EPOCH_STAT_PREV, F.EPOCH_STAT_PREV_OPEN, F.EPOCH_STAT_ADV_PENDING, F.EPOCH_STAT_PENDING_NEXT]⟩,
   ⟨0x620, 0x0, 1, [F.EPOCH_CTL_NEXT, F.EPOCH_CTL_ADVANCE]⟩,
   ⟨0x628, 0x0, 1, [F.EPOCH_DISCARDS_STALE_CMDS, F.EPOCH_DISCARDS_STALE_PKTS]⟩,
   ⟨0x630, 0x0, 1, [F.HEAD_WAIT_MAT, F.HEAD_WAIT_VEC]⟩,
   ⟨0x638, 0x0, 1, [F.DM_WAIT_DM, F.DM_WAIT_BYPASS]⟩,
   ⟨0x640, 0x0, 1, [F.HELD_STAT_ENTRIES, F.HELD_STAT_PEAK, F.HELD_STAT_BACKPRESSURE]⟩,
   ⟨0x700, 0x8, 16, [F.TOK_T0, F.TOK_T1, F.TOK_T2, F.TOK_T3]⟩,
   ⟨0x900, 0x18, 8, [F.WR_REGION_BASE_LINE, F.WR_REGION_RING_LINES]⟩,
   ⟨0x908, 0x18, 8, [F.WR_SPILL_BASE, F.WR_SPILL_SPILL_LINES]⟩,
   ⟨0x910, 0x18, 8, [F.WR_STAT_DEPTH, F.WR_STAT_RESIDENT]⟩,
   ⟨0x9c0, 0x0, 1, [F.WR_WAIT_PUSH_WAIT, F.WR_WAIT_POP_WAIT]⟩,
   ⟨0x9c8, 0x0, 1, [F.WR_MOVED_SPILLED, F.WR_MOVED_REFILLED]⟩,
   ⟨0xa00, 0x0, 1, [F.FLT_UNIT_STRIKES, F.FLT_UNIT_SELFCHECK_FAIL, F.FLT_UNIT_LAST_STRIKE]⟩,
   ⟨0xb00, 0x0, 1, [F.TRACE_MARK_VALUE]⟩]

/-- The registers of the block: Plot block (Tables 8-9, 13-5). -/
def plotRegs : List Reg :=
  [⟨0x0, 0x0, 1, [F.GRAN_ECC_CORRECTED, F.GRAN_ECC_UNCORRECTABLE]⟩,
   ⟨0x8, 0x0, 1, [F.GRAN_ECC_LAST_LINE, F.GRAN_ECC_LAST_VALID, F.GRAN_ECC_LAST_SYMBOL]⟩,
   ⟨0x10, 0x0, 1, [F.GRAN_UC_FIRST_LINE, F.GRAN_UC_FIRST_VALID]⟩,
   ⟨0x18, 0x0, 1, [F.GRAN_UC_TIME_STAMP]⟩,
   ⟨0x20, 0x0, 1, [F.GRAN_REPAIR_QUEUED, F.GRAN_REPAIR_DROPPED, F.GRAN_REPAIR_REPAIRED]⟩,
   ⟨0x28, 0x0, 1, [F.GRAN_OPEN_EXTENTS, F.GRAN_OPEN_PEAK]⟩,
   ⟨0x30, 0x0, 1, [F.GRAN_ECC_CTL_CLEAR, F.GRAN_ECC_CTL_INJECT_SINGLE, F.GRAN_ECC_CTL_INJECT_DOUBLE]⟩,
   ⟨0x100, 0x0, 1, [F.GLEAN_CFG_LINES_PER_PASS, F.GLEAN_CFG_ENABLE, F.GLEAN_CFG_SUM_EN]⟩,
   ⟨0x108, 0x0, 1, [F.GLEAN_STAT_POS, F.GLEAN_STAT_BUSY, F.GLEAN_STAT_SWEEPS]⟩,
   ⟨0x110, 0x0, 1, [F.GLEAN_SUM_RING_BASE, F.GLEAN_SUM_RING_SIZE_LOG2, F.GLEAN_SUM_RING_WIDX]⟩,
   ⟨0x118, 0x0, 1, [F.GLEAN_REQ_RANGE_START, F.GLEAN_REQ_RANGE_LINES]⟩,
   ⟨0x120, 0x0, 1, [F.GLEAN_REQ_CTL_GO, F.GLEAN_REQ_CTL_REFUSED, F.GLEAN_REQ_CTL_TAG]⟩,
   ⟨0x128, 0x0, 1, [F.GLEAN_REQ_DEST_ADDR]⟩,
   ⟨0x200, 0x8, 8, [F.VERDICT_STEP, F.VERDICT_VALID, F.VERDICT_FINITE]⟩,
   ⟨0x1000, 0x100, 8, [F.BIN_STAT_QUEUED, F.BIN_STAT_BUSY, F.BIN_STAT_CODE, F.BIN_STAT_STICKY, F.BIN_STAT_JOURNAL_USED]⟩,
   ⟨0x1008, 0x100, 8, [F.BIN_CFG_JOURNAL_BASE, F.BIN_CFG_JOURNAL_LINES]⟩,
   ⟨0x1010, 0x100, 8, [F.BIN_DONE_DONE, F.BIN_DONE_SKIPPED, F.BIN_DONE_STALE]⟩,
   ⟨0x1018, 0x100, 8, [F.BIN_ELEMS_ELEMS]⟩,
   ⟨0x1020, 0x100, 8, [F.BIN_CHECK_COMPARE_ERRS, F.BIN_CHECK_PARITY_ERRS, F.BIN_CHECK_REPLAYS]⟩,
   ⟨0x1028, 0x100, 8, [F.BIN_CHECK_CTL_CLEAR, F.BIN_CHECK_CTL_INJECT_COMPARE]⟩,
   ⟨0x8000, 0x0, 1, [F.DRILL_STAT_QUEUED, F.DRILL_STAT_BUSY, F.DRILL_STAT_CODE]⟩,
   ⟨0x8008, 0x0, 1, [F.DRILL_DONE_DONE, F.DRILL_DONE_STALE, F.DRILL_DONE_BAD_SEL]⟩,
   ⟨0x8010, 0x0, 1, [F.DRILL_OVER_OVERFLOWED, F.DRILL_OVER_LAST_EXPERT]⟩,
   ⟨0x8018, 0x0, 1, [F.DRILL_CHECK_COMPARE_ERRS, F.DRILL_CHECK_PARITY_ERRS]⟩,
   ⟨0x8020, 0x0, 1, [F.DRILL_CHECK_CTL_CLEAR, F.DRILL_CHECK_CTL_INJECT_COMPARE]⟩,
   ⟨0x300, 0x0, 1, [F.FLT_PLOT_BIN_SINGLE, F.FLT_PLOT_BIN_LOST, F.FLT_PLOT_DRILL_SINGLE, F.FLT_PLOT_DRILL_LOST]⟩]

/-- The registers of the block: Barn controller (Table 9-7). -/
def barnRegs : List Reg :=
  [⟨0x0, 0x0, 1, [F.BARN_ID_PACKAGES, F.BARN_ID_PKG_GIB, F.BARN_ID_SUBCH, F.BARN_ID_RANKS, F.BARN_ID_RATE]⟩,
   ⟨0x8, 0x0, 1, [F.BARN_CFG_ELASTIC_MIN, F.BARN_CFG_RETIRE_THRESH, F.BARN_CFG_RFM_EN]⟩,
   ⟨0x10, 0x0, 1, [F.BARN_STAT_STATE, F.BARN_STAT_RETIRED_PKG, F.BARN_STAT_REFRESH_RATE]⟩,
   ⟨0x18, 0x0, 1, [F.BARN_RETIRE_PKG, F.BARN_RETIRE_GO]⟩,
   ⟨0x20, 0x0, 1, [F.BARN_ECC_CORRECTED, F.BARN_ECC_UNCORRECTABLE]⟩,
   ⟨0x28, 0x0, 1, [F.BARN_UC_FIRST_BLOCK, F.BARN_UC_FIRST_VALID]⟩,
   ⟨0x30, 0x0, 1, [F.BARN_UC_TIME_STAMP]⟩,
   ⟨0x38, 0x0, 1, [F.BARN_OPEN_EXTENTS, F.BARN_OPEN_PEAK]⟩,
   ⟨0x40, 0x0, 1, [F.BARN_QSTAT_READS, F.BARN_QSTAT_WRITES, F.BARN_QSTAT_BACKPRESSURE]⟩,
   ⟨0x48, 0x0, 1, [F.BARN_ECC_CTL_CLEAR, F.BARN_ECC_CTL_INJECT, F.BARN_ECC_CTL_INJ_PKG]⟩,
   ⟨0x100, 0x8, 18, [F.BARN_PKG_CORRECTED, F.BARN_PKG_WINDOW, F.BARN_PKG_MR4_RATE]⟩]

/-- The registers of the block: Port block (Tables 10-8, 11-9, 19-2, 20-5). -/
def portRegs : List Reg :=
  [⟨0x0, 0x0, 1, [F.PORT_CFG_MODE, F.PORT_CFG_FEC, F.PORT_CFG_PMD, F.PORT_CFG_AXIS, F.PORT_CFG_SIGN, F.PORT_CFG_SPARE_EN, F.PORT_CFG_AUTO_RETRAIN, F.PORT_CFG_SPARE_THRESH, F.PORT_CFG_LINK_TIMEOUT, F.PORT_CFG_REPLAY_LIMIT]⟩,
   ⟨0x8, 0x0, 1, [F.PORT_CTL_ENABLE, F.PORT_CTL_DRAIN, F.PORT_CTL_RETRAIN, F.PORT_CTL_CLEAR, F.PORT_CTL_SPARE_NOW, F.PORT_CTL_SPARE_LANE]⟩,
   ⟨0x10, 0x0, 1, [F.PORT_STAT_STATE, F.PORT_STAT_SPARED_LANE, F.PORT_STAT_SPARE_PENDING, F.PORT_STAT_SPARE_FAILED, F.PORT_STAT_TEAM_UP, F.PORT_STAT_TEAM_SIZE, F.PORT_STAT_UP_COUNT, F.PORT_STAT_LAST_DOWN]⟩,
   ⟨0x18, 0x0, 1, [F.PORT_NBR_DEVICE_ID, F.PORT_NBR_PORT, F.PORT_NBR_MODE, F.PORT_NBR_FEC, F.PORT_NBR_AXIS, F.PORT_NBR_SIGN, F.PORT_NBR_VALID, F.PORT_NBR_PASS_LEN]⟩,
   ⟨0x20, 0x0, 1, [F.PORT_HOP_HOP_CLK, F.PORT_HOP_MEDIUM_CLK]⟩,
   ⟨0x28, 0x0, 1, [F.PORT_FEC_CORRECTED, F.PORT_FEC_UNCORRECTABLE]⟩,
   ⟨0x30, 0x0, 1, [F.PORT_LINK_CRC_ERRS, F.PORT_LINK_NAKS_SENT, F.PORT_LINK_DOWN_EVENTS, F.PORT_LINK_BAD_SYMBOLS]⟩,
   ⟨0x38, 0x0, 1, [F.PORT_REPLAY_REPLAYED, F.PORT_REPLAY_OCCUPANCY, F.PORT_REPLAY_PEAK]⟩,
   ⟨0x40, 0x8, 8, [F.PORT_VC_CREDITS, F.PORT_VC_HELD, F.PORT_VC_NO_CREDIT]⟩,
   ⟨0x80, 0x8, 9, [F.LANE_STATE, F.LANE_ROLE, F.LANE_SYM_ERRS, F.LANE_LOCK_LOSSES]⟩,
   ⟨0x1000, 0x8, 480, [F.SLOT_STREAM_A, F.SLOT_STREAM_B, F.SLOT_SOURCE_A, F.SLOT_SOURCE_B, F.SLOT_SLICE_A, F.SLOT_SLICE_B]⟩,
   ⟨0x100, 0x0, 1, [F.PT_TX_BYTES_BYTES]⟩,
   ⟨0x108, 0x0, 1, [F.PT_RX_BYTES_BYTES]⟩,
   ⟨0x110, 0x0, 1, [F.PT_TX_SCHED_BYTES]⟩,
   ⟨0x118, 0x0, 1, [F.PT_TX_TRANSIT_BYTES]⟩,
   ⟨0x120, 0x0, 1, [F.PT_PKTS_TX, F.PT_PKTS_RX]⟩,
   ⟨0x128, 0x0, 1, [F.PT_POSITIONS_RES_IDLE, F.PT_POSITIONS_MOVED]⟩,
   ⟨0x130, 0x8, 8, [F.PT_Q_DEPTH, F.PT_Q_PEAK, F.PT_Q_STALL]⟩,
   ⟨0x180, 0x8, 8, [F.PT_VC_BYTES_BYTES]⟩,
   ⟨0x200, 0x0, 1, [F.PT_TEST_TEST_EN, F.PT_TEST_PATTERN, F.PT_TEST_INVERT, F.PT_TEST_LOOP, F.PT_TEST_GEN_LANES, F.PT_TEST_CHK_LANES, F.PT_TEST_CLEAR]⟩,
   ⟨0x208, 0x0, 1, [F.PT_MARGIN_LANE, F.PT_MARGIN_TIME_OFS, F.PT_MARGIN_VOLT_OFS, F.PT_MARGIN_DWELL_LOG2, F.PT_MARGIN_GO]⟩,
   ⟨0x210, 0x8, 9, [F.PT_ERR_ERRORS, F.PT_ERR_LOCK, F.PT_ERR_LOCK_LOSSES]⟩,
   ⟨0x260, 0x8, 9, [F.PT_BITS_BITS]⟩,
   ⟨0x258, 0x0, 1, [F.PT_MARGIN_RES_ERRORS, F.PT_MARGIN_RES_DONE]⟩]

/-- The registers of the block: Routing (Table 11-7). -/
def routeRegs : List Reg :=
  [⟨0x0, 0x0, 1, [F.ROUTE_CFG_THROTTLE_HI, F.ROUTE_CFG_THROTTLE_LO, F.ROUTE_CFG_UNRES_MIN]⟩,
   ⟨0x8, 0x0, 1, [F.ROUTE_MATCH_FIELD_MASK]⟩,
   ⟨0x10, 0x0, 1, [F.DIR_STAT_UP, F.DIR_STAT_LOST]⟩,
   ⟨0x18, 0x0, 1, [F.ROUTE_DROP_NO_ROUTE, F.ROUTE_DROP_BAD_HEADER]⟩,
   ⟨0x20, 0x0, 1, [F.ROUTE_TURN_TURNED_PKTS, F.ROUTE_TURN_LATE_FRAMES]⟩,
   ⟨0x28, 0x0, 1, [F.ROUTE_ORDER_DUPLICATES, F.ROUTE_ORDER_REORDER_PEAK]⟩,
   ⟨0x30, 0x0, 1, [F.THROTTLE_STAT_ACTIVE, F.THROTTLE_STAT_THROTTLED]⟩,
   ⟨0x38, 0x0, 1, [F.PEER_STAT_PEERS, F.PEER_STAT_STREAMS_RX, F.PEER_STAT_PEER_FULL]⟩,
   ⟨0x100, 0x8, 6, [F.AXIS_LSB, F.AXIS_WIDTH, F.AXIS_WRAP, F.AXIS_LENGTH, F.AXIS_POS, F.AXIS_ROLE]⟩,
   ⟨0x1000, 0x20, 64, [F.SLICE_GEOM0_LO0, F.SLICE_GEOM0_LO1, F.SLICE_GEOM0_LO2, F.SLICE_GEOM0_LO3, F.SLICE_GEOM0_LEN_10, F.SLICE_GEOM0_LEN_11, F.SLICE_GEOM0_LEN_12, F.SLICE_GEOM0_LEN_13, F.SLICE_GEOM0_SHAPE0, F.SLICE_GEOM0_SHAPE1, F.SLICE_GEOM0_SHAPE2, F.SLICE_GEOM0_SHAPE3]⟩,
   ⟨0x1008, 0x20, 64, [F.SLICE_GEOM1_LO4, F.SLICE_GEOM1_LO5, F.SLICE_GEOM1_LEN_14, F.SLICE_GEOM1_LEN_15, F.SLICE_GEOM1_SHAPE4, F.SLICE_GEOM1_SHAPE5, F.SLICE_GEOM1_SLICE_ID, F.SLICE_GEOM1_VALID]⟩,
   ⟨0x1010, 0x20, 64, [F.SLICE_PARTS_PARTS]⟩]

/-- The registers of the block: Collective channels (Table 12-8). -/
def collRegs : List Reg :=
  [⟨0x0, 0x0, 1, [F.COLL_CFG_CHECK_LOG2, F.COLL_CFG_HOLD_LIMIT, F.COLL_CFG_HARROW_LIMIT]⟩,
   ⟨0x8, 0x0, 1, [F.COLL_STAT_OPS, F.COLL_STAT_ABORTED, F.COLL_STAT_LINE_OPS]⟩,
   ⟨0x10, 0x0, 1, [F.COLL_NF_DEVICE, F.COLL_NF_VALID, F.COLL_NF_CHANNEL, F.COLL_NF_OP_SEQ, F.COLL_NF_STEP]⟩,
   ⟨0x18, 0x0, 1, [F.COLL_NF_TIME_STAMP]⟩,
   ⟨0x20, 0x0, 1, [F.COLL_RECOVER_DUP_PARTIALS, F.COLL_RECOVER_STALE_GEN, F.COLL_RECOVER_BREAKS, F.COLL_RECOVER_STALE_EPOCH]⟩,
   ⟨0x28, 0x0, 1, [F.GATHER_STAT_GRANT_WAIT, F.GATHER_STAT_PENDING, F.GATHER_STAT_PEAK]⟩,
   ⟨0x30, 0x0, 1, [F.COLL_CHECK_CTL_CLEAR, F.COLL_CHECK_CTL_INJECT, F.COLL_CHECK_CTL_INJ_PORT]⟩,
   ⟨0x100, 0x8, 12, [F.HARROW_SAMPLED, F.HARROW_MISMATCHES, F.HARROW_RUN, F.HARROW_FAILED]⟩,
   ⟨0x10000, 0x10, 512, [F.CHAN_CFG_AXIS, F.CHAN_CFG_BOUND, F.CHAN_CFG_STATE, F.CHAN_CFG_CLEAR, F.CHAN_CFG_OPS, F.CHAN_CFG_NEXT_SEQ]⟩,
   ⟨0x10008, 0x10, 512, [F.CHAN_STAT_LAST_SEQ, F.CHAN_STAT_NONFINITE, F.CHAN_STAT_WRAP, F.CHAN_STAT_LINE, F.CHAN_STAT_ORDER, F.CHAN_STAT_NF_DEVICE, F.CHAN_STAT_NF_VALID]⟩,
   ⟨0x20000, 0x8, 1024, [F.BUF_BUSY, F.BUF_ROT_WAIT, F.BUF_ROT_ACTIVE, F.BUF_ROTATIONS]⟩]

/-- The registers of the block: Host queue manager (R390). -/
def hostRegs : List Reg :=
  [⟨0x0, 0x0, 1, [F.GATE_CFG_GATE_DEVICE, F.GATE_CFG_GROUP_BITS, F.GATE_CFG_FM_HOSTS]⟩,
   ⟨0x8, 0x0, 1, [F.GATE_STAT_IS_GATE, F.GATE_STAT_PATH, F.GATE_STAT_PATH_DOWNS, F.GATE_STAT_DROPPED_TO_HOST]⟩,
   ⟨0x10, 0x0, 1, [F.QM_CFG_HOST_TIMEOUT, F.QM_CFG_PROBE_PASSES]⟩,
   ⟨0x18, 0x0, 1, [F.QM_STAT_INFLIGHT, F.QM_STAT_MREADS, F.QM_STAT_POSTED]⟩,
   ⟨0x20, 0x0, 1, [F.QM_ERRS_DENIED, F.QM_ERRS_BAD_PKTS, F.QM_ERRS_TIMEOUTS, F.QM_ERRS_EXPORT_FAILS]⟩,
   ⟨0x100, 0x8, 16, [F.HOST_PARTS]⟩,
   ⟨0x1000, 0x20, 1024, [F.XLAT_WIN_BASE, F.XLAT_WIN_PAGES]⟩,
   ⟨0x1008, 0x20, 1024, [F.XLAT_HOST_HBASE, F.XLAT_HOST_HOST]⟩,
   ⟨0x1010, 0x20, 1024, [F.XLAT_RIGHTS_PART, F.XLAT_RIGHTS_READ, F.XLAT_RIGHTS_WRITE, F.XLAT_RIGHTS_VALID]⟩,
   ⟨0x10000, 0x40, 8192, [F.QP_OWNER_PART, F.QP_OWNER_HOST, F.QP_OWNER_VALID]⟩,
   ⟨0x10008, 0x40, 8192, [F.QP_SQ_BASE, F.QP_SQ_SIZE_LOG2]⟩,
   ⟨0x10010, 0x40, 8192, [F.QP_CQ_BASE, F.QP_CQ_SIZE_LOG2, F.QP_CQ_NOTIFY]⟩,
   ⟨0x10018, 0x40, 8192, [F.QP_IDX_SQ_HEAD, F.QP_IDX_SQ_TAIL, F.QP_IDX_CQ_TAIL, F.QP_IDX_CQ_HEAD]⟩,
   ⟨0x10020, 0x40, 8192, [F.QP_DB_SQ_TAIL, F.QP_DB_CQ_HEAD, F.QP_DB_SQ_VALID, F.QP_DB_CQ_VALID]⟩,
   ⟨0x10028, 0x40, 8192, [F.QP_STAT_ENABLE, F.QP_STAT_STATE, F.QP_STAT_PHASE, F.QP_STAT_BAD_DB, F.QP_STAT_INFLIGHT, F.QP_STAT_COMPLETED]⟩]

/-- The registers of the block: Reset, boot, power and thermal (Tables 15-13, 16-4, 20-7). -/
def rstRegs : List Reg :=
  [⟨0x100, 0x0, 1, [F.BOOT_STAT_STATE, F.BOOT_STAT_FAIL_CODE, F.BOOT_STAT_SLOT, F.BOOT_STAT_SLOT_A_BAD, F.BOOT_STAT_SLOT_B_BAD, F.BOOT_STAT_OPT_OFFSET, F.BOOT_STAT_OPT_SERIAL]⟩,
   ⟨0x108, 0x0, 1, [F.BOOT_TIME_STAMP]⟩,
   ⟨0x110, 0x0, 1, [F.LOADER_STAT_LOADS, F.LOADER_STAT_REFUSALS, F.LOADER_STAT_LAST_CODE, F.LOADER_STAT_LAST_PART, F.LOADER_STAT_BUSY]⟩,
   ⟨0x0, 0x0, 1, [F.RST_CAUSE_POWER_ON, F.RST_CAUSE_RESET_L, F.RST_CAUSE_SOFTWARE, F.RST_CAUSE_WATCHDOG, F.RST_CAUSE_CRITICAL, F.RST_CAUSE_THERMAL, F.RST_CAUSE_REMOTE, F.RST_CAUSE_OVERPOWER, F.RST_CAUSE_CRIT_UNIT]⟩,
   ⟨0x8, 0x0, 1, [F.RST_CTL_DOMAIN, F.RST_CTL_PLOT, F.RST_CTL_SLOT, F.RST_CTL_GO, F.RST_CTL_HOLD, F.RST_CTL_RELEASE, F.RST_CTL_CONFIRM]⟩,
   ⟨0x10, 0x0, 1, [F.RST_STAT_FABRIC, F.RST_STAT_STEWARD, F.RST_STAT_PIN]⟩,
   ⟨0x18, 0x0, 1, [F.WDOG_CFG_PASSES, F.WDOG_CFG_ESCALATE]⟩,
   ⟨0x20, 0x0, 1, [F.WDOG_KICK_KICK]⟩,
   ⟨0x28, 0x0, 1, [F.RST_COUNT_DOMAIN_RESETS, F.RST_COUNT_WDOG_EXPIRIES, F.RST_COUNT_WRAPPED, F.RST_COUNT_REFUSED]⟩,
   ⟨0x30, 0x0, 1, [F.RST_CFG_DRAIN_LIMIT, F.RST_CFG_FABRIC_DRAIN]⟩,
   ⟨0x400, 0x8, 32, [F.RST_PLOT_STATE]⟩,
   ⟨0x500, 0x8, 32, [F.RST_SLOT_BUSY, F.RST_SLOT_HELD, F.RST_SLOT_PENDING]⟩,
   ⟨0x200, 0x0, 1, [F.PWR_STAT_VIN, F.PWR_STAT_IIN, F.PWR_STAT_PIN, F.PWR_STAT_CAP_ACTIVE]⟩,
   ⟨0x208, 0x0, 1, [F.PWR_CAP_LIMIT]⟩,
   ⟨0x210, 0x0, 1, [F.PWR_COUNT_CAP_PASSES, F.PWR_COUNT_PEAK_W]⟩,
   ⟨0x218, 0x0, 1, [F.THERM_CFG_WARN, F.THERM_CFG_TRIP, F.THERM_CFG_RELEASE]⟩,
   ⟨0x220, 0x0, 1, [F.THERM_STAT_MAX, F.THERM_STAT_MAX_SENSOR, F.THERM_STAT_WARN, F.THERM_STAT_BARN_HOT, F.THERM_STAT_WARN_PASSES]⟩,
   ⟨0x240, 0x8, 20, [F.THERM_SENSE_TEMP, F.THERM_SENSE_PEAK]⟩]

/-- The registers of the block: Hayward (R438). -/
def hayRegs : List Reg :=
  [⟨0x0, 0x0, 1, [F.HW_STAT_VERIFYING, F.HW_STAT_PENDING, F.HW_STAT_LAST_CODE, F.HW_STAT_AT_APPLY, F.HW_STAT_LAST_ITEM, F.HW_STAT_APPLIED, F.HW_STAT_REFUSED]⟩,
   ⟨0x8, 0x0, 1, [F.HW_FUSE_OWNER_SET, F.HW_FUSE_CUSTODIAN_SET, F.HW_FUSE_SITE_OPT_SET, F.HW_FUSE_SITE_ONLY, F.HW_FUSE_SVN_FLOOR]⟩,
   ⟨0x10, 0x0, 1, [F.HW_SERIAL_SERIAL]⟩,
   ⟨0x20, 0x8, 4, [F.HW_NONCE_NONCE]⟩,
   ⟨0x40, 0x0, 1, [F.HW_SUBMIT_ADDR, F.HW_SUBMIT_GO]⟩,
   ⟨0x48, 0x0, 1, [F.HW_APPLY_PASS]⟩,
   ⟨0x80, 0x0, 1, [F.ATT_CTL_GO, F.ATT_CTL_BUSY, F.ATT_CTL_PART, F.ATT_CTL_PART_EN, F.ATT_CTL_REPORTS]⟩,
   ⟨0x88, 0x0, 1, [F.ATT_DEST_ADDR]⟩,
   ⟨0x90, 0x8, 4, [F.ATT_CHALLENGE_CHALLENGE]⟩,
   ⟨0x1000, 0x8, 64, [F.KEY_INFO_VALID, F.KEY_INFO_ROLE, F.KEY_INFO_KEY_ID]⟩,
   ⟨0x2000, 0x8, 32, [F.PART_PLOTS, F.PART_TENANT, F.PART_VALID, F.PART_FILLING]⟩,
   ⟨0x2100, 0x8, 64, [F.BARN_EXT_BASE, F.BARN_EXT_UNITS, F.BARN_EXT_PART, F.BARN_EXT_VALID, F.BARN_EXT_FILLING]⟩,
   ⟨0x2400, 0x8, 256, [F.SLICE_OWNER_TENANT, F.SLICE_OWNER_VALID]⟩]

/-- The registers of the block: Telemetry, trace and faults (Tables 18-5, 19-8). -/
def telRegs : List Reg :=
  [⟨0x0, 0x0, 1, [F.FLT_CFG_STRIKE_LIMIT, F.FLT_CFG_STRIKE_WINDOW, F.FLT_CFG_STANDIN_EN]⟩,
   ⟨0x8, 0x0, 1, [F.FLT_STAT_UNMASKED, F.FLT_STAT_DEGRADED, F.FLT_STAT_LAST_CLASS, F.FLT_STAT_MASKED]⟩,
   ⟨0x10, 0x0, 1, [F.ERR_RING_BASE, F.ERR_RING_SIZE_LOG2]⟩,
   ⟨0x18, 0x0, 1, [F.ERR_WIDX_WIDX]⟩,
   ⟨0x20, 0x0, 1, [F.ERR_RIDX_RIDX, F.ERR_RIDX_OVERWRITTEN, F.ERR_RIDX_LOST]⟩,
   ⟨0x28, 0x0, 1, [F.FLT_SEQ_MASTER, F.FLT_SEQ_C0_RETIRED, F.FLT_SEQ_C1_RETIRED, F.FLT_SEQ_VOTER, F.FLT_SEQ_VOTERS_RETIRED, F.FLT_SEQ_VOTES]⟩,
   ⟨0x30, 0x0, 1, [F.FLT_VR_PHASE_LOST, F.FLT_VR_RAIL_STRETCH, F.FLT_VR_PHASE_EVENTS]⟩,
   ⟨0x38, 0x0, 1, [F.FLT_CRIT_CORRECTED, F.FLT_CRIT_LAST_UNIT]⟩,
   ⟨0x40, 0x0, 1, [F.FLT_PORTS_HARROW_SINGLE, F.FLT_PORTS_HARROW_BYPASS]⟩,
   ⟨0x100, 0x0, 1, [F.TEL_CTL_SNAP, F.TEL_CTL_VIEW, F.TEL_CTL_CLEAR_PEAKS]⟩,
   ⟨0x108, 0x0, 1, [F.TEL_SNAP_TIME_STAMP]⟩,
   ⟨0x110, 0x0, 1, [F.CONG_CFG_INTERVAL_LOG2, F.CONG_CFG_ENABLE, F.CONG_CFG_SEND, F.CONG_CFG_COLLECT_BITS]⟩,
   ⟨0x118, 0x0, 1, [F.CONG_DEST_ADDR]⟩,
   ⟨0x120, 0x0, 1, [F.CONG_STAT_SEQ, F.CONG_STAT_SEND_FAILS, F.CONG_STAT_LATE]⟩,
   ⟨0x180, 0x8, 8, [F.CONG_LAST_WORD]⟩,
   ⟨0x128, 0x0, 1, [F.TRACE_CFG_SAMPLE_EN, F.TRACE_CFG_BRANCH_EN, F.TRACE_CFG_CMD_EN, F.TRACE_CFG_MARK_EN, F.TRACE_CFG_MODE, F.TRACE_CFG_TRIG_HALT, F.TRACE_CFG_PERIOD_LOG2, F.TRACE_CFG_TRIG_CLASS, F.TRACE_CFG_POST_PASSES]⟩,
   ⟨0x130, 0x0, 1, [F.TRACE_CTL_START, F.TRACE_CTL_STOP, F.TRACE_CTL_RESTART]⟩,
   ⟨0x138, 0x0, 1, [F.TRACE_FILTER_PLOTS, F.TRACE_FILTER_SLOTS]⟩,
   ⟨0x140, 0x0, 1, [F.TRACE_LAYER_LO, F.TRACE_LAYER_HI]⟩,
   ⟨0x148, 0x0, 1, [F.TRACE_STAT_STATE, F.TRACE_STAT_ENABLE_PENDING, F.TRACE_STAT_WRAPPED, F.TRACE_STAT_FULL, F.TRACE_STAT_TRIG_CAUSE, F.TRACE_STAT_DROPPED, F.TRACE_STAT_QUEUED]⟩,
   ⟨0x150, 0x0, 1, [F.TRACE_WIDX_WIDX, F.TRACE_WIDX_SEQ]⟩,
   ⟨0x158, 0x0, 1, [F.DBG_STOP_GO, F.DBG_STOP_ON_TRIGGER, F.DBG_STOP_ON_BRK, F.DBG_STOP_PART, F.DBG_STOP_STOP_PASS]⟩,
   ⟨0x160, 0x0, 1, [F.DBG_STAT_ARMED, F.DBG_STAT_STOPPED, F.DBG_STAT_DRAINED, F.DBG_STAT_HALTED, F.DBG_STAT_STOPS]⟩,
   ⟨0x200, 0x10, 32, [F.GRAN_RD_BYTES]⟩,
   ⟨0x208, 0x10, 32, [F.GRAN_WR_BYTES]⟩,
   ⟨0x400, 0x0, 1, [F.BARN_RD_BYTES]⟩,
   ⟨0x408, 0x0, 1, [F.BARN_WR_BYTES]⟩,
   ⟨0x410, 0x0, 1, [F.BARN_ELASTIC_BYTES]⟩,
   ⟨0x418, 0x0, 1, [F.WIN_RD_BYTES]⟩,
   ⟨0x420, 0x0, 1, [F.WIN_WR_BYTES]⟩]

end Sys2Proof.Machine
end

