-- ==== Sys2Proof/Machine/State.lean ====
section
/-! DEFINITION. The state of the block: everything the manual gives the Kidom, as plain data, and the state right after reset.
Register fields live in one store, `State.csr`, under the manual's names; a field nobody has written reads as its reset value.
Structures below hold what the manual gives the machine beside its registers. -/

namespace Sys2Proof.Machine

/-- No command of this block ends in a fault: the manual answers every access with a response code (R256) and every program error
with a halt (R171), and both are effects on the state. No constructor, so nothing raises one; safe. -/
inductive Fault where
deriving DecidableEq, Repr

/-- Why a command has no meaning. -/
inductive Refusal where
  /-- Raised by `exec` for a command that is not modelled; safe. -/
  | notModelled (mnemonic : String)
deriving DecidableEq, Repr

/-- A 64-byte descriptor as its eight words (R181). -/
structure Desc where
  w0 : W64 := 0
  w1 : W64 := 0
  w2 : W64 := 0
  w3 : W64 := 0
  w4 : W64 := 0
  w5 : W64 := 0
  w6 : W64 := 0
  w7 : W64 := 0
deriving DecidableEq, Repr

/-- Whose work wrote provisional data or made a held signal (R46, R47, R57): a furrow by its core and serial number, a Bin furrow,
a furrow of another module by its module, stream, sender index and the batch that one marker closes, a collective operation, or a host write. -/
inductive Owner where
  | furrow (k : CoreId) (serial : Nat)
  | bin (b : BinId) (serial : Nat)
  | remote (dev stream fidx batch : Nat)
  | coll (chan opSeq : Nat)
  | host (id : Nat)
deriving DecidableEq, Repr

/-- A vote on a furrow (R46): not yet voted, COMMIT, FAIL with re-execution owed, or not committed without re-execution. -/
inductive Vote where
  | undecided
  | commit
  | fail
  | dropped
deriving DecidableEq, Repr

/-- One furrow of a core (R157, R164, R202): identity, entry state, what it has changed, and how it stands. -/
structure Furrow where
  /-- serial number of the furrow; a re-execution keeps it -/
  serial : Nat
  /-- furrow ID of the FBEGIN (R160) -/
  id : Nat
  /-- address of the FBEGIN -/
  pc : Nat
  bank : Bool
  /-- entry values of g1 to g31 (R157) -/
  entry : SMap W64 := []
  /-- registers the furrow has written (R157) -/
  mask : BitVec 32 := 0
  /-- net change to each token (R197) -/
  tok : SMap Int := []
  /-- FEND has retired (R165) -/
  ended : Bool := false
  /-- commands issued and not completed (R165) -/
  cmds : Nat := 0
  /-- a check or a read failed the furrow (R46) -/
  failed : Bool := false
  /-- one of the slot's own checks failed it (R442) -/
  strike : Bool := false
  /-- the furrow halted (R174) -/
  halted : Bool := false
  vote : Vote := .undecided
  /-- runs begun, 1 to 3 (R456) -/
  runs : Nat := 1
  /-- completion-ring slots taken in this run, newest first (R202) -/
  ring : List Nat := []
  /-- completion-ring slots held for this run from a failed one, oldest first (R202) -/
  ringHeld : List Nat := []
  /-- CHECK code of the last failure (Table 18-4) -/
  check : Nat := 0
  /-- a held delivery has displaced it: it runs again in the next Pass as a slipped furrow, not as a re-execution (R54) -/
  slipped : Bool := false
  /-- this run is later than the furrow's planned Pass: a re-execution, or a slipped furrow (R54, R55) -/
  late : Bool := false
deriving DecidableEq, Repr

/-- What a core waits for: nothing, a PASS with its target and its operands (R163), an FBEGIN held over vote close with its furrow ID (R496),
a token (R193), a queue entry (R166), its furrow's commands (R165), or, stopped by a fault or by an owed re-execution, the next boundary
(R152, R164). -/
inductive Wait where
  | none
  | pass (target : Nat) (f : IForm)
  | fbegin (id : Nat)
  | token (tok count : Nat)
  | issue (queue : Nat) (addr : Nat)
  | fend
  | stopped
deriving DecidableEq, Repr

/-- Where a core goes on after its re-executions: offset, bank and the wait it was in (R164, R168). -/
structure Resume where
  pc : Nat
  bank : Bool
  wait : Wait := Wait.none
deriving DecidableEq, Repr

/-- The halt record of R171 (CORE_HALT, CORE_HALT_TIME). -/
structure HaltRec where
  reason : Nat := 0
  source : Nat := 0
  bank : Bool := false
  addr : Nat := 0
  furrow : Nat := 0
  cmd : Nat := 0
  time : Nat := 0
  /-- when the cause's instruction or command was issued, in program order: what decides between causes of one clk (R171) -/
  order : Nat := 0
deriving DecidableEq, Repr

/-- One control core (R151 to R180). -/
structure Core where
  regs : SMap W64 := []
  pc : Nat := 0
  bank : Bool := false
  halted : Bool := true
  halt : HaltRec := {}
  wait : Wait := Wait.none
  inFurrow : Bool := false
  /-- the furrows begun in the current Pass, in the order of their slots (R157) -/
  furrows : List Furrow := []
  /-- slot and ID of the current or last furrow (CORE_STAT) -/
  slot : Nat := 0
  furrowId : Nat := 0
  /-- serial number of the next furrow -/
  serial : Nat := 1
  /-- target of the PASS that was released last: the furrows that follow it are planned for that Pass (R54, R163) -/
  planned : Option Nat := Option.none
  /-- while re-executions run from their entry states: the registers that the core goes on with (R158, R164) -/
  saved : Option (SMap W64) := Option.none
  /-- `last` of R163 -/
  lastPass : Option Nat := Option.none
  /-- failed furrows still to be re-executed, in the order of their slots (R164) -/
  owed : List Furrow := []
  reexec : Bool := false
  /-- the point reached at vote close, or where a switch leads (R164, R168) -/
  resume : Option Resume := Option.none
  /-- halted furrows whose working values are kept for inspection (R175) -/
  kept : List Furrow := []
  /-- halt with code 0x0B once the stepped instruction's wait is over (R179) -/
  stepping : Bool := false
  /-- an injected lockstep mismatch and memory error wait (R180) -/
  injLockstep : Bool := false
  injMem : Bool := false
deriving DecidableEq, Repr

/-- An entry of an engine queue (R166, R189): the descriptor, the ISSUE's address and bank, its furrow, its program order. -/
structure QEntry where
  desc : Desc
  pc : Nat
  bank : Bool
  serial : Nat
  order : Nat
  reexec : Bool := false
deriving DecidableEq, Repr

/-- A command past dequeue (R108, R192). -/
structure Flight where
  q : QEntry
  /-- the engine's dequeue count before this dequeue (Table 7-7 SEQ) -/
  seq : Nat
  tDeq : Nat
  /-- the command's work has been done -/
  done : Bool := false
  /-- sticky exception word (R94) -/
  exc : BitVec 8 := 0
  /-- completion status (Table 7-7) -/
  status : Nat := 0
  /-- packets sent and not answered: TAG, and the address of a read's bytes (R192, R203) -/
  tags : List (Nat × Nat) := []
  /-- bytes that reads of another module have returned, by address (R254) -/
  got : List (Nat × List Byte) := []
  /-- waits for the acceptance of a Bin unit, Drill, posted queue or channel (R192, R326) -/
  waiting : Bool := false
  /-- the range of a read held on an open extent, and whether that extent has closed uncommitted (R57) -/
  heldOn : Option (Nat × Nat) := none
  denied : Bool := false
  /-- its completion makes no signal here: a collective command (R327, R329), a posted transfer (R387), a signal that travelled in a packet (R194), or
  bytes that the owner's epoch did not let in (R198) -/
  mute : Bool := false
deriving DecidableEq, Repr

/-- The running VEXEC (R128 to R133). -/
structure VRun where
  f : Flight
  bank : Bool
  pc : Nat
  strict : Bool
  a : SMap (BitVec 48) := []
  c : SMap W32 := []
  /-- instructions that wrote a register so far (R146) -/
  wrote : Nat := 0
  /-- the microprogram has been started: its registers hold the command's parameters (R128) -/
  started : Bool := false
deriving DecidableEq, Repr

/-- A held signal (R194, R196): who made it, token, count, and whether its maker has committed. -/
structure Held where
  owner : Owner
  tok : Nat
  count : Nat
  epoch : Nat
  /-- the sender word of R497 -/
  sender : W64
  ready : Bool := false
  /-- the Pass in which it came -/
  pass : Nat := 0
  /-- the engine of the holding cluster that made it, numbered as a halt source, and its command (R193) -/
  own : Option (Nat × QEntry) := none
deriving DecidableEq, Repr

/-- A held close marker (R200). -/
structure HeldClose where
  owner : Owner
  close : Nat
  epoch : Nat
  ready : Bool := false
deriving DecidableEq, Repr

/-- One Windrow stack (R219 to R226): committed and working tops in lines of depth, the lines of each frame with its header, newest first, as
committed and as worked on, lines spilled to the Barn, and the furrow that operates it this Pass. -/
structure Stack where
  ctop : Nat := 0
  wtop : Nat := 0
  cframes : List Nat := []
  wframes : List Nat := []
  /-- lines in the ring as WR_STAT shows them, since the last boundary (R221) -/
  shown : Nat := 0
  /-- depth of the spill part: lines below it are in the Barn -/
  spilled : Nat := 0
  user : Option Nat := none
deriving DecidableEq, Repr

/-- The state of a reset domain (R415, R418): since when it isolates, whether it is to be held after clearing, whether a release is latched. `cleared`
waits for the boundary of its release. -/
inductive Dom where
  | run
  | isolating (since : Nat) (hold release : Bool)
  | clearing (hold release : Bool)
  | held
  | cleared
deriving DecidableEq, Repr

/-- One physical cluster slot: core, engines, queues, tokens, memories (Table 1-3). -/
structure Slot where
  core : Core := {}
  imA : SMap Byte := []
  imB : SMap Byte := []
  /-- IM_STAT.ACTIVE: false A, true B (R167) -/
  active : Bool := false
  started : Bool := false
  /-- entry offset of a requested or latched switch (R168, R170) -/
  switch : Option Nat := none
  /-- earliest Pass at whose boundary the request may take effect (a START, R403) -/
  switchPass : Nat := 0
  /-- the core still runs from the bank that was active before the last switch, and where it continues (R168) -/
  oldBank : Option Nat := none
  dmem : SMap Byte := []
  work : SMap Byte := []
  /-- working lines and the serial of the furrow that tagged each (R155) -/
  tags : SMap Nat := []
  /-- words of bank A, bank B and data memory with flipped bits: the word's number and how many (R153). No command flips a bit; MODEL's own form, log 119 -/
  imErrA : SMap Nat := []
  imErrB : SMap Nat := []
  dmErr : SMap Nat := []
  tok : SMap (BitVec 16) := []
  matQ : List QEntry := []
  vecQ : List QEntry := []
  dmQ : List QEntry := []
  order : Nat := 0
  matPipe : List Flight := []
  dmPipe : List Flight := []
  vrun : Option VRun := none
  /-- VEXECs that have issued VEND and not completed (R130) -/
  vtail : List VRun := []
  matSeq : Nat := 0
  vecSeq : Nat := 0
  dmSeq : Nat := 0
  tiles : SMap (BitVec 40) := []
  vregs : SMap W32 := []
  mregs : SMap (BitVec 256) := []
  held : List Held := []
  heldClose : List HeldClose := []
  cur : Nat := 0
  prev : Nat := 0
  prevOpen : Bool := false
  advance : Option Nat := none
  /-- completion-ring slots taken since reset (R202) -/
  ringTaken : Nat := 0
  /-- draws of the stochastic generator since SR_SEED was set (R87, R88) -/
  genDraws : Nat := 0
  wstacks : SMap Stack := []
  /-- pending injections (R123, R149) -/
  injResidue : Bool := false
  injMatCompare : Bool := false
  injMatParity : Bool := false
  injVecCompare : Bool := false
  injVecParity : Bool := false
  /-- the branch record in the making (R473): the first instruction it covers, and its targets -/
  brStart : Option Nat := none
  brTargets : List Nat := []
  /-- reset domains of the cluster and of its core (R408, R415) -/
  clusterDom : Dom := .run
  coreDom : Dom := .run
  /-- Pass of the last strike is FLT_UNIT.LAST_STRIKE; strikes are FLT_UNIT.STRIKES; a stand-in is due at the boundary (R443) -/
  standinDue : Bool := false
deriving DecidableEq, Repr

/-- A descriptor posted to a Bin unit or the Drill, and who posted it (R228, R363). -/
structure Posted where
  desc : Desc
  poster : CoreId
  serial : Nat
  furrowId : Nat
  pc : Nat
  bank : Bool
  /-- the posting furrow has committed (R228) -/
  eligible : Bool := false
  /-- the Bin furrow that has dequeued it, by serial number -/
  bf : Option Nat := none
  /-- dequeued in the current run -/
  taken : Bool := false
  /-- a re-execution has displaced it into a later Pass (R54) -/
  slipped : Bool := false
deriving DecidableEq, Repr

/-- A command running in a Bin unit or the Drill. -/
structure UnitRun where
  p : Posted
  tDeq : Nat
  heldOn : Option (Nat × Nat) := none
  denied : Bool := false
deriving DecidableEq, Repr

/-- A Bin furrow (R228): who posted it, how it stands, and its journaled lines, newest first: line index and old content (R232). -/
structure BinFurrow where
  serial : Nat
  poster : CoreId
  pserial : Nat
  id : Nat
  failed : Bool := false
  strike : Bool := false
  halted : Bool := false
  check : Nat := 0
  vote : Vote := .undecided
  runs : Nat := 1
  journal : List (Nat × List Byte) := []
  /-- journal lines written, tag lines included (BIN_STAT.JOURNAL_USED) -/
  jused : Nat := 0
  /-- ring position behind its last tag line, and the lines of its last group -/
  jend : Nat := 0
  group : List Nat := []
deriving DecidableEq, Repr

/-- One Bin unit (R227 to R236). -/
structure BinUnit where
  queue : List Posted := []
  run : Option UnitRun := none
  furrows : List BinFurrow := []
  serial : Nat := 1
  /-- ring position of the next journal line -/
  jpos : Nat := 0
  injCompare : Bool := false
  /-- a bit of the queue or of a journal tag has flipped (R236); no command of the table flips one (log 119) -/
  parityBad : Bool := false
deriving DecidableEq, Repr

/-- The Drill of a plot (R363 to R370). -/
structure DrillUnit where
  queue : List Posted := []
  run : Option UnitRun := none
  injCompare : Bool := false
  /-- a bit of the queue or of the count array has flipped (R369); no command of the table flips one (log 119) -/
  parityBad : Bool := false
deriving DecidableEq, Repr

/-- An open extent (R57): owner, first byte, length, and whether it closes uncommitted at the next boundary. -/
structure Extent where
  owner : Owner
  lo : Nat
  len : Nat
  closing : Bool := false
deriving DecidableEq, Repr

/-- What a sweep or a request of Glean has met so far (Table 8-1). -/
structure GleanRun where
  tStart : Option Nat := none
  corrected : Nat := 0
  uncorrectable : Nat := 0
  firstUc : Option Nat := none
  repaired : Nat := 0
deriving DecidableEq, Repr

/-- A Glean request in hand (R217): its range, tag and destination, the next line, the digest so far, and the lines whose read was held. -/
structure GleanReq where
  start : Nat
  lines : Nat
  tag : Nat
  dest : Nat
  next : Nat := 0
  crc : Nat := 0xFFFFFFFFFFFFFFFF
  held : List Nat := []
  denied : Bool := false
  run : GleanRun := {}
deriving DecidableEq, Repr

/-- Glean of a plot (R215 to R218): lines per Pass in force, the Pass whose lines have been read, the sweep and the request. -/
structure GleanSt where
  pace : Nat := 0x200
  swept : Option Nat := none
  sweep : GleanRun := {}
  req : Option GleanReq := none
deriving DecidableEq, Repr

/-- A commit marker (R49): source, stream, Pass, count, FAIL bits, and when it arrived here. -/
structure Marker where
  dev : Nat
  stream : Nat
  pass : Nat
  count : Nat
  fail : BitVec 40
  arrived : Nat := 0
  batch : Nat := 0
  /-- the input port (12: this module's own) -/
  via : Nat := 12
deriving DecidableEq, Repr

/-- An item of a port's replay buffer: a frame with its packet, or a MARKER symbol (R269, R270). -/
structure TxItem where
  seq : Nat
  frame : Option Frame
  sym : BitVec 128 := 0
  /-- the packet the frame belongs to, for handing back (R282) -/
  pkt : Option Packet := none
  vc : Nat := 0
  /-- the input port of that packet (`none`: local injection) -/
  src : Option (Fin 12) := none
  /-- the marker of a MARKER symbol -/
  mark : Option Marker := none
  /-- how often it has been sent again (R271) -/
  again : Nat := 0
deriving DecidableEq, Repr

/-- A packet in an output queue (R302): VC, where it came from (`none`: local injection), frames sent of it, whether its frames ride as moved
frames (R305), when it entered, and the slot, counted from field count 0, with which its reservation has passed (R307). -/
structure OutPkt where
  pkt : Packet
  vc : Nat
  src : Option (Fin 12)
  sent : Nat := 0
  moved : Bool := false
  arrived : Nat := 0
  due : Option Nat := none
  spoilt : Bool := false
deriving DecidableEq, Repr

/-- A packet on its way to be routed: injected here, received on a port on a VC, or handed back by a port that went down (R282). A spoilt one ends with ABORT: the
first result of an add whose pipes differed (R350). -/
structure Routable where
  pkt : Packet
  src : Option (Fin 12) := none
  vc : Nat := 0
  moved : Bool := false
  spoilt : Bool := false
deriving DecidableEq, Repr

/-- What a neighbour's time-sync symbol reported (R33): root, hops to it, locked; and this module's counter minus the neighbour's, corrected by the
link delay. -/
structure SyncReport where
  root : Nat
  hops : Nat
  locked : Bool
  diff : Int
deriving DecidableEq, Repr

/-- One port's link layer and output queues (R265 to R288, R302). -/
structure PortSt where
  txSeq : Nat := 0
  rxSeq : Nat := 0
  replay : List TxItem := []
  /-- items to send again, oldest first (R270) -/
  resend : List TxItem := []
  /-- the oldest SEQ that the neighbour has not acknowledged (R275) -/
  ackNext : Nat := 0
  /-- the slot, counted from field count 0, of the last frame position and how many of its thirteen have gone by; the same of the control symbols, of
  which a slot takes five (R267) -/
  frSlot : Nat := 0
  frCount : Nat := 0
  symSlot : Nat := 0
  symCount : Nat := 0
  /-- no further NAK before this field count (R269) -/
  nakUntil : Nat := 0
  /-- items accepted since the last ACK (R269) -/
  unacked : Nat := 0
  /-- frames accepted of an incomplete packet, by VC, newest first -/
  part : SMap (List Frame) := []
  /-- whole packets received and not yet routed, oldest first -/
  rxPkts : List Routable := []
  /-- cumulative credits returned by the neighbour, by VC, and credits returned to it (R272) -/
  gotCredit : SMap Nat := []
  gaveCredit : SMap Nat := []
  outQ : List OutPkt := []
  /-- the VC that was served last in the round robin of rank 5 (Table 11-5) -/
  lastVc : Nat := 5
  /-- markers waiting behind their streams' frames (R303) -/
  outMk : List Marker := []
  /-- markers received, each with the packets of `rxPkts` that came before it -/
  rxMk : List (Marker × Nat) := []
  /-- control symbols sent, newest first -/
  sent : List (BitVec 128) := []
  /-- field count at which a frame or symbol arrived last (R282) -/
  lastRx : Nat := 0
  /-- a spare swap of the receive direction in progress names this lane; it has lost lock (R275) -/
  swap : Option Nat := none
  unlocked : Bool := false
  /-- the lane that LS carries in the transmit direction (R259, R275) -/
  txSpare : Option Nat := none
  /-- lanes whose present codeword is uncorrectable (R262) -/
  badCw : BitVec 9 := 0
  /-- a shut-down runs (R284); DOWN after a training failure (R281) -/
  shutting : Bool := false
  trainFailed : Bool := false
  sync : Option SyncReport := none
  /-- corrected symbols per lane in this Pass (R275) -/
  passErrs : SMap Nat := []
deriving DecidableEq, Repr

/-- A peer of the elastic sequence space (R311). -/
structure Peer where
  dev : Nat
  tx : Nat := 0
  rx : Nat := 0
deriving DecidableEq, Repr

/-- A receive entry of a scheduled stream (R311). -/
structure StreamRx where
  dev : Nat
  stream : Nat
  rx : Nat := 0
  /-- markers of the stream received so far: data that arrives belongs to the next one (R49) -/
  batch : Nat := 0
deriving DecidableEq, Repr

/-- A packet ejected at this module, with the port it came by, and the batch of its stream. -/
structure Ejected where
  pkt : Packet
  port : Option (Fin 12)
  batch : Nat := 0
deriving DecidableEq, Repr

/-- The furrows that sent on a stream in this Pass, in the order of their FIDX (R49, R299). -/
structure StreamTx where
  stream : Nat
  dst : Nat
  slice : Nat
  ssn : Nat := 0
  senders : List Owner := []
deriving DecidableEq, Repr

/-- A chunk at the combine stage (R337): number, accumulated mask, data, FINITE, WRAP, the first non-finite contributor, and whether it is complete. -/
structure AccChunk where
  seq : Nat
  mask : W64
  data : List Byte
  fin : Bool
  wrap : Bool
  nf : Option Nat
  full : Bool := false
deriving DecidableEq, Repr

/-- An accepted collective operation (R326 to R354): its command, who issued it, its ring, and what it has done. -/
structure CollOp where
  desc : Desc
  issuer : CoreId
  serial : Nat
  furrowId : Nat
  pc : Nat
  bank : Bool
  part : Nat
  slice : Nat
  axis : Nat
  /-- ring length, own position, position of the slice's first member on the axis, ring shape -/
  n : Nat
  pos : Nat
  lo : Nat
  ring : Bool
  /-- number of its acceptance, over all channels -/
  accNo : Nat
  /-- the home port (R334) -/
  home : Nat
  started : Bool := false
  gen : Nat := 0
  /-- line mode (R351), and the ring position of l = 0 once it is known -/
  line : Bool := false
  l0 : Option Nat := none
  /-- the staged contribution (R334) -/
  src : List Byte := []
  acc : List AccChunk := []
  /-- parts of the result that are written: keys of chunks, by block -/
  got : List Nat := []
  /-- CGATHER: chunks sent by this sender; at the collector, chunks granted to each sender and the sender granted last -/
  sentChunks : Nat := 0
  grants : SMap Nat := []
  lastGrant : Nat := 0
  /-- the sender whose granted chunk has not come yet (R341) -/
  granted : Option Nat := none
  /-- CVERD: the FINITE that this member contributes (R347) -/
  ownFin : Bool := true
  /-- FINITE and WRAP of the operation so far, and the first result chunk's NF_DEVICE (R345) -/
  fin : Bool := true
  wrap : Bool := false
  nf : Option Nat := none
  /-- the contribution's read is held on an open extent, or that extent has closed uncommitted (R57) -/
  heldOn : Option (Nat × Nat) := none
  denied : Bool := false
  /-- the field count at which the result was complete (R328) -/
  complete : Option Nat := none
deriving DecidableEq, Repr

/-- A channel (R324 to R327): its axis, the next OP_SEQ, its operations, its last 16 acceptances as OP_SEQ and furrow ID, newest first. -/
structure Chan where
  axis : Nat := 0
  bound : Bool := false
  next : Nat := 0
  aborted : Bool := false
  /-- CLEAR has returned the channel to IDLE and nothing was accepted since (R344) -/
  cleared : Bool := false
  ops : List CollOp := []
  hist : List (Nat × Nat) := []
deriving DecidableEq, Repr

/-- A packet in an early buffer (R333, R343), with the Pass in which it arrived. -/
structure Early where
  port : Option (Fin 12)
  pkt : Packet
  pass : Nat
deriving DecidableEq, Repr

/-- A verdict accumulator (R346). -/
structure Verdict where
  step : Nat
  finite : Bool
deriving DecidableEq, Repr

/-- An SQ entry in flight (R382): its 64 bytes once they have arrived, its index, what has been moved or requested of it, and how it ended. -/
structure QpEntry where
  idx : Nat
  fetched : Bool := false
  desc : Desc := {}
  started : Bool := false
  /-- bytes requested or sent so far -/
  next : Nat := 0
  done : Bool := false
  resp : Nat := 0
  qstatus : Nat := 0
  tDone : Nat := 0
  /-- the range of a read held on an open extent, and whether that extent has closed uncommitted (R57, R385) -/
  heldOn : Option (Nat × Nat) := none
  denied : Bool := false
  /-- names the entry's host extent (R385) -/
  id : Nat := 0
deriving DecidableEq, Repr

/-- A queue pair's entries in flight, in ring order, the CQ entries the host has not consumed, a NOTIFY that is due, and the Pass in which the last
one was sent (R382, R383). -/
structure Qp where
  entries : List QpEntry := []
  cqUsed : Nat := 0
  notifyDue : Bool := false
  notified : Option Nat := none
deriving DecidableEq, Repr

/-- What a request to host memory is for: an SQ entry, data of an entry at a local address, a completion, data of a posted transfer, or a
report or summary on whose end nothing waits. -/
inductive HostUse where
  | fetch (qp idx : Nat)
  | dataIn (qp idx loc : Nat)
  | dataOut (qp idx : Nat)
  | completion (qp : Nat)
  | postIn (no loc : Nat)
  | postOut (no : Nat)
  | report
deriving DecidableEq, Repr

/-- An outstanding request to host memory (R382, R388): TAG, host and physical address, bytes to write, length, use, window address, and the Pass in
which it was sent. -/
structure HostReq where
  tag : Nat
  write : Bool
  host : Nat
  haddr : Nat
  win : Nat
  data : List Byte := []
  len : Nat
  use : HostUse
  pass : Nat
deriving DecidableEq, Repr

/-- A posted transfer (R387): its command, who issued it, its number, whether its furrow has committed, and the next piece to move. -/
structure PostedXfer where
  q : QEntry
  issuer : CoreId
  part : Nat
  no : Nat
  released : Bool := false
  next : Nat := 0
  heldOn : Option (Nat × Nat) := none
  denied : Bool := false
deriving DecidableEq, Repr

/-- A read held on an open extent (R57), or a host write held on one (R385). -/
structure HeldAccess where
  pkt : Packet
  lo : Nat
  len : Nat
  write : Bool
deriving DecidableEq, Repr

/-- An error record's words 0 to 5, and how often it was merged (R458, R460). -/
structure ErrRec where
  w0 : W64
  w1 : W64
  w2 : W64
  w3 : W64
  w4 : W64
  w5 : W64
  rep : Nat := 0
deriving DecidableEq, Repr

/-- A loaded image of a partition (R403). -/
structure Image where
  addr : Nat
  len : Nat
  digest : List Byte
  started : Bool := false
deriving DecidableEq, Repr

/-- A pending change record (R430): its bytes and the Pass at whose boundary it applies. -/
structure ChangeRec where
  record : List Byte
  applyPass : Nat
deriving DecidableEq, Repr

/-- The fuses (R2, Table 17-1). -/
structure Fuses where
  grade : Nat := 1
  serial : W64 := 0
  svnFloor : Nat := 0
  rootHash : BitVec 384 := 0
  siteOptHash : BitVec 384 := 0
  ownerHash : BitVec 384 := 0
  custodianHash : BitVec 384 := 0
  siteOnly : Bool := false
deriving DecidableEq, Repr

/-- The last point of Table 2-1 reached in the current Pass. -/
inductive PassPoint where
  | window
  | voted
  | marked
  | guard
  /-- the guard has begun, and the markers are still to leave: PASS_LEN − G lies before E + 40 -/
  | early
deriving DecidableEq, Repr

/-- The JTAG instruction in force (R489). -/
inductive Jtag where
  | bypass | idcode | sample | extest | extestPulse | extestTrain | clamp | highz | csr | siteFuse
deriving DecidableEq, Repr

/-- What the memories hold beside their bytes: errors, injections, open extents, held accesses, repair queues, Glean. -/
structure MemExt where
  /-- Granary lines in error: line address and its flipped symbols (R210) -/
  granBad : SMap (List Nat) := []
  /-- Barn blocks in error: block number and packages in error (R242) -/
  barnBad : SMap (List Nat) := []
  /-- pending injections per plot: symbols to flip in the next full-line write (R237) -/
  granInj : SMap Nat := []
  barnInj : Option Nat := none
  /-- Barn packages whose retirement is decided at the next boundary (R244) -/
  retireDue : List Nat := []
  /-- Packages that reached the threshold of retirement in the current window (R244). -/
  retireSeen : List Nat := []
  extents : List Extent := []
  hostExtents : List Extent := []
  heldAccess : List HeldAccess := []
  repairQ : SMap (List Nat) := []
  glean : SMap GleanSt := []
deriving DecidableEq, Repr

/-- The link dies: ports and router (R265 to R323). -/
structure Fabric where
  ports : SMap PortSt := []
  peers : List Peer := []
  streamsRx : List StreamRx := []
  streamsTx : List StreamTx := []
  reorder : List Ejected := []
  ejected : List Ejected := []
  /-- packets to be routed that no port holds: local injection, and what lost ports handed back -/
  txq : List Routable := []
  nextTag : Nat := 0
  markersRx : List Marker := []
  /-- markers to send whose streams' packets have not all been routed: how many of them `txq` still holds -/
  txMk : List (Marker × Nat) := []
  /-- output port of each scheduled stream: source device, stream, the input port it came by (12: local injection), output port (R303) -/
  transit : List (Nat × Nat × Nat × Nat) := []
  /-- members that were lost at the last boundary (R318) -/
  lost : List Nat := []
  /-- furrows of other modules whose delivery here is owed since they failed: source device, stream, how many (R50, R54) -/
  owedFrom : List (Nat × Nat × Nat) := []
deriving DecidableEq, Repr

/-- The collective channels (R324 to R355). -/
structure Coll where
  chans : SMap Chan := []
  early : List Early := []
  /-- verdict accumulators by partition and slot: 8 × partition + slot (R346) -/
  verdicts : SMap Verdict := []
  accepts : Nat := 0
  /-- CHECK_LOG2 in force (R349) -/
  checkLog2 : Nat := 8
  /-- ports with a mismatch to inject (R355) -/
  inject : List Nat := []
deriving DecidableEq, Repr

/-- The host queue manager (R373 to R390). -/
structure HostQ where
  qps : SMap Qp := []
  posted : List PostedXfer := []
  reqs : List HostReq := []
  probePass : Nat := 0
  probeOut : Bool := false
  /-- numbers host extents and posted transfers -/
  nextId : Nat := 0
deriving DecidableEq, Repr

/-- Start-up, loader, reset domains, watchdog and pins (R391 to R420, R480 to R487). -/
structure Boot where
  images : SMap Image := []
  /-- the UNLOAD in hand: partition, slot of its page, and whether its cores have been halted (R403) -/
  unload : Option (Nat × Nat × Bool) := none
  /-- the loader's read of an image that an open extent holds: address, length, and whether the extent has closed uncommitted (R57) -/
  imgRead : Option (Nat × Nat × Bool) := none
  imageSvn : Nat := 0
  optOk : Bool := false
  /-- hash of the key that signed the option block, and the first 256 header bytes of the running image (Table 17-6) -/
  optKey : BitVec 384 := 0
  imageHdr : List Byte := []
  granFilled : Bool := false
  barnFilled : Bool := false
  stewardOk : Bool := false
  wdogCount : Nat := 0
  wdogFirst : Option Nat := none
  fabricDom : Dom := .run
  stewardDom : Dom := .run
  plotDoms : SMap Dom := []
  /-- power-on reset holds the module until PWR_GOOD, rails and reference clock are back (R483, R487) -/
  powerOn : Bool := false
  pinReset : Bool := true
  pinPwrGood : Bool := true
  pinTherm : Bool := true
  thermalHold : Bool := false
  /-- RAIL regulators' phase losses by rail (R454), sequencers and voters to retire at the next boundary (R453) -/
  phasesLost : SMap Nat := []
  seqRetire : List SeqUnit := []
deriving DecidableEq, Repr

/-- Hayward (R421 to R438) and the fuse burn of R490. -/
structure Hay where
  /-- keys: 64 slots of 384 bits, a listed slot is in use (R421) -/
  keys : SMap (BitVec 384) := []
  pendingRecs : List ChangeRec := []
  /-- the change record under verification: its bytes (R430) -/
  verifying : Option (List Byte) := none
  /-- the range of a change record whose read an open extent holds (R57) -/
  heldRec : Option (Nat × Nat) := none
  /-- plots and Barn extents whose zero fill runs (R435) -/
  fillPlots : List Nat := []
  fillExts : List Nat := []
  /-- Records applied since module reset, for the report (R437). -/
  changes : Nat := 0
  attesting : Bool := false
  seq : Nat := 0
  burn : Option (FuseGroup × BitVec 384) := none
deriving DecidableEq, Repr

/-- Faults, telemetry, trace, debug and test (R439 to R478, R488 to R494). -/
structure Obs where
  errQ : List ErrRec := []
  /-- slots whose self-check runs in the coming guard (R441) -/
  selfCheck : List Nat := []
  /-- what those of Bin units, Drills and Harrows have found, for the boundary (R447, R448) -/
  checked : List (Nat × Nat) := []
  phases : SMap Nat := []
  /-- snapshot copies of the counters (R464), by field key -/
  snap : SMap Nat := []
  snapReq : Bool := false
  congBase : SMap Nat := []
  /-- TAGs of the congestion records sent and not acknowledged, and the boundary of the last record (R469) -/
  congTags : List Nat := []
  congMade : Option Nat := none
  /-- HOLDOVER and FOREIGN at a boundary of the span, ports throttled in it, the largest count of waiting elastic frames and its port (R468) -/
  congFlags : BitVec 2 := 0
  congThrottled : Nat := 0
  congPeak : Nat := 0
  congPort : Nat := 0
  traceQ : List (List W64) := []
  traceLost : Bool := false
  /-- the clk of the last PC samples (R472) -/
  sampled : Option Nat := none
  tracePost : Option Nat := none
  /-- a START (true) or STOP (false) for the next boundary; the queue is being flushed to a stop with this cause (R475) -/
  traceReq : Option Bool := none
  traceFlush : Option Nat := none
  dbgReq : Bool := false
  /-- Pass at whose boundary an armed partition stop applies (R476) -/
  dbgArm : Option Nat := none
  /-- WARN or CAP_ACTIVE was set at some clk of this Pass (R495) -/
  passWarn : Bool := false
  passCap : Bool := false
  holdoverSince : Option Nat := none
  /-- the field counter has been stepped, which may happen once (R31) -/
  stepped : Bool := false
  mr4Hot : List Nat := []
  i3cAddr : Option (BitVec 7) := none
  jtag : Jtag := .bypass
  scanCells : List Bool := []
  /-- the pins as sampled last (R489), and the offset of an I3C read with its data (R488) -/
  sampledPins : List Bool := []
  i3cData : W64 := 0
  tdo : W64 := 0
deriving DecidableEq, Repr

/-- The whole block. -/
structure State where
  /-- commands waiting, first in, first out -/
  pending : List Instr := []
  /-- the field counter (R31) -/
  fieldCount : Nat := 0
  passPoint : PassPoint := .window
  /-- the first Pass has begun (R63) -/
  firstPass : Bool := false
  /-- reference clk since the droop controller last dropped an edge, by region, 15 where it is more or unlisted (R43); MODEL's own form -/
  stretchCredit : SMap Nat := []
  /-- free values drawn; MODEL's own -/
  draws : Nat := 0
  /-- register fields by absolute bit address: a listed field holds its value, an unlisted one its reset value -/
  csr : SMap Nat := []
  /-- bytes of the option block in force, where they differ from the shipped block (R398) -/
  opt : SMap Byte := []
  fuses : Fuses := {}
  mem : SMap Byte := []
  mx : MemExt := {}
  slots : SMap Slot := []
  bins : SMap BinUnit := []
  drills : SMap DrillUnit := []
  fab : Fabric := {}
  coll : Coll := {}
  host : HostQ := {}
  boot : Boot := {}
  hay : Hay := {}
  obs : Obs := {}
deriving DecidableEq, Repr

/-- The block right after release of RESET_L: no option block read, nothing filled, every core halted and not started, the field counter
at 0 (Table 15-1). Every register reads its reset value. The fuses are those of a K512 with no site group programmed and the option block is
the shipped one until another is verified. DESIGN CHOICE, logs 4 and 5. -/
def State.reset : State := {}

end Sys2Proof.Machine
end

