-- ==== Sys2Proof/Machine/Ops.lean ====
section
/-! DEFINITION. The named operations over the state that every family uses: register fields, time, cluster numbering, partitions,
memory with its codes and open extents, error records, trace records, tokens, signals, halts and completion records. -/

namespace Sys2Proof

/-- The key of a physical slot. -/
def CoreId.key (k : CoreId) : Nat := k.plot.val * 17 + k.slot.val
/-- The key of a Bin unit. -/
def BinId.key (b : BinId) : Nat := b.plot.val * 8 + b.unit.val

end Sys2Proof

namespace Sys2Proof.Machine

/-- The outcome of a command. -/
abbrev Out := Host.Outcome State Fault Refusal

/-! ### Blocks of Table 9-5 -/

def seqB : Nat := 0x10000
def portB (n : Nat) : Nat := 0x100000 + n * 0x10000
def routeB : Nat := 0x200000
def collB : Nat := 0x300000
def hostB : Nat := 0x400000
def hayB : Nat := 0x500000
def telB : Nat := 0x600000
def rstB : Nat := 0x700000
def barnB : Nat := 0x800000
/-- The plot block, at the start of the plot's CSR space (R21). -/
def plotB (p : Nat) : Nat := 0x10000000 + p * 0x1800000
/-- The block of physical slot `s` of plot `p` (R21). -/
def slotB (k : CoreId) : Nat := plotB k.plot.val + 0x100000 * (k.slot.val + 1)

/-! ### Register fields -/

/-- A byte of the shipped option block (R398, Table 15-5, Table 15-6 and the text after it). -/
def shipOpt (a : Nat) : Byte :=
  BitVec.ofNat 8 (
    if a < 0x08 then bits 0x0001_5450_4F4B (8 * a) 8
    else if a = 0x08 then 1
    else if a = 0x12 then 0xDC else if a = 0x13 then 0x05
    else if a = 0x14 then 16 else if a = 0x15 then 2 else if a = 0x16 then 8 else if a = 0x17 then 1
    else if a = 0x18 then 0xFF else if a = 0x19 then 0x0F
    else if a = 0x1E then 6 else if a = 0x22 then 1 else if a = 0x23 then 16
    else if 0x28 ≤ a ∧ a < 0x34 then
      let n := (a - 0x28) / 2
      bits (0x0201 + 0x20 * (n % 3) + 0x100 * (n / 3)) (8 * (a % 2)) 8
    else if 0x40 ≤ a ∧ a < 0x4C then
      bits (0x070004A0 + 2 * ((a - 0x40) / 4)) (8 * (a % 4)) 8
    else if 0x58 ≤ a ∧ a < 0x68 then bits 0x0200 (8 * (a % 2)) 8
    else 0)

/-- A byte of the option block in force. -/
def State.optByte (s : State) (a : Nat) : Byte := (s.opt.find? a).getD (shipOpt a)

/-- `w` bits of the option block from bit `lo` of the byte at `a`. -/
def State.optBits (s : State) (a lo w : Nat) : Nat :=
  bits (ofBytes ((List.range 8).map (fun i => s.optByte (a + i)))) lo w

/-- Active plots of the grade: 32 on K512, 28 on K448 (R3, R26). -/
def State.plotCount (s : State) : Nat := if s.fuses.grade = 2 then 28 else 32

/-- KEY_ID: bytes 0 to 6 of a key's hash (R438); byte i of a hash is its bits [8i+7:8i]. -/
def keyId (h : BitVec 384) : Nat := h.toNat % 2 ^ 56

/-- The first of `v`, `v + 1`, … that is not zero and not in use. -/
def freeSeed (used : List W64) : Nat → W64 → W64
  | 0, v => v
  | n + 1, v => if v = 0 || used.contains v then freeSeed used n (v + 1) else v

/-- The SR_SEED fuses of the physical slots below `n`, the last first: each non-zero and unlike the others (Table 3-8), otherwise free. -/
def seedFuses : Nat → List W64
  | 0 => []
  | n + 1 => freeSeed (seedFuses n) (n + 2) (Config.seedFuse n) :: seedFuses n

/-- The value a fuse-borne field takes at reset (Table 0-6). `i` is the register's index in its array, `base` its block. -/
def State.fuseVal (s : State) (f : FuseSrc) (base i : Nat) : Nat :=
  match f with
  | .grade => s.fuses.grade
  | .activeClusters => 16 * s.plotCount
  | .activePlots => 2 ^ s.plotCount - 1
  | .fallow => b2n (s.plotCount ≤ i)
  | .seed => ((seedFuses (base / 0x100000 + 1)).headD 0).toNat
  | .serial => s.fuses.serial.toNat
  | .svnFloor => s.fuses.svnFloor
  | .ownerSet => b2n (s.fuses.ownerHash ≠ 0)
  | .custodianSet => b2n (s.fuses.custodianHash ≠ 0)
  | .siteOptSet => b2n (s.fuses.siteOptHash ≠ 0)
  | .siteOnly => b2n s.fuses.siteOnly
  | .nonce => bits (Config.nonce 0).toNat (64 * i) 64
  | .keyValid => if i = 0 then b2n (s.fuses.ownerHash ≠ 0) else if i = 1 then b2n (s.fuses.custodianHash ≠ 0) else 0
  | .keyRole => min i 2
  | .keyId => if i = 0 then keyId s.fuses.ownerHash else if i = 1 then keyId s.fuses.custodianHash else 0

/-- The reset value of a field (the Reset column; Table 0-6). -/
def State.rstVal (s : State) (base : Nat) (f : Field) (i : Nat) : Nat :=
  match f.rst with
  | .lit v => v
  | .opt byte bit => s.optBits byte bit f.w
  | .optPort bit => s.optBits (0x28 + 2 * ((base - portB 0) / 0x10000)) bit f.w
  | .optAxis bit => s.optBits (0x40 + 4 * i) bit f.w
  | .optVc => s.optBits (0x58 + 2 * i) 0 f.w
  | .fuse src => s.fuseVal src base i

/-- The bit address of a field: its register's CSR offset times 64, plus its lowest bit. -/
def fkey (base : Nat) (f : Field) (i : Nat) : Nat := (base + f.off + f.stride * i) * 64 + f.lo

/-- The value of a field. -/
def State.rd (s : State) (base : Nat) (f : Field) (i : Nat := 0) : Nat :=
  (s.csr.find? (fkey base f i)).getD (s.rstVal base f i)

/-- Is a one-bit field set? -/
def State.rdB (s : State) (base : Nat) (f : Field) (i : Nat := 0) : Bool := s.rd base f i ≠ 0

/-- Give a field a value, cut to its width. -/
def State.wr (s : State) (base : Nat) (f : Field) (v : Nat) (i : Nat := 0) : State :=
  { s with csr := s.csr.insert (fkey base f i) (v % 2 ^ f.w) }

/-- Add to a count that saturates at its width. -/
def State.satAdd (s : State) (base : Nat) (f : Field) (n : Nat) (i : Nat := 0) : State :=
  s.wr base f (sat f.w (s.rd base f i + n)) i

/-- Add to a count that wraps at its width. -/
def State.wrapAdd (s : State) (base : Nat) (f : Field) (n : Nat) (i : Nat := 0) : State :=
  s.wr base f (s.rd base f i + n) i

/-- Raise a PEAK field to a value. -/
def State.peak (s : State) (base : Nat) (f : Field) (v : Nat) (i : Nat := 0) : State :=
  if s.rd base f i < v then s.wr base f v i else s

/-- Return the registers at CSR offsets [lo, hi) to their reset values. -/
def State.clearCsr (s : State) (lo hi : Nat) : State :=
  { s with csr := s.csr.keep (fun k => k < lo * 64 || hi * 64 ≤ k) }

/-- A free value and the state after drawing it (log 17). -/
def State.draw (s : State) : W64 × State := (Config.free s.draws, { s with draws := s.draws + 1 })

/-! ### Registers by address (R11, R255) -/

/-- Which register of an array an offset names. -/
def Reg.index (r : Reg) (off : Nat) : Option Nat :=
  if off < r.off then none
  else if r.stride = 0 then (if off = r.off then some 0 else none)
  else if (off - r.off) % r.stride = 0 && decide ((off - r.off) / r.stride < r.count) then some ((off - r.off) / r.stride)
  else none

/-- The register at an offset of a block, with its index. -/
def regIn (rs : List Reg) (off : Nat) : Option (Reg × Nat) := rs.findSome? (fun r => (r.index off).map (fun i => (r, i)))

/-- The block that a CSR offset lies in: its base and its registers; none outside every extent (Table 9-5). -/
def blockAt (off : Nat) : Option (Nat × List Reg) :=
  if off < 0x10000 then some (0, globRegs)
  else if off < 0x20000 then some (seqB, seqRegs)
  else if off < 0x100000 then none
  else if off < 0x1C0000 then some (off / 0x10000 * 0x10000, portRegs)
  else if off < 0x200000 then none
  else if off < 0x300000 then some (routeB, routeRegs)
  else if off < 0x400000 then some (collB, collRegs)
  else if off < 0x500000 then some (hostB, hostRegs)
  else if off < 0x600000 then some (hayB, hayRegs)
  else if off < 0x700000 then some (telB, telRegs)
  else if off < 0x800000 then some (rstB, rstRegs)
  else if off < 0x810000 then some (barnB, barnRegs)
  else if off < 0x10000000 then none
  else
    let p := (off - 0x10000000) / 0x1800000
    let d := (off - 0x10000000) % 0x1800000
    if 32 ≤ p then none
    else if d < 0x100000 then some (plotB p, plotRegs)
    else if d < 0x1200000 then some (plotB p + d / 0x100000 * 0x100000, slotRegs)
    else none

/-- The field whose lowest bit has a bit address. -/
def fieldAtKey (k : Nat) : Option Field :=
  match blockAt (k / 64) with
  | none => none
  | some b => (regIn b.2 (k / 64 - b.1)).bind (fun r => r.1.fields.find? (fun f => f.lo = k % 64))

/-! ### Time (chapter 2) -/

/-- PASS_LEN (R39). -/
def State.passLen (s : State) : Nat := s.rd seqB F.PASS_CFG_PASS_LEN
/-- BUDGET_CLK, the budget end E (R41, R61). -/
def State.budget (s : State) : Nat := 92 * s.passLen / 100
/-- EDGE_BUDGET (R42, R61). -/
def State.edgeBudget (s : State) : Nat := s.budget * 15 / 16
/-- The field counter as its 64-bit register shows it (R31). -/
def State.stamp (s : State) : Nat := s.fieldCount % 2 ^ 64
/-- The number of the current Pass, not reduced modulo 2^48. -/
def State.passIdx (s : State) : Nat := s.fieldCount / s.passLen
/-- PASS_NUM (R39). -/
def State.passNum (s : State) : Nat := s.passIdx % 2 ^ 48
/-- Pass-relative clk (R62). -/
def State.phase (s : State) : Nat := s.fieldCount % s.passLen
/-- This module's DEVICE_ID (R25). -/
def State.device (s : State) : Nat := s.rd 0 F.GLOBAL_ID_DEVICE_ID

/-! ### Slots and cluster numbers (R20 to R24) -/

/-- The slot at a key. -/
def coreOf (n : Nat) : CoreId := ⟨Fin.ofNat 32 (n / 17), Fin.ofNat 17 n⟩
def coreAt (p s : Nat) : CoreId := ⟨Fin.ofNat 32 p, Fin.ofNat 17 s⟩
def State.slot (s : State) (k : CoreId) : Slot := s.slots.get {} k.key
def State.setSlot (s : State) (k : CoreId) (x : Slot) : State := { s with slots := s.slots.insert k.key x }
def State.modSlot (s : State) (k : CoreId) (f : Slot → Slot) : State := s.setSlot k (f (s.slot k))
def State.core (s : State) (k : CoreId) : Core := (s.slot k).core
def State.setCore (s : State) (k : CoreId) (c : Core) : State := s.modSlot k (fun x => { x with core := c })
def State.modCore (s : State) (k : CoreId) (f : Core → Core) : State := s.setCore k (f (s.core k))
def State.bin (s : State) (b : BinId) : BinUnit := s.bins.get {} b.key
def State.setBin (s : State) (b : BinId) (x : BinUnit) : State := { s with bins := s.bins.insert b.key x }
def State.drill (s : State) (p : Nat) : DrillUnit := s.drills.get {} p
def State.setDrill (s : State) (p : Nat) (x : DrillUnit) : State := { s with drills := s.drills.insert p x }
def State.port (s : State) (n : Nat) : PortSt := s.fab.ports.get {} n
def State.setPort (s : State) (n : Nat) (x : PortSt) : State := { s with fab.ports := s.fab.ports.insert n x }
def State.chan (s : State) (c : Nat) : Chan := s.coll.chans.get {} c
def State.setChan (s : State) (c : Nat) (x : Chan) : State := { s with coll.chans := s.coll.chans.insert c x }

/-- Plot `p` is fallow in this grade (R4). -/
def State.fallowPlot (s : State) (p : Nat) : Bool := s.rdB 0 F.PLOT_MAP_FALLOW p

/-- A row that names a unit of a fallow plot finds nothing to act on (R4, R16). -/
def State.unlessFallow (s : State) (p : Nat) (g : State → State) : Host.Outcome State Fault Refusal := .next (if s.fallowPlot p then s else g s)

/-- The logical cluster that a physical slot carries (R20, R22): none for a retired slot, an idle or retired spare, a fallow plot. -/
def State.logicalOf (s : State) (k : CoreId) : Option Nat :=
  let p := k.plot.val
  if s.fallowPlot p then none
  else if k.slot.val < 16 then
    if tb (s.rd 0 F.PLOT_MAP_RETIRED p) k.slot.val then none else some (16 * p + k.slot.val)
  else
    let si := s.rd 0 F.PLOT_MAP_STANDIN p
    if si < 16 ∧ s.rd 0 F.PLOT_MAP_SPARE_RETIRED p = 0 then some (16 * p + si) else none

/-- The physical slot that carries a logical cluster (R20, R22, R446). -/
def State.physOf (s : State) (n : Nat) : Option CoreId :=
  let p := n / 16
  let l := n % 16
  if 32 ≤ p ∨ s.fallowPlot p then none
  else if s.rd 0 F.PLOT_MAP_STANDIN p = l then
    if s.rd 0 F.PLOT_MAP_SPARE_RETIRED p = 0 then some (coreAt p 16) else none
  else if tb (s.rd 0 F.PLOT_MAP_RETIRED p) l then none
  else some (coreAt p l)

/-- The lane count L of a physical slot (R125, VEC_STAT.LANES of R150). -/
def State.lanes (s : State) (k : CoreId) : Nat :=
  if k.slot.val < 15 then 64
  else if k.slot.val = 15 then 256
  else
    let si := s.rd 0 F.PLOT_MAP_STANDIN k.plot.val
    if si = 0x1F then 0 else if si = 15 then 256 else 64

/-- Does the slot's cluster or core take part: neither fallow, retired nor idle, and its domains released (R4, R22, R415)? -/
def State.slotLive (s : State) (k : CoreId) : Bool :=
  (s.logicalOf k).isSome && decide ((s.slot k).clusterDom = .run) && decide ((s.boot.plotDoms.get Dom.run k.plot.val) = .run)

/-- All physical slots of a plot. -/
def slotsOf (p : Nat) : List CoreId := (List.range 17).map (coreAt p)
/-- Every slot that the state lists. -/
def State.allSlots (s : State) : List CoreId := s.slots.map (fun e => coreOf e.1)

/-! ### Partitions (R434 to R436) -/

/-- The valid partition that holds a plot. -/
def State.partOf (s : State) (p : Nat) : Option Nat :=
  (List.range 32).find? (fun q => s.rdB hayB F.PART_VALID q && tb (s.rd hayB F.PART_PLOTS q) p)

/-- Are `n` bytes of the Barn from `a` inside valid, filled extents of some partitions? One extent covers the bytes up to its end, another may go on there. -/
def State.barnIn (s : State) (parts : List Nat) : Nat → Nat → Nat → Bool
  | 0, _, _ => false
  | fuel + 1, a, n =>
    let lo := fun e => 0x0080_0000_0000 + s.rd hayB F.BARN_EXT_BASE e * 0x20_0000
    let hi := fun e => lo e + s.rd hayB F.BARN_EXT_UNITS e * 0x20_0000
    match (List.range 64).find? (fun e =>
      s.rdB hayB F.BARN_EXT_VALID e && parts.contains (s.rd hayB F.BARN_EXT_PART e) && !s.rdB hayB F.BARN_EXT_FILLING e &&
        decide (lo e ≤ a) && decide (a < hi e)) with
    | some e => decide (a + n ≤ hi e) || s.barnIn parts fuel (hi e) (a + n - hi e)
    | none => false

/-- The regions of Table 9-4. -/
inductive Region where
  | granary (p : Nat)
  | unmapped
  | barn
  | csr
  | window
deriving DecidableEq, Repr

/-- The region of a local address (R253). -/
def regionOf (a : Nat) : Region :=
  if a < 0x0001_0000_0000 then .granary (a / 0x0800_0000)
  else if a < 0x0080_0000_0000 then .unmapped
  else if a < 0x0100_0000_0000 then .barn
  else if a < 0x0100_4000_0000 then .csr
  else if a < 0x8000_0000_0000 then .unmapped
  else .window

/-- Local address of line `x` of plot `p` (R205). -/
def lineAddr (p x : Nat) : Nat := p * 0x0800_0000 + 64 * x

/-- Plots that a Granary range touches. -/
def plotsTouched (a n : Nat) : List Nat :=
  (List.range ((a + max n 1 - 1) / 0x0800_0000 + 1 - a / 0x0800_0000)).map (· + a / 0x0800_0000)

/-- Is every byte of a range in memory that the partition table gives one of some partitions (R434)? -/
def State.inParts (s : State) (parts : List Nat) (a n : Nat) : Bool :=
  match regionOf a, regionOf (a + max n 1 - 1) with
  | .granary _, .granary _ => (plotsTouched a n).all (fun p => parts.any (fun q => tb (s.rd hayB F.PART_PLOTS q) p && s.rdB hayB F.PART_VALID q))
  | .barn, .barn => s.barnIn parts 64 a (max n 1)
  | _, _ => false

/-- Is every byte of a range inside a partition (check 6 of Table 7-6)? -/
def State.inPart (s : State) (part a n : Nat) : Bool := s.inParts [part] a n

/-- Does a Granary range touch a fallow plot (R4, R257)? -/
def State.touchesFallow (s : State) (a n : Nat) : Bool :=
  match regionOf a with
  | .granary _ => (plotsTouched a n).any (fun p => p < 32 && s.fallowPlot p)
  | _ => false

/-! ### Error records (R458 to R461) and trace records (R470 to R475) -/

/-- Where an error record points (R458). -/
structure Loc where
  kind : Nat := 0
  plot : Nat := 0
  index : Nat := 0
deriving DecidableEq, Repr

def locSlot (k : CoreId) : Loc := ⟨1, k.plot.val, k.slot.val⟩

/-- What an error record carries of the command concerned (Table 18-3). -/
structure Cause where
  furrow : Nat := 0
  layer : Nat := 0
  oper : Nat := 0
  epoch : Nat := 0
  cmd : Nat := 0
  check : Nat := 0
deriving DecidableEq, Repr

/-- What a descriptor contributes to a record (R182). -/
def causeOf (d : Desc) (furrow : Nat) (check : Nat := 0) : Cause :=
  { furrow := furrow, layer := fld d.w0 32 16, oper := fld d.w0 48 16, epoch := fld d.w0 16 8, cmd := fld d.w0 0 8, check := check }

/-- Does the trace filter pass a slot, and does the slot carry a logical cluster (R471)? -/
def State.traced (s : State) (k : CoreId) : Bool :=
  tb (s.rd telB F.TRACE_FILTER_PLOTS) k.plot.val && tb (s.rd telB F.TRACE_FILTER_SLOTS) k.slot.val && (s.logicalOf k).isSome

/-- Is the trace running (R475)? A queue that is being flushed to a stop takes no more records. -/
def State.tracing (s : State) : Bool := (s.rd telB F.TRACE_STAT_STATE = 1 || s.rd telB F.TRACE_STAT_STATE = 2) && s.obs.traceFlush.isNone

/-- A trace record's words 0 and 1 (Table 19-5); SEQ and LOST_BEFORE are put in when it enters the queue. -/
def traceHdr (type plot slot : Nat) (stamp : Nat) : List W64 :=
  [pack [(0, 8, type), (8, 5, plot), (13, 5, slot)], BitVec.ofNat 64 stamp]

/-- The order of records that share a STAMP: plot, then slot, then TYPE (R470). -/
def traceRank (r : List W64) : Nat := fld (r.headD 0) 8 5 * 2 ^ 13 + fld (r.headD 0) 13 5 * 2 ^ 8 + fld (r.headD 0) 0 8

/-- How many records at the end of the queue share a record's STAMP and come after it. -/
def traceBehind (q : List (List W64)) (r : List W64) : Nat :=
  (q.reverse.takeWhile (fun x => x.getD 1 0 = r.getD 1 0 && decide (traceRank r < traceRank x))).length

/-- A record that bears the next SEQ takes its place in the queue: those behind it take the SEQ after (R470). -/
def traceEnter (q : List (List W64)) (r : List W64) : List (List W64) :=
  let n := traceBehind q r
  let bump := fun (d : W64) (x : List W64) => (x.headD 0 + d) :: x.tail
  q.take (q.length - n) ++ [bump (-BitVec.ofNat 64 (n * 2 ^ 32)) r] ++ (q.drop (q.length - n)).map (bump (BitVec.ofNat 64 (2 ^ 32)))

/-- Enter a record in the trace queue, or drop it when the queue is full (R470). -/
def State.tracePut (s : State) (ws : List W64) : State :=
  if !s.tracing then s
  else if 1024 ≤ s.obs.traceQ.length then
    { s.satAdd telB F.TRACE_STAT_DROPPED 1 with obs.traceLost := true }
  else
    let w0 := ws.headD 0 ||| pack [(18, 1, b2n s.obs.traceLost), (32, 32, s.rd telB F.TRACE_WIDX_SEQ)]
    let rec8 := ((w0 :: ws.tail) ++ List.replicate 8 0).take 8
    let s := { s with obs.traceQ := traceEnter s.obs.traceQ rec8, obs.traceLost := false }
    (s.wrapAdd telB F.TRACE_WIDX_SEQ 1).wr telB F.TRACE_STAT_QUEUED s.obs.traceQ.length

/-- A trigger moves a running trace to POST and writes a trigger record (R475, Table 19-6); it may arm a partition stop (R477). -/
def State.traceTrigger (s : State) (cause detail : Nat) : State :=
  if s.rd telB F.TRACE_STAT_STATE = 1 then
    let s := s.tracePut (traceHdr 5 0 0x1F s.stamp ++ [pack [(0, 3, cause), (8, 56, detail)]])
    let s := (s.wr telB F.TRACE_STAT_STATE 2).wr telB F.TRACE_STAT_TRIG_CAUSE cause
    let s := { s with obs.tracePost := some (s.rd telB F.TRACE_CFG_POST_PASSES) }
    if s.rdB telB F.DBG_STOP_ON_TRIGGER && cause ≠ 3 then { s with obs.dbgReq := true } else s
  else s

/-- Write an error record: merge it, queue it or lose it (R460), and note it in FLT_STAT (R462). -/
def State.err (s : State) (cls sev : Nat) (loc : Loc) (c : Cause) (d0 d1 : Nat) : State :=
  let r : ErrRec :=
    { w0 := pack [(0, 8, cls), (8, 3, sev), (16, 16, s.device), (48, 4, loc.kind), (52, 5, loc.plot), (57, 5, loc.index)]
      w1 := BitVec.ofNat 64 s.stamp
      w2 := pack [(0, 48, s.passNum), (48, 16, c.furrow)]
      w3 := pack [(0, 16, c.layer), (16, 16, c.oper), (32, 8, c.epoch), (40, 8, c.cmd), (48, 8, c.check)]
      w4 := BitVec.ofNat 64 d0
      w5 := BitVec.ofNat 64 d1 }
  let same := fun q : ErrRec => fld q.w0 0 8 = cls && fld q.w0 48 14 = fld r.w0 48 14 && fld q.w3 48 8 = c.check && fld q.w2 0 48 = s.passNum
  if s.obs.errQ.any same then
    { s with obs.errQ := modFirst same (fun q => { q with rep := min (q.rep + 1) 0xFFFF }) s.obs.errQ }
  else if 64 ≤ s.obs.errQ.length then s.satAdd telB F.ERR_RIDX_LOST 1
  else
    let s := { s with obs.errQ := s.obs.errQ ++ [r] }
    let s := s.wr telB F.FLT_STAT_LAST_CLASS cls
    let s := if sev = 3 then s.wr telB F.FLT_STAT_UNMASKED 1 else s
    let s := if sev = 2 then s.wr telB F.FLT_STAT_DEGRADED 1 else s
    let s := if sev = 1 then s.satAdd telB F.FLT_STAT_MASKED 1 else s
    if cls ≠ 0 && s.rd telB F.TRACE_CFG_TRIG_CLASS = cls then s.traceTrigger 2 cls else s

/-- Does the branch trace gather for a slot (R471, R473)? -/
def State.branching (s : State) (k : CoreId) : Bool := s.tracing && s.rdB telB F.TRACE_CFG_BRANCH_EN && s.traced k

/-- Write out the branch record in the making; one that covers no instruction is not written (R473). -/
def State.branchFlush (s : State) (k : CoreId) : State :=
  let x := s.slot k
  match x.brStart with
  | none => s
  | some start =>
    let s := s.modSlot k (fun x => { x with brTargets := [], brStart := none })
    let w2 := pack [(0, 14, start), (14, 1, b2n x.core.bank), (16, 16, x.core.furrowId), (32, 5, x.brTargets.length), (37, 1, b2n x.core.reexec)]
    let v := x.brTargets.foldr (fun t acc => t % 16384 + 16384 * acc) 0
    s.tracePut (traceHdr 2 k.plot.val k.slot.val s.stamp ++ [w2] ++ (List.range 5).map (fun i => BitVec.ofNat 64 (v >>> (64 * i))))

/-- An instruction at an offset is covered by the branch record in the making (R473). -/
def State.branchCover (s : State) (k : CoreId) (pc : Nat) : State :=
  if s.branching k then s.modSlot k (fun x => { x with brStart := x.brStart.or (some pc) }) else s

/-- Gather a taken branch target (R473). -/
def State.branchTo (s : State) (k : CoreId) (target : Nat) : State :=
  if s.branching k then
    let s := s.modSlot k (fun x => { x with brStart := x.brStart.or (some target), brTargets := x.brTargets ++ [target] })
    if 22 ≤ (s.slot k).brTargets.length then s.branchFlush k else s
  else s

/-! ### Memory: bytes, codes, extents (chapters 8 and 9, R57) -/

/-- One byte of memory: an unlisted byte reads zero, the start-up fill (R214, R246). -/
def State.byte (s : State) (a : Nat) : Byte := s.mem.get 0 a
/-- `n` bytes from `a`. -/
def State.bytes (s : State) (a n : Nat) : List Byte := (List.range n).map (fun i => s.byte (a + i))
/-- Store one byte, in canonical form. -/
def memPut (m : SMap Byte) (a : Nat) (b : Byte) : SMap Byte := m.put 0 a b
/-- Store bytes from `a` upwards. -/
def memPuts (m : SMap Byte) : Nat → List Byte → SMap Byte
  | _, [] => m
  | a, b :: t => memPuts (memPut m a b) (a + 1) t
/-- The canonical form of the memory: addresses rise strictly and no entry equals what an unlisted address reads as. -/
def Memory.wf (m : SMap Byte) : Bool := m.sorted && m.all (fun e => decide (e.2 ≠ 0))
/-- Store bytes without any code, count or extent. -/
def State.poke (s : State) (a : Nat) (bs : List Byte) : State := { s with mem := memPuts s.mem a bs }
/-- Eight bytes as a word (R9). -/
def State.word (s : State) (a : Nat) : W64 := BitVec.ofNat 64 (ofBytes (s.bytes a 8))
def wordBytes (w : W64) : List Byte := bytesOf 8 w.toNat
/-- A descriptor stored at an address. -/
def State.descAt (s : State) (a : Nat) : Desc :=
  ⟨s.word a, s.word (a + 8), s.word (a + 16), s.word (a + 24), s.word (a + 32), s.word (a + 40), s.word (a + 48), s.word (a + 56)⟩

/-- Response codes of Table 9-6. -/
def rOK : Nat := 0
def rUNMAPPED : Nat := 1
def rFALLOW : Nat := 2
def rNOT_COMMITTED : Nat := 3
def rUNCORRECTABLE : Nat := 4
def rIM_BUSY : Nat := 5
def rDENIED : Nat := 6

/-- The units (lines of 64 bytes, blocks of 512) that a range touches. -/
def unitsOf (u a n : Nat) : List Nat :=
  if n = 0 then [] else (List.range ((a + n - 1) / u + 1 - a / u)).map (· + a / u)

/-- The part of a write that falls in unit `x` of size `u`: its first address and its bytes. -/
def unitPart (u x a : Nat) (bs : List Byte) : Nat × List Byte :=
  let lo := max a (u * x)
  let hi := min (a + bs.length) (u * x + u)
  (lo, (bs.drop (lo - a)).take (hi - lo))

/-- An uncorrectable Granary line is counted and captured (R213). `sev` is MASKED in a furrow, INFO otherwise; `c` names the command that met it (R182). -/
def State.granUc (s : State) (p x sev rq : Nat) (c : Cause := {}) : State :=
  let s := s.satAdd (plotB p) F.GRAN_ECC_UNCORRECTABLE 1
  let s := if s.rdB (plotB p) F.GRAN_UC_FIRST_VALID then s
    else ((s.wr (plotB p) F.GRAN_UC_FIRST_LINE x).wr (plotB p) F.GRAN_UC_FIRST_VALID 1).wr (plotB p) F.GRAN_UC_TIME_STAMP s.stamp
  s.err 0x03 sev ⟨4, p, 0⟩ { c with check := 6 } x rq

/-- A corrected symbol is counted and captured (R211). -/
def State.granCe (s : State) (p x sym : Nat) : State :=
  let s := s.satAdd (plotB p) F.GRAN_ECC_CORRECTED 1
  ((s.wr (plotB p) F.GRAN_ECC_LAST_LINE x).wr (plotB p) F.GRAN_ECC_LAST_VALID 1).wr (plotB p) F.GRAN_ECC_LAST_SYMBOL sym

/-- Enter a line index in the plot's repair queue (R211, R212). -/
def State.repairPush (s : State) (p x : Nat) : State :=
  let q := s.mx.repairQ.get [] p
  if 32 ≤ q.length then s.satAdd (plotB p) F.GRAN_REPAIR_DROPPED 1
  else ({ s with mx.repairQ := s.mx.repairQ.insert p (q ++ [x]) }).wr (plotB p) F.GRAN_REPAIR_QUEUED (q.length + 1)

/-- The code's part in reading one Granary line, by its global line number: response and state (R211, R213). -/
def State.granRead (s : State) (sev rq : Nat) (x : Nat) (c : Cause := {}) : Nat × State :=
  let p := x / 0x20_0000
  let s := s.wrapAdd telB F.GRAN_RD_BYTES 64 p
  match s.mx.granBad.get [] x with
  | [] => (rOK, s)
  | [sym] => (rOK, (s.granCe p (x % 0x20_0000) sym).repairPush p (x % 0x20_0000))
  | _ => (rUNCORRECTABLE, s.granUc p (x % 0x20_0000) sev rq c)

/-- Write one Granary line or a part of it (R208, R213, R237). -/
def State.granWrite (s : State) (sev rq : Nat) (x lo : Nat) (bs : List Byte) (c : Cause := {}) : Nat × State :=
  let p := x / 0x20_0000
  let s := s.wrapAdd telB F.GRAN_WR_BYTES 64 p
  if bs.length = 64 then
    let inj := s.mx.granInj.get 0 p
    let s := s.poke lo bs
    let s := { s with mx.granBad := if inj = 0 then s.mx.granBad.erase x else s.mx.granBad.insert x (List.range inj) }
    (rOK, if inj = 0 then s else { s with mx.granInj := s.mx.granInj.erase p })
  else
    let s := s.wrapAdd telB F.GRAN_RD_BYTES 64 p
    match s.mx.granBad.get [] x with
    | [] => (rOK, s.poke lo bs)
    | [sym] => (rOK, ({ (s.granCe p (x % 0x20_0000) sym) with mx.granBad := s.mx.granBad.erase x }).poke lo bs)
    | _ => (rUNCORRECTABLE, s.granUc p (x % 0x20_0000) sev rq c)

/-- The package retired, if any (R244). -/
def State.retiredPkg (s : State) : Option Nat :=
  let r := s.rd barnB F.BARN_STAT_RETIRED_PKG
  if r < 18 then some r else none

/-- Packages in error in a block that a read must locate: the retired package's symbols are erased and rebuilt (R244). -/
def State.blockBad (s : State) (b : Nat) : List Nat :=
  (s.mx.barnBad.get [] b).filter (fun k => some k ≠ s.retiredPkg)

/-- Have a package's corrections of the current window reached the threshold, for the first time in it (R244)? -/
def State.retireReached (s : State) (k : Nat) : Bool :=
  let t := s.rd barnB F.BARN_CFG_RETIRE_THRESH
  t ≠ 0 && decide (t ≤ s.rd barnB F.BARN_PKG_WINDOW k) && !s.mx.retireSeen.contains k && some k ≠ s.retiredPkg

/-- Note a package that reached the threshold: its retirement is decided at the next boundary (R244). -/
def State.noteReached (s : State) (k : Nat) : State :=
  if s.retireReached k then { s with mx.retireDue := s.mx.retireDue ++ [k], mx.retireSeen := k :: s.mx.retireSeen } else s

/-- A correction located to package `k` (R242). -/
def State.barnCe (s : State) (k : Nat) : State :=
  (((s.satAdd barnB F.BARN_ECC_CORRECTED 1).satAdd barnB F.BARN_PKG_CORRECTED 1 k).satAdd barnB F.BARN_PKG_WINDOW 1 k).noteReached k

/-- An uncorrectable block (R245). -/
def State.barnUc (s : State) (b sev rq : Nat) (c : Cause := {}) : State :=
  let s := s.satAdd barnB F.BARN_ECC_UNCORRECTABLE 1
  let s := if s.rdB barnB F.BARN_UC_FIRST_VALID then s
    else ((s.wr barnB F.BARN_UC_FIRST_BLOCK b).wr barnB F.BARN_UC_FIRST_VALID 1).wr barnB F.BARN_UC_TIME_STAMP s.stamp
  s.err 0x04 sev ⟨0, 0, 0⟩ { c with check := 6 } b rq

/-- The code's part in reading one Barn block (R242 to R245); two packages in error, or one beside a retired one, are uncorrectable. -/
def State.barnRead (s : State) (elastic : Bool) (sev rq b : Nat) (c : Cause := {}) : Nat × State :=
  let s := s.wrapAdd telB F.BARN_RD_BYTES 512
  let s := if elastic then s.wrapAdd telB F.BARN_ELASTIC_BYTES 512 else s
  match s.blockBad b, s.retiredPkg with
  | [], _ => (rOK, s)
  | [k], none => (rOK, s.barnCe k)
  | _, _ => (rUNCORRECTABLE, s.barnUc b sev rq c)

/-- Write one Barn block or merge a part of it (R245, R258). -/
def State.barnWrite (s : State) (elastic : Bool) (sev rq b lo : Nat) (bs : List Byte) (c : Cause := {}) : Nat × State :=
  let count := fun s : State =>
    let s := s.wrapAdd telB F.BARN_WR_BYTES 512
    if elastic then s.wrapAdd telB F.BARN_ELASTIC_BYTES 512 else s
  if bs.length = 512 then
    let s := count (s.poke lo bs)
    match s.mx.barnInj with
    | none => (rOK, { s with mx.barnBad := s.mx.barnBad.erase b })
    | some k => (rOK, { s with mx.barnBad := s.mx.barnBad.insert b [k], mx.barnInj := none })
  else
    let r := s.barnRead elastic sev rq b c
    if r.1 = rOK then (rOK, count (({ r.2 with mx.barnBad := r.2.mx.barnBad.erase b }).poke lo bs))
    else r

/-- Fold an access over its units; the first error response stands. -/
def State.overUnits (s : State) (f : State → Nat → Nat × State) (us : List Nat) : Nat × State :=
  us.foldl (fun acc u => let r := f acc.2 u; (if acc.1 = rOK then r.1 else acc.1, r.2)) (rOK, s)

/-- The isolation wrapper of a plot is open (R415). -/
def State.plotOpen (s : State) (p : Nat) : Bool := decide (s.boot.plotDoms.get Dom.run p = .run)

/-- A wrapper answers a request or discards an item (R415, R416). -/
def State.wrapped (s : State) : State := s.satAdd rstB F.RST_COUNT_WRAPPED 1

/-- Does a range touch a plot whose wrapper is closed? -/
def State.wrapperShut (s : State) (a n : Nat) : Bool :=
  match regionOf a with
  | .granary _ => (plotsTouched a n).any (fun p => !s.plotOpen p)
  | _ => false

/-- Read committed or own bytes of the Granary or the Barn through their codes. An error response returns zeros (R256).
`rq` names the requester in error records: 0 to 16 a cluster slot, 17 to 24 a Bin unit, 25 the Drill, 26 the network, 27 Glean.
DESIGN CHOICE, log 22: the manual gives no numbers for the requesters. -/
def State.memRead (s : State) (furrow elastic : Bool) (rq a n : Nat) (c : Cause := {}) : Nat × List Byte × State :=
  let sev := if furrow then 1 else 0
  if s.wrapperShut a n then (rFALLOW, List.replicate n 0, s.wrapped)
  else match regionOf a with
  | .granary _ =>
    let r := s.overUnits (fun s x => s.granRead sev rq x c) (unitsOf 64 a n)
    (r.1, if r.1 = rOK then r.2.bytes a n else List.replicate n 0, r.2)
  | .barn =>
    let r := s.overUnits (fun s b => s.barnRead elastic sev rq b c) (unitsOf 512 (a - 0x0080_0000_0000) n)
    (r.1, if r.1 = rOK then r.2.bytes a n else List.replicate n 0, r.2)
  | _ => (rUNMAPPED, List.replicate n 0, s)

/-- A write that completes with an error response changes nothing (R256): the stored bytes and their codes are those of `s` again, what was counted and recorded
stays. DEDUCED, log 118. -/
def State.refuseWrite (s : State) (r : Nat × State) : Nat × State :=
  if r.1 = rOK then r
  else
    (r.1, { r.2 with
      mem := s.mem, mx.granBad := s.mx.granBad, mx.granInj := s.mx.granInj, mx.barnBad := s.mx.barnBad, mx.barnInj := s.mx.barnInj })

/-- Write bytes to the Granary or the Barn through their codes. -/
def State.memWrite (s : State) (furrow elastic : Bool) (rq a : Nat) (bs : List Byte) (c : Cause := {}) : Nat × State :=
  let sev := if furrow then 1 else 0
  if s.wrapperShut a bs.length then (rFALLOW, s.wrapped)
  else match regionOf a with
  | .granary _ =>
    s.refuseWrite (s.overUnits (fun s x => let u := unitPart 64 x a bs; s.granWrite sev rq x u.1 u.2 c) (unitsOf 64 a bs.length))
  | .barn =>
    let o := 0x0080_0000_0000
    s.refuseWrite
      (s.overUnits (fun s b => let u := unitPart 512 b (a - o) bs; s.barnWrite elastic sev rq b (o + u.1) u.2 c) (unitsOf 512 (a - o) bs.length))
  | _ => (rUNMAPPED, s)

/-- Do two ranges share a byte? -/
def overlap (a n b m : Nat) : Bool := n ≠ 0 && m ≠ 0 && a < b + m && b < a + n

/-- Is a range touched by an open extent of someone else, or by an open host extent (R57, R385)? A closed wrapper answers at once (R415). -/
def State.blocked (s : State) (o : Option Owner) (a n : Nat) : Bool :=
  !s.wrapperShut a n && (s.mx.extents.any (fun e => some e.owner ≠ o && overlap e.lo e.len a n) ||
    s.mx.hostExtents.any (fun e => some e.owner ≠ o && overlap e.lo e.len a n))

/-- The controllers' counts of open extents (GRAN_OPEN, BARN_OPEN). -/
def State.extentCounts (s : State) (a : Nat) : State :=
  match regionOf a with
  | .granary p =>
    let n := (s.mx.extents.filter (fun e => regionOf e.lo = .granary p)).length
    (s.wr (plotB p) F.GRAN_OPEN_EXTENTS n).peak (plotB p) F.GRAN_OPEN_PEAK n
  | .barn =>
    let n := (s.mx.extents.filter (fun e => regionOf e.lo = .barn)).length
    (s.wr barnB F.BARN_OPEN_EXTENTS n).peak barnB F.BARN_OPEN_PEAK n
  | _ => s

/-- List one extent in its controller's table, joined to a neighbour of the same owner. -/
def State.openOne (s : State) (o : Owner) (a n : Nat) : State :=
  if n = 0 then s
  else
    let near := fun e : Extent => e.owner = o && e.lo ≤ a + n && a ≤ e.lo + e.len && decide (regionOf e.lo = regionOf a)
    let es :=
      if s.mx.extents.any near then
        modFirst near (fun e => { e with lo := min e.lo a, len := max (e.lo + e.len) (a + n) - min e.lo a }) s.mx.extents
      else s.mx.extents ++ [{ owner := o, lo := a, len := n }]
    ({ s with mx.extents := es }).extentCounts a

/-- List a written range as open (R57), plot by plot. -/
def State.openExtent (s : State) (o : Owner) (a n : Nat) : State :=
  match regionOf a with
  | .granary _ =>
    (plotsTouched a n).foldl (fun s p =>
      let lo := max a (p * 0x0800_0000)
      let hi := min (a + n) ((p + 1) * 0x0800_0000)
      s.openOne o lo (hi - lo)) s
  | _ => s.openOne o a n

/-- A furrow's or operation's write: the bytes land in place and the range is open (R47, R57). -/
def State.writeOpen (s : State) (o : Owner) (rq a : Nat) (bs : List Byte) (c : Cause := {}) : Nat × State :=
  let r := s.memWrite true false rq a bs c
  (r.1, if s.wrapperShut a bs.length then r.2 else r.2.openExtent o a bs.length)

/-- Close every extent that satisfies a test, and bring the controllers' counts up to date. -/
def State.closeExtents (s : State) (f : Extent → Bool) : State :=
  let gone := s.mx.extents.filter f
  let s := { s with mx.extents := s.mx.extents.filter (fun e => !f e) }
  gone.foldl (fun s e => s.extentCounts e.lo) s

/-! ### Furrows, registers, tokens -/

/-- The furrow in hand, while the core is inside one: the last begun. A furrow halted in an earlier Pass stays in hand for inspection and steps (R175, R179); one
halted in this Pass and left by a RESUME is in hand no more. -/
def Core.cur (c : Core) : Option Furrow :=
  if c.inFurrow then (c.furrows.reverse.find? (fun f => !f.ended && f.vote = .undecided)).or (c.kept.reverse.find? (fun f => !f.ended)) else none

/-- Change the furrow with a serial number, among those of the Pass and those kept for inspection. -/
def Core.mapFurrow (c : Core) (serial : Nat) (g : Furrow → Furrow) : Core :=
  let h := fun f : Furrow => if f.serial = serial then g f else f
  { c with furrows := c.furrows.map h, kept := c.kept.map h }
def State.modFurrow (s : State) (k : CoreId) (serial : Nat) (g : Furrow → Furrow) : State := s.modCore k (fun c => c.mapFurrow serial g)

def State.furrow? (s : State) (k : CoreId) (serial : Nat) : Option Furrow :=
  ((s.core k).furrows.find? (fun f => f.serial = serial)).or ((s.core k).kept.find? (fun f => f.serial = serial))

/-- Change the furrow in hand. -/
def State.modCur (s : State) (k : CoreId) (g : Furrow → Furrow) : State :=
  match (s.core k).cur with
  | some f => s.modFurrow k f.serial g
  | none => s

/-- Furrow ID for a record: the furrow in hand, 0 outside one. -/
def Core.curId (c : Core) : Nat := match c.cur with | some f => f.id | none => 0

/-- g[r]: g0 reads zero (R154). -/
def State.g (s : State) (k : CoreId) (r : BitVec 5) : W64 := if r = 0 then 0 else (s.core k).regs.get 0 r.toNat

/-- g[r] := v: a write to g0 is discarded (R154); a furrow's write enters its mask (R157). -/
def State.setG (s : State) (k : CoreId) (r : BitVec 5) (v : W64) : State :=
  if r = 0 then s
  else
    let s := s.modCore k (fun c => { c with regs := c.regs.put 0 r.toNat v })
    s.modCur k (fun f => { f with mask := f.mask ||| (1#32 <<< r.toNat) })

/-- A token's count. -/
def State.tok (s : State) (k : CoreId) (t : Nat) : Nat := ((s.slot k).tok.get 0 t).toNat

/-- Set a token's count. -/
def State.setTok (s : State) (k : CoreId) (t v : Nat) : State :=
  s.modSlot k (fun x => { x with tok := x.tok.put 0 t (BitVec.ofNat 16 v) })

/-- Note a furrow's change to a token (R197). -/
def State.noteTok (s : State) (k : CoreId) (serial t : Nat) (d : Int) : State :=
  s.modFurrow k serial (fun f => { f with tok := f.tok.put 0 t (f.tok.get 0 t + d) })

/-! ### Halts (R171 to R175) -/

/-- The value of CORE_HALT (R180). -/
def HaltRec.word (h : HaltRec) : Nat :=
  (pack [(0, 8, h.reason), (8, 3, h.source), (11, 1, b2n h.bank), (16, 14, h.addr), (32, 16, h.furrow), (48, 8, h.cmd)]).toNat

/-- Discard what a halt other than 0x0B discards (R174): descriptors not dequeued, and the running VEXEC. One that has issued its VEND runs to completion
(R130). -/
def discardQueues (x : Slot) : Slot := { x with matQ := [], vecQ := [], dmQ := [], vrun := none }

/-- A furrow of a slot will not be re-executed: its extents close uncommitted at the next boundary, and what it held is discarded
(R44, R57, R174). -/
def State.dropFurrow (s : State) (k : CoreId) (serial : Nat) : State :=
  let o := Owner.furrow k serial
  let shut := fun e : Extent => if e.owner = o then { e with closing := true } else e
  let drop := fun x : Slot => { x with held := x.held.filter (fun h => h.owner ≠ o), heldClose := x.heldClose.filter (fun h => h.owner ≠ o) }
  { s with mx.extents := s.mx.extents.map shut, slots := s.slots.map (fun e => (e.1, drop e.2)) }

/-- Owed re-executions of a halted core cannot launch: each is recorded as REEXEC_HALTED, code 0x41 (R176). -/
def State.reexecHalted (s : State) (k : CoreId) (fs : List Furrow) : State :=
  let s := fs.foldl (fun s f =>
    let h : HaltRec := { reason := 0x41, bank := f.bank, addr := f.pc, furrow := f.id }
    (s.dropFurrow k f.serial).err 0x11 4 (locSlot k) { furrow := f.id } h.word f.pc) s
  s.modCore k (fun c => { c with owed := [], resume := none })

/-- Halt a core (R171, R174, R178). `sender` replaces the halt address in the record's DETAIL1 (R497). `order` is the program order of the command whose work
halts, none for the core's own instruction, which has issued after every command of its queues. A core already halted keeps its halt, and the cause then appears in the
error record only; but of several causes in one clk the one whose instruction or command issued first is recorded (R171). -/
def State.halt (s : State) (k : CoreId) (reason source : Nat) (bank : Bool) (addr cmd : Nat) (c : Cause := {}) (sender : Option W64 := none)
    (order : Option Nat := none) : State :=
  let core := s.core k
  let h : HaltRec :=
    { reason := reason, source := source, bank := bank, addr := addr, furrow := core.curId, cmd := cmd, time := s.stamp
      order := order.getD (s.slot k).order }
  let rec? := fun s : State =>
    if reason = 0x0B ∨ reason = 0x0C ∨ 0x80 ≤ reason then s
    else s.err 0x11 4 (locSlot k) { c with furrow := h.furrow, cmd := cmd } h.word ((sender.map (·.toNat)).getD addr)
  if core.halted then
    let s := rec? s
    if core.halt.reason ≠ 0 && core.halt.time = s.stamp && decide (h.order < core.halt.order) then
      let s := s.modCore k (fun c => { c with halt := { h with furrow := core.halt.furrow } })
      if reason = 0x0B then s else s.modSlot k discardQueues
    else s
  else
    let s := s.branchFlush k
    let s := s.modCur k (fun f => { f with halted := true })
    let s := s.modCore k (fun c => { c with halted := true, halt := h, wait := Wait.none, stepping := false })
    let s := if reason = 0x0B then s else s.modSlot k discardQueues
    let s := s.reexecHalted k core.owed
    let s := rec? s
    let s := if s.rdB telB F.TRACE_CFG_TRIG_HALT && s.traced k then s.traceTrigger 1 h.word else s
    if reason = 0x0B && s.rdB telB F.DBG_STOP_ON_BRK && s.partOf k.plot.val = some (s.rd telB F.DBG_STOP_PART)
    then { s with obs.dbgReq := true } else s

/-- A halt by the core itself at the instruction it is on (R171, source core). -/
def State.haltCore (s : State) (k : CoreId) (reason : Nat) : State :=
  let c := s.core k
  s.halt k reason 0 c.bank c.pc 0

/-- A halt found by an engine in a command: the ISSUE that wrote the command is the halt address (R171, R188).
`source` is 1 matrix, 2 vector, 3 data mover, 5 collective channel. -/
def State.haltCmd (s : State) (k : CoreId) (reason source : Nat) (q : QEntry) : State :=
  s.halt k reason source q.bank q.pc (fld q.desc.w0 0 8) (causeOf q.desc 0) none (some q.order)

/-! ### Signals (R193 to R196) -/

/-- Apply a signal to a token now; an overflow halts the core of the cluster and leaves the count (R193). -/
def State.addTok (s : State) (k : CoreId) (t n : Nat) (halt : State → State) : State :=
  if 0xFFFF < s.tok k t + n then halt s else s.setTok k t (s.tok k t + n)

/-- The sender word of R497. -/
def senderWord (device cluster binUnit kind qp : Nat) : W64 :=
  pack [(0, 16, device), (16, 9, cluster), (25, 3, binUnit), (28, 4, kind), (32, 13, qp), (63, 1, 1)]

/-- The wrappers around a slot are open: its plot's and its cluster's (R415). -/
def State.slotOpen (s : State) (k : CoreId) : Bool := s.plotOpen k.plot.val && decide ((s.slot k).clusterDom = .run)

/-- Does the cluster accept work and packets of an epoch (R198)? -/
def Slot.accepts (x : Slot) (e : Nat) : Bool := e = x.cur || (e = x.prev && x.prevOpen)

/-- Count a discarded packet, signal or marker (R198, R200). -/
def State.stalePkt (s : State) (k : CoreId) : State := s.satAdd (slotB k) F.EPOCH_DISCARDS_STALE_PKTS 1

/-- Do two signals merge into one entry: of one furrow, to one token (R196)? -/
def Held.same (h q : Held) : Bool := q.owner = h.owner && q.tok = h.tok && q.ready = h.ready

/-- The held-signal table of 128 entries has room for a signal: it merges, or an entry is free, or the cluster will not keep it (R196). -/
def State.heldRoom (s : State) (k : CoreId) (h : Held) : Bool :=
  let x := s.slot k
  decide (x.held.length < 128) || x.held.any h.same || !s.slotOpen k || !x.accepts h.epoch

/-- Hold a signal in the table of the cluster that `k` carries (R194, R196): signals of one furrow to one token merge. A closed wrapper discards
it (R415), and so does a cluster that does not accept its epoch (R198). -/
def State.hold (s : State) (k : CoreId) (h : Held) : State :=
  if !s.slotOpen k then s.wrapped
  else if !(s.slot k).accepts h.epoch then s.stalePkt k else
  let x := s.slot k
  let held := if x.held.any h.same then modFirst h.same (fun q => { q with count := q.count + h.count, own := h.own }) x.held
    else x.held ++ [{ h with pass := s.passIdx }]
  (s.setSlot k { x with held := held }).peak (slotB k) F.HELD_STAT_PEAK held.length

/-- The slot in whose table a header's signal is held: the own one for scope 0b10, the one that carries SIG_CLUSTER for scope 0b11 (R194). -/
def State.sigTarget (s : State) (own : CoreId) (d : Desc) : Option CoreId :=
  match fld d.w1 30 2 with
  | 2 => some own
  | 3 => s.physOf (fld d.w1 48 9)
  | _ => none

/-- The signal that a header asks for, from its owner and its sender word. -/
def sigOf (d : Desc) (o : Owner) (sender : W64) : Held := { owner := o, tok := fld d.w1 24 6, count := fld d.w1 32 16, epoch := fld d.w0 16 8, sender := sender }

/-- The sender word of a cluster of this module (R497). -/
def State.clusterSender (s : State) (k : CoreId) (unit kind : Nat) : W64 := senderWord s.device ((s.logicalOf k).getD 0x1FF) unit kind 0

/-- Hold a signal where its header sends it. -/
def State.holdFor (s : State) (own : CoreId) (d : Desc) (h : Held) : State :=
  match s.sigTarget own d with
  | some t => s.hold t h
  | none => s

/-- Does a signal that is to be held find its table full (R196)? The command that makes it then waits. -/
def State.sigWaits (s : State) (own : CoreId) (d : Desc) (h : Held) : Bool := (s.sigTarget own d).any (fun t => !s.heldRoom t h)

/-! ### Check failures (R122, R442, R458) -/

/-- A failed check of a unit of slot `k`: the furrow is FAIL at vote close, a UNIT_CHECK record is written (R122, R149, R152).
`engine` is 0 matrix, 1 vector, 2 core; `check` the CHECK code. The strike count in DETAIL1 includes the strike this furrow adds (R459). -/
def State.checkFail (s : State) (k : CoreId) (engine check : Nat) (c : Cause) : State :=
  let id := (s.core k).curId
  let own := (s.core k).cur.isSome
  let before := (s.core k).furrows.filter (fun f => f.strike && (s.core k).cur.all (fun g => g.serial ≠ f.serial))
  let strikes := min 15 (s.rd (slotB k) F.FLT_UNIT_STRIKES + before.length + b2n own)
  let s := s.modCur k (fun f => { f with failed := true, strike := true, check := check })
  let s := if own && !s.obs.selfCheck.contains k.key then { s with obs.selfCheck := s.obs.selfCheck ++ [k.key] } else s
  s.err 0x01 1 (locSlot k) { c with furrow := id, check := check } engine strikes

/-- An error response met by a furrow's read fails the furrow without a strike (R213, R450). -/
def State.readFail (s : State) (k : CoreId) (serial check : Nat) : State :=
  s.modFurrow k serial (fun f => { f with failed := true, check := check })

/-! ### Completion (R201, R202, R94) -/

/-- The ring slot of the next record of a furrow (R202), and the state after taking it. -/
def State.takeRing (s : State) (k : CoreId) (serial : Nat) : Nat × State :=
  match s.furrow? k serial with
  | some f =>
    match f.ringHeld with
    | n :: t => (n, s.modFurrow k serial (fun f => { f with ringHeld := t, ring := n :: f.ring }))
    | [] =>
      let n := (s.slot k).ringTaken
      let s := s.modSlot k (fun x => { x with ringTaken := n + 1 })
      (n, s.modFurrow k serial (fun f => { f with ring := n :: f.ring }))
  | none =>
    let n := (s.slot k).ringTaken
    (n, s.modSlot k (fun x => { x with ringTaken := n + 1 }))

/-- The completion record of Table 7-7. -/
def cmpWords (s : State) (k : CoreId) (engine : Nat) (f : Flight) : List W64 :=
  let fu := s.furrow? k f.q.serial
  let d := f.q.desc
  [ pack [(0, 8, fld d.w0 0 8), (8, 8, f.status), (16, 8, f.exc.toNat), (24, 2, engine), (26, 1, fld d.w0 8 1), (32, 8, fld d.w0 16 8),
      (40, 3, (s.core k).slot), (48, 16, (fu.map (·.id)).getD (s.core k).furrowId)],
    pack [(0, 16, fld d.w0 32 16), (16, 16, fld d.w0 48 16), (32, 32, f.seq)],
    BitVec.ofNat 64 f.tDeq, BitVec.ofNat 64 s.stamp ]

/-- Write a command's completion record, if the ring is set, and copy it into the trace (R201, R474). -/
def State.cmpRecord (s : State) (k : CoreId) (engine : Nat) (f : Flight) : State :=
  let ws := cmpWords s k engine f
  let layer := fld f.q.desc.w0 32 16
  let s := if s.rdB telB F.TRACE_CFG_CMD_EN && s.traced k && s.rd telB F.TRACE_LAYER_LO ≤ layer && layer ≤ s.rd telB F.TRACE_LAYER_HI
    then s.tracePut (traceHdr 3 k.plot.val k.slot.val s.stamp ++ ws) else s
  let sz := s.rd (slotB k) F.CMP_RING_SIZE_LOG2
  if sz = 0 then s
  else
    let t := s.takeRing k f.q.serial
    let a := lineAddr k.plot.val (s.rd (slotB k) F.CMP_RING_BASE) + 32 * (t.1 % 2 ^ sz)
    (t.2.writeOpen (.furrow k f.q.serial) k.slot.val a (ws.flatMap wordBytes)).2

/-- A command of a furrow is over: one fewer that FEND waits for (R165). -/
def State.cmdDone (s : State) (k : CoreId) (serial : Nat) : State :=
  s.modFurrow k serial (fun f => { f with cmds := f.cmds - 1 })

/-- The signal of an engine's command as its table holds it: one for the command's own cluster names the command, for the halt of an overflow (R193). -/
def State.heldOf (s : State) (k : CoreId) (source : Nat) (q : QEntry) : Held :=
  { sigOf q.desc (.furrow k q.serial) (s.clusterSender k 0 1) with own := if s.sigTarget k q.desc = some k then some (source, q) else none }

/-- Make the signal of a command's header on completion (R181, R194): 0b01 at once, 0b10 and local 0b11 held, remote 0b11 travels with the packet. -/
def State.signal (s : State) (k : CoreId) (source : Nat) (q : QEntry) : State :=
  let tok := fld q.desc.w1 24 6
  let n := fld q.desc.w1 32 16
  match fld q.desc.w1 30 2 with
  | 0 => s
  | 1 => s.addTok k tok n (fun s => s.haltCmd k 0x07 source q) |> fun s' => if s'.tok k tok = s.tok k tok + n then s'.noteTok k q.serial tok n else s'
  | _ => s.holdFor k q.desc (s.heldOf k source q)

/-- Fold a command's sticky word into EXC_SUMMARY (R94). -/
def State.stickyAdd (s : State) (k : CoreId) (e : BitVec 8) : State :=
  s.wr (slotB k) F.EXC_SUMMARY_STICKY (s.rd (slotB k) F.EXC_SUMMARY_STICKY ||| e.toNat)

/-- A capture of this very clk by the vector engine gives way to a matrix event (R94). -/
def State.captureYields (s : State) (k : CoreId) (vector : Bool) : Bool :=
  !vector && s.rdB (slotB k) F.EXC_SUMMARY_CAPTURED && s.rd (slotB k) F.EXC_SUMMARY_ENGINE = 1 && s.rd (slotB k) F.EXC_FIRST_TIME_STAMP = s.stamp

/-- The first-occurrence capture (R94, R96): an element whose flags meet the mask while nothing is captured, or a matrix event in the clk of a vector event's capture.
Elements of one command come here in the order of their index (R94). -/
def State.capture (s : State) (k : CoreId) (vector : Bool) (flags : BitVec 8) (d : Desc) (reg elem row col : Nat) : State :=
  let b := slotB k
  if (s.rdB b F.EXC_SUMMARY_CAPTURED && !s.captureYields k vector) || (flags.toNat &&& s.rd b F.EXC_CFG_CAPTURE_MASK) = 0 then s
  else
    let s := ((s.wr b F.EXC_SUMMARY_CAPTURED 1).wr b F.EXC_SUMMARY_CAPTURED_FLAGS flags.toNat).wr b F.EXC_SUMMARY_ENGINE (b2n vector)
    let s := ((s.wr b F.EXC_FIRST_ID_LAYER_ID (fld d.w0 32 16)).wr b F.EXC_FIRST_ID_OPERATOR_ID (fld d.w0 48 16)).wr b F.EXC_FIRST_ID_REG reg
    let s := (s.wr b F.EXC_FIRST_ID_EPOCH (fld d.w0 16 8)).wr b F.EXC_FIRST_POS_ELEMENT elem
    ((s.wr b F.EXC_FIRST_POS_ROW row).wr b F.EXC_FIRST_POS_COLUMN col).wr b F.EXC_FIRST_TIME_STAMP s.stamp

/-! ### The passing of time (R31, R43) -/

/-- The regions whose edges are counted: a cluster slot by its key, the three ports of a link die, and the routers with the collectives. -/
def linkRegion (port : Nat) : Nat := 1000 + port / 3
def routerRegion : Nat := 1004
def State.regions (s : State) : List Nat := s.slots.map (·.1) ++ (List.range 5).map (· + 1000)

/-- Clk since the last drop in a region, as far as R43 looks: fifteen or fewer. -/
def State.credit (s : State) (r : Nat) : Nat := min 15 (s.stretchCredit.get 15 r)

/-- Edges that the droop controller drops in a region while `n` reference clk pass: at most one clk in any sixteen (R43), each region for itself. How many is a
free value. -/
def State.drops (s : State) (n r : Nat) : Nat := min (Config.droppedEdges r s.draws) ((s.credit r + n) / 16)

/-- A slot in which nothing runs: its clock may be gated (R60). -/
def Slot.idle (x : Slot) : Bool :=
  (x.core.halted || (match x.core.wait with | .pass _ _ => true | .fbegin _ => true | _ => false)) &&
    x.matPipe.isEmpty && x.dmPipe.isEmpty && x.vrun.isNone && x.vtail.isEmpty

/-- Engine edges of a region in `n` reference clk, at a draw: the clk, less the drops, less those that gating holds back in an idle slot (R43, R60). -/
def State.regionEdges (s : State) (n r : Nat) : Nat :=
  let e := n - s.drops n r
  if r < 1000 && (s.slots.get {} r).idle then e - min e (Config.gatedEdges r s.draws) else e

/-- `n` reference clk have passed in every region. -/
def State.stretched (s : State) (n : Nat) : State :=
  { s with
    stretchCredit := s.regions.foldl (fun (m : SMap Nat) r => m.insert r (min 15 (s.credit r + n - 16 * s.drops n r))) s.stretchCredit
    draws := s.draws + 1 }

/-- Add to a count of stall edges those of the last `n`: how many they are is timing (log 40). -/
def State.stallAdd (s : State) (b : Nat) (f : Field) (n : Nat) : State :=
  s.wrapAdd b f (Config.stallCount (fkey b f 0) s.fieldCount % (n + 1))

/-- Does a signal wait for an entry of a slot's full table (R196): a delivered packet's, or that of a command, of this module or of a host, which is done otherwise? -/
def State.signalKnocks (s : State) (k : CoreId) : Bool :=
  let packet := fun e : Ejected => fld e.pkt.w2 39 1 = 1 && s.physOf (fld e.pkt.w2 46 9) = some k
  let dest := fun (own : CoreId) (d : Desc) => s.sigTarget own d = some k
  let flight := fun (own : CoreId) (f : Flight) => f.done && f.status ≠ 1 && !f.mute && dest own f.q.desc
  let unit := fun r : UnitRun => dest r.p.poster r.p.desc
  let qp := fun x : Qp => (x.entries.find? (fun e => !e.done)).any (fun e => e.fetched && fld e.desc.w0 0 8 = 3 && s.physOf (fld e.desc.w4 16 9) = some k)
  s.fab.ejected.any packet ||
  s.slots.any (fun e : Nat × Slot => e.2.matPipe.head?.any (flight (coreOf e.1)) || e.2.dmPipe.head?.any (flight (coreOf e.1)) ||
    e.2.vtail.head?.any (fun r => dest (coreOf e.1) r.f.q.desc)) ||
  s.bins.any (fun e : Nat × BinUnit => e.2.run.any unit) || s.drills.any (fun e : Nat × DrillUnit => e.2.run.any unit) ||
  s.host.posted.any (fun x => fld x.q.desc.w4 0 32 * fld x.q.desc.w4 32 16 ≤ x.next && dest x.issuer x.q.desc) ||
  s.host.qps.any (fun e : Nat × Qp => qp e.2)

/-- The counters of one slot that count engine edges (CORE_EDGES, CORE_STALL, CORE_FURROWS, HEAD_WAIT, DM_WAIT, MAT_EDGES, MAT_STALL, VEC_EDGES, VEC_STALL, VEC_STRICT). -/
def State.slotEdges (edges : Nat → Nat) (s : State) (k : CoreId) : State :=
  let n := edges k.key
  let x := s.slot k
  let b := slotB k
  let ready := fun q : QEntry => fld q.desc.w1 6 1 = 0 || decide (fld q.desc.w1 8 16 ≤ (x.tok.get 0 (fld q.desc.w1 0 6)).toNat)
  let noHead := fun q : List QEntry => q ≠ [] &&
    !(((q.find? (fun e => fld e.desc.w0 8 1 = 0)).any ready) || ((q.find? (fun e => fld e.desc.w0 8 1 = 1)).any ready))
  let s := if x.core.halted then s else s.wrapAdd b F.CORE_EDGES_RUN n
  let s := match x.core.wait with
    | .issue _ _ => s.wrapAdd b F.CORE_STALL_QUEUE_FULL n
    | .token _ _ => s.wrapAdd b F.CORE_STALL_TOKEN_WAIT n
    | .fend => s.wrapAdd b F.CORE_FURROWS_FEND_WAIT n
    | _ => s
  let s := if noHead x.matQ then s.wrapAdd b F.HEAD_WAIT_MAT n else s
  let s := if noHead x.vecQ then s.wrapAdd b F.HEAD_WAIT_VEC n else s
  let waits := fun c : Nat => x.dmPipe.any (fun f => f.waiting && decide (fld f.q.desc.w0 0 8 = c))
  let s := if noHead x.dmQ || x.dmPipe.any (fun f => f.waiting && fld f.q.desc.w0 0 8 ≠ 0x16 && fld f.q.desc.w0 0 8 ≠ 0x17) then s.wrapAdd b F.DM_WAIT_DM n else s
  let s := if waits 0x16 then s.wrapAdd b F.WR_WAIT_PUSH_WAIT n else s
  let s := if waits 0x17 then s.wrapAdd b F.WR_WAIT_POP_WAIT n else s
  let s := if 128 ≤ x.held.length && s.signalKnocks k then s.wrapAdd b F.HELD_STAT_BACKPRESSURE n else s
  let s := if x.matPipe.any (fun f => !f.done) then (s.wrapAdd b F.MAT_EDGES_BUSY n).stallAdd b F.MAT_STALL_TILE_STALL n else s
  match x.vrun.or x.vtail.head? with
  | some r =>
    let s := ((s.wrapAdd b F.VEC_EDGES_BUSY n).stallAdd b F.VEC_STALL_DEP_STALL n).stallAdd b F.VEC_STALL_PIPE_STALL n
    if r.strict then s.wrapAdd b F.VEC_STRICT_STRICT_EDGES n else s
  | none => s

/-- A CGATHER sender that holds chunks for want of a grant counts every edge (GATHER_STAT.GRANT_WAIT). -/
def State.gatherEdges (s : State) (n : Nat) : State :=
  let waits := fun o : CollOp => fld o.desc.w0 0 8 = 0x1C && o.started && o.complete.isNone && fld o.desc.w3 48 6 ≠ o.pos
  if s.coll.chans.any (fun e => e.2.ops.any waits) then s.wrapAdd collB F.GATHER_STAT_GRANT_WAIT n else s

/-- Edges on which the Barn's queues withheld credit: how many they are is timing, and there are none before the Barn serves requests (R252, log 40). -/
def State.barnEdges (s : State) (n : Nat) : State :=
  if s.boot.barnFilled then s.stallAdd barnB F.BARN_QSTAT_BACKPRESSURE n else s

/-- The router's edge count under throttling (R313). -/
def State.routerEdges (s : State) (n : Nat) : State :=
  if s.rd routeB F.THROTTLE_STAT_ACTIVE ≠ 0 then s.wrapAdd routeB F.THROTTLE_STAT_THROTTLED n else s

/-- The ports' edge counts: a queue whose head frame waits, and one that waits for credit (PT_Q.STALL, PORT_VC.NO_CREDIT). A frame leaves only by a
FRAME_TRANSMIT, so every edge that passes meanwhile is one of waiting. -/
def State.portEdges (edges : Nat → Nat) (s : State) (e : Nat × PortSt) : State :=
  let n := edges (linkRegion e.1)
  (List.range 8).foldl (fun s v =>
    if !e.2.outQ.any (fun o => o.vc = v) then s
    else
      let s := s.wrapAdd (portB e.1) F.PT_Q_STALL n v
      if s.rd (portB e.1) F.PORT_VC_HELD v = 0 then s.wrapAdd (portB e.1) F.PORT_VC_NO_CREDIT n v else s) s

/-- The test block's checkers compare 224 Gb/s on every locked lane; how many of the bits are in error is the link's own condition (R492, log 40). -/
def State.checkerEdges (n : Nat) (s : State) (p : Nat) : State :=
  let b := portB p
  if !s.rdB b F.PT_TEST_TEST_EN then s
  else
    (List.range 9).foldl (fun s k =>
      if s.rdB b F.PT_ERR_LOCK k && tb (s.rd b F.PT_TEST_CHK_LANES) k then
        let bits := 448 * s.fieldCount / 3 - 448 * (s.fieldCount - n) / 3
        (s.satAdd b F.PT_BITS_BITS bits k).satAdd b F.PT_ERR_ERRORS (Config.stallCount (fkey b F.PT_ERR_ERRORS k) s.fieldCount % (bits + 1)) k
      else s) s

/-- `n` reference clk pass. -/
def State.elapse (s : State) (n : Nat) : State :=
  if n = 0 then s
  else
    let e := s.regionEdges n
    let s := { (s.stretched n) with fieldCount := s.fieldCount + n }
    let s := s.fab.ports.foldl (State.portEdges e) s
    let s := (List.range 12).foldl (State.checkerEdges n) s
    (((s.allSlots.foldl (State.slotEdges e) s).routerEdges (e routerRegion)).gatherEdges (e routerRegion)).barnEdges n

/-- Carry the field counter forward to a count not before now. -/
def State.runTo (s : State) (t : Nat) : State := s.elapse (t - s.fieldCount)

end Sys2Proof.Machine
end

