-- ==== Sys2Proof/Machine/Operands.lean ====
section
/-! DEFINITION. The operand forms: immediates of the control core, bodies of the descriptors. -/

namespace Sys2Proof

/-- IMM14 sign-extended (R159). -/
def IForm.sext (i : IForm) : W64 := i.imm.signExtend 64
/-- IMM14 zero-extended. -/
def IForm.zext (i : IForm) : W64 := i.imm.setWidth 64
/-- IMM14[13:6] is zero (Table 6-2). -/
def IForm.shiftOk (i : IForm) : Bool := i.imm.toNat < 64
/-- The reserved bits of the T format are zero and the count is not (Table 6-1, Table 6-2). -/
def TForm.ok (f : TForm) : Bool := f.rsv = 0 && f.count ≠ 0

end Sys2Proof

namespace Sys2Proof.Machine

/-! ### The descriptor header (Table 7-1) -/

def Desc.code (d : Desc) : Nat := fld d.w0 0 8
def Desc.phase (d : Desc) : Nat := fld d.w0 8 1
def Desc.epoch (d : Desc) : Nat := fld d.w0 16 8
def Desc.layer (d : Desc) : Nat := fld d.w0 32 16
def Desc.oper (d : Desc) : Nat := fld d.w0 48 16
def Desc.waitTok (d : Desc) : Nat := fld d.w1 0 6
def Desc.waitEn (d : Desc) : Bool := tb d.w1.toNat 6
def Desc.waitCount (d : Desc) : Nat := fld d.w1 8 16
def Desc.sigTok (d : Desc) : Nat := fld d.w1 24 6
def Desc.sigScope (d : Desc) : Nat := fld d.w1 30 2
def Desc.sigCount (d : Desc) : Nat := fld d.w1 32 16
def Desc.sigCluster (d : Desc) : Nat := fld d.w1 48 9

/-- The bits of a word outside its fields, given as (lowest bit, width), are zero. -/
def onlyFields (w : W64) (fs : List (Nat × Nat)) : Bool :=
  w &&& ~~~ (pack (fs.map (fun f => (f.1, f.2, 2 ^ f.2 - 1)))) = 0

/-- The header's part of check 2 (Table 7-6): reserved bits zero, a count where a wait or a signal asks for one. -/
def Desc.headerOk (d : Desc) : Bool :=
  onlyFields d.w0 [(0, 9), (16, 8), (32, 32)] && onlyFields d.w1 [(0, 7), (8, 49)] &&
  (!d.waitEn || d.waitCount ≠ 0) && (d.sigScope = 0 || d.sigCount ≠ 0)

/-! ### Data-mover bodies (Table 7-5) -/

def Desc.srcDev (d : Desc) : Nat := fld d.w2 48 16
def Desc.src (d : Desc) : Nat := fld d.w2 0 48
def Desc.dstDev (d : Desc) : Nat := fld d.w3 48 16
def Desc.dst (d : Desc) : Nat := fld d.w3 0 48
def Desc.rowBytes (d : Desc) : Nat := fld d.w4 0 32
def Desc.mRows (d : Desc) : Nat := fld d.w4 32 16
def Desc.stream (d : Desc) : Nat := fld d.w4 48 12
def Desc.srcStride (d : Desc) : Int := sx (fld d.w5 0 32) 32
def Desc.dstStride (d : Desc) : Int := sx (fld d.w5 32 32) 32
/-- Bytes of all rows. -/
def Desc.total (d : Desc) : Nat := d.mRows * d.rowBytes
/-- Start of row `i` from a base with a stride, modulo the 48 bits of a local address. -/
def rowAt (base : Nat) (stride : Int) (i : Nat) : Nat := (((base : Int) + stride * i) % (2 ^ 48 : Nat)).toNat

/-! ### Matrix bodies (Table 7-3) -/

def Desc.tile (d : Desc) : Nat := fld d.w2 0 4
def Desc.acc (d : Desc) : Bool := tb d.w2.toNat 4
def Desc.epi (d : Desc) : Bool := tb d.w2.toNat 5
def Desc.ta (d : Desc) : Bool := tb d.w2.toNat 6
def Desc.tb (d : Desc) : Bool := Machine.tb d.w2.toNat 7
def Desc.row0 (d : Desc) : Nat := fld d.w2 8 8
def Desc.rows (d : Desc) : Nat := fld d.w2 16 8 + 1
def Desc.cols (d : Desc) : Nat := fld d.w2 24 6 + 1
def Desc.kBlocks (d : Desc) : Nat := fld d.w2 40 10 + 1
def Desc.fmtA (d : Desc) : Nat := fld d.w2 32 4
def Desc.fmtB (d : Desc) : Nat := fld d.w2 36 4
def Desc.epb (d : Desc) : Nat := fld d.w3 42 21
def Desc.aBase (d : Desc) : Nat := fld d.w3 0 21
def Desc.aStride (d : Desc) : Nat := fld d.w5 0 16

/-- One operand of an MMUL: format, bases and strides in lines, transposed or not, tensor scale. -/
structure MatOperand where
  fmt : Nat
  base : Nat
  sbase : Nat
  stride : Nat
  sstride : Nat
  trans : Bool
  scale : Nat
deriving DecidableEq, Repr

def Desc.opA (d : Desc) : MatOperand :=
  ⟨d.fmtA, fld d.w3 0 21, fld d.w3 21 21, fld d.w5 0 16, fld d.w5 16 16, d.ta, fld d.w6 0 32⟩
def Desc.opB (d : Desc) : MatOperand :=
  ⟨d.fmtB, fld d.w4 0 21, fld d.w4 21 21, fld d.w5 32 16, fld d.w5 48 16, d.tb, fld d.w6 32 32⟩

/-- The epilogue group of a MOUT or of an epilogue block. -/
structure Epi where
  target : Nat
  mode : Nat
  rule : Nat
  cVec : Bool
  dVec : Bool
  oBase : Nat
  oSBase : Nat
  oStride : Nat
  oSStride : Nat
  c : Nat
  d : Nat
  lo : Nat
  hi : Nat
deriving DecidableEq, Repr

def Desc.epiGroup (d : Desc) : Epi :=
  { target := fld d.w2 32 2, mode := fld d.w2 36 3, rule := fld d.w2 39 1, cVec := Machine.tb d.w2.toNat 40, dVec := Machine.tb d.w2.toNat 41
    oBase := fld d.w3 0 21, oSBase := fld d.w3 21 21, oStride := fld d.w4 0 16, oSStride := fld d.w4 16 16
    c := fld d.w5 0 32, d := fld d.w5 32 32, lo := fld d.w6 0 32, hi := fld d.w6 32 32 }

/-- A plain operand uses no scale array: its SBASE and SSTRIDE are zero (R184). -/
def MatOperand.unusedOk (o : MatOperand) : Bool := o.fmt < 3 || (o.sbase = 0 && o.sstride = 0)

/-- The reserved bits of an MMUL body are zero, and so are the fields that it does not use: EPB without an epilogue, the scale array of a plain operand. SCALE_A
and SCALE_B are not among them: Table 4-3 has them ignored where they do not act (log 134). -/
def Desc.mmulFieldsOk (d : Desc) : Bool :=
  onlyFields d.w2 [(0, 30), (32, 18)] && onlyFields d.w3 [(0, 63)] && onlyFields d.w4 [(0, 42)] && d.w7 = 0 &&
  (d.epi || d.epb = 0) && d.opA.unusedOk && d.opB.unusedOk

/-- An output without scales uses no scale array and no scale rule: the three fields are zero (R184, log 134). -/
def Epi.unusedOk (g : Epi) : Bool := 2 ≤ g.target || (g.oSBase = 0 && g.oSStride = 0 && g.rule = 0)

/-- The reserved bits of a MOUT body or epilogue block are zero, and so are the fields that its target does not use. -/
def Desc.moutFieldsOk (d : Desc) : Bool :=
  onlyFields d.w2 [(0, 4), (8, 22), (32, 2), (36, 6)] && onlyFields d.w3 [(0, 42)] && onlyFields d.w4 [(0, 32)] && d.w7 = 0 &&
  d.epiGroup.unusedOk

/-- TSAVE and TLOAD use TILE, ROW0, M_1, A_BASE and A_STRIDE, TZERO the first three; every other body field is zero (R184). -/
def Desc.tileFieldsOk (d : Desc) (addressed : Bool) : Bool :=
  onlyFields d.w2 [(0, 4), (8, 16)] && d.w4 = 0 && d.w6 = 0 && d.w7 = 0 &&
  (if addressed then onlyFields d.w3 [(0, 21)] && onlyFields d.w5 [(0, 16)] else d.w3 = 0 && d.w5 = 0)

end Sys2Proof.Machine
end

