-- ==== Sys2Proof/Machine/Engine.lean ====
section
/-! DEFINITION. What the three engines share (chapter 7): the ready head and the checks at dequeue, reads held on open extents,
the stochastic draws, completion. -/

namespace Sys2Proof.Machine

/-- Number of an engine in records and halt sources is its number plus one (Table 6-8, Table 7-7). -/
def engineNo : Engine → Nat
  | .matrix => 0
  | .vector => 1
  | .dataMover => 2

/-- The queue of an engine, by number. -/
def Slot.queue (x : Slot) (q : Nat) : List QEntry := if q = 0 then x.matQ else if q = 1 then x.vecQ else x.dmQ

/-- Is a head ready (R190), with what is left of each token? -/
def QEntry.ready (left : Nat → Nat) (q : QEntry) : Bool := !q.desc.waitEn || decide (q.desc.waitCount ≤ left q.desc.waitTok)

/-- The head that the engine takes: the older of the ready heads of the two phases, and whether an older one of the other phase is passed over
(R190). -/
def readyHead (left : Nat → Nat) (q : List QEntry) : Option (QEntry × Bool) :=
  let fwd := q.find? (fun e => e.desc.phase = 0)
  let bwd := q.find? (fun e => e.desc.phase = 1)
  let ready := fun o : Option QEntry => o.filter (QEntry.ready left)
  match ready fwd, ready bwd with
  | some a, some b => if a.order < b.order then some (a, false) else some (b, false)
  | some a, none => some (a, bwd.any (fun b => b.order < a.order))
  | none, some b => some (b, fwd.any (fun a => a.order < b.order))
  | none, none => none

/-- Can the engine take a command: at most 8 past dequeue, and one VEXEC at a time (R108, R130, R192)? -/
def Slot.engineRoom (x : Slot) (e : Engine) : Bool :=
  match e with
  | .matrix => decide (x.matPipe.length < 8)
  | .vector => x.vrun.isNone
  | .dataMover => decide (x.dmPipe.length < 8)

/-- What an engine's head leaves of each token, if the engine can take a command and the head is ready. -/
def State.afterHead (s : State) (k : CoreId) (e : Engine) (left : Nat → Nat) : Nat → Nat :=
  match if s.slotLive k && (s.slot k).engineRoom e then readyHead left ((s.slot k).queue (engineNo e)) else none with
  | some (h, _) => fun t => if h.desc.waitEn && h.desc.waitTok = t then left t - h.desc.waitCount else left t
  | none => left

/-- What the earlier waiters of a clk leave of each token for an engine: matrix, vector and data-mover head are served in this order (R193). -/
def State.leftFor (s : State) (k : CoreId) (e : Engine) : Nat → Nat :=
  match e with
  | .matrix => s.tok k
  | .vector => s.afterHead k .matrix (s.tok k)
  | .dataMover => s.afterHead k .vector (s.afterHead k .matrix (s.tok k))

/-- What the engines' heads leave of each token for the core's TWAIT (R193). -/
def State.leftForCore (s : State) (k : CoreId) : Nat → Nat := s.afterHead k .dataMover (s.leftFor k .dataMover)

/-- What the checks of Table 7-6 decide. -/
inductive Checked where
  | ok
  | stale
  | halt (code : Nat)
deriving DecidableEq, Repr

/-- The first of the checks that fails decides (R188). `codeOk` is check 1; `bodyOk` the body's part of check 2; `fallow` holds when check 4
fails; `aligned` is check 5 and `extents` check 6. -/
def State.checks (s : State) (k : CoreId) (d : Desc) (codeOk bodyOk fallow aligned extents : Bool) : Checked :=
  if !codeOk then .halt 0x08
  else if !(d.headerOk && bodyOk) then .halt 0x08
  else if !(s.slot k).accepts d.epoch then .stale
  else if fallow then .halt 0x06
  else if !aligned then .halt 0x03
  else if !extents then .halt 0x04
  else .ok

/-- Scope 0b11 names a cluster of this module that is not active (check 4). -/
def State.sigFallow (s : State) (d : Desc) : Bool := d.sigScope = 3 && (s.physOf d.sigCluster).isNone

/-- Take a descriptor's wait (R193). -/
def State.takeWait (s : State) (k : CoreId) (q : QEntry) : State :=
  if q.desc.waitEn then
    (s.setTok k q.desc.waitTok (s.tok k q.desc.waitTok - q.desc.waitCount)).noteTok k q.serial q.desc.waitTok (-(q.desc.waitCount : Int))
  else s

/-! ### Reads of a furrow -/

/-- The first of some ranges that an open extent of someone else touches (R57). -/
def State.firstBlocked (s : State) (o : Owner) (rs : List (Nat × Nat)) : Option (Nat × Nat) :=
  rs.find? (fun r => s.blocked (some o) r.1 r.2)

/-- Count a read that begins to be held (HOLD_COUNT.HELD_READS). -/
def State.countHeld (s : State) : State := s.satAdd seqB F.HOLD_COUNT_HELD_READS 1

/-- Read several ranges for a furrow of slot `k`: the worst response and the bytes of each. -/
def State.readRanges (s : State) (rq : Nat) (rs : List (Nat × Nat)) (c : Cause := {}) : Nat × List (List Byte) × State :=
  rs.foldl (fun acc r =>
    let t := acc.2.2.memRead true false rq r.1 r.2 c
    (if acc.1 = rOK then t.1 else acc.1, acc.2.1 ++ [t.2.1], t.2.2)) (rOK, [], s)

/-! ### The stochastic generator (R87, R88) -/

/-- `n` draws of a slot's generator. -/
def State.srDraws (s : State) (k : CoreId) (n : Nat) : List Nat × State :=
  let x := s.slot k
  let seed := BitVec.ofNat 64 (s.rd (slotB k) F.SR_SEED_SEED)
  ((List.range n).map (fun i => (Config.srDraw seed (x.genDraws + i)).toNat), s.setSlot k { x with genDraws := x.genDraws + n })

/-- Draws for `n` elements where the mode is stochastic, zeros otherwise. Draw i is for the i-th element of the command or instruction, row by row or by
lane (log 125). -/
def State.drawsFor (s : State) (k : CoreId) (mode n : Nat) : List Nat × State :=
  if mode = 5 then s.srDraws k n else (List.replicate n 0, s)

/-! ### Completion -/

/-- The record, the sticky word, the signal and the count of a command that completes (R94, R181, R201). A command stopped by a late check
halts the core instead. -/
def State.complete (s : State) (k : CoreId) (e : Engine) (f : Flight) : State :=
  let n := engineNo e
  let s := (s.cmpRecord k n f).stickyAdd k f.exc
  let s := if f.status = 1 || f.mute then s else s.signal k (n + 1) f.q
  s.cmdDone k f.q.serial

/-- A command that is otherwise done waits to complete: its signal would find the table full, and its sender stalls (R196). -/
def State.signalStalls (s : State) (k : CoreId) (e : Engine) (f : Flight) : Bool :=
  f.status ≠ 1 && !f.mute && s.sigWaits k f.q.desc (s.heldOf k (engineNo e + 1) f.q)

/-- What an error record carries of a command (R182). -/
def State.flightCause (s : State) (k : CoreId) (f : Flight) : Cause := causeOf f.q.desc (((s.furrow? k f.q.serial).map (·.id)).getD (s.core k).furrowId)

/-- The command at fault is discarded and its core halts (R174, R188). -/
def State.faultCmd (s : State) (k : CoreId) (e : Engine) (q : QEntry) (code : Nat) : State :=
  (s.cmdDone k q.serial).haltCmd k code (engineNo e + 1) q

end Sys2Proof.Machine

namespace Sys2Proof.Machine

/-- Lines of the slot's own plot as a local range. -/
def ownRange (k : CoreId) (line n : Nat) : Nat × Nat := (lineAddr k.plot.val line, n)

/-- The span of strided rows: first byte, and length to the last byte of the last row. -/
def rowSpan (k : CoreId) (line rows stride n : Nat) : Nat × Nat :=
  (lineAddr k.plot.val line, (rows - 1) * stride * 64 + n)

/-- The rows themselves. -/
def rowRanges (k : CoreId) (line rows stride n : Nat) : List (Nat × Nat) :=
  (List.range rows).map (fun i => (lineAddr k.plot.val line + i * stride * 64, n))

/-- Does a range lie wholly in the slot's own plot? -/
def ownPlot (k : CoreId) (r : Nat × Nat) : Bool :=
  decide (lineAddr k.plot.val 0 ≤ r.1) && decide (r.1 + r.2 ≤ lineAddr k.plot.val 0x20_0000)

/-- The partition that holds the slot's plot covers a range. -/
def State.inOwnPart (s : State) (k : CoreId) (r : Nat × Nat) : Bool :=
  match s.partOf k.plot.val with
  | some q => s.inPart q r.1 r.2
  | none => false

/-- The two rules for extents that must lie in the own plot (R113, R229): 0x08 inside the partition but not the plot, 0x04 outside the
partition; 0 when neither holds. -/
def State.plotRule (s : State) (k : CoreId) (rs : List (Nat × Nat)) : Nat :=
  if rs.any (fun r => s.inOwnPart k r && !ownPlot k r) then 0x08
  else if rs.any (fun r => !s.inOwnPart k r) then 0x04
  else 0

/-- A command's writes: each range lands and is open; a write refused as UNCORRECTABLE fails the furrow as a read would (R208, R213). -/
def State.furrowWrite (s : State) (k : CoreId) (f : Flight) (a : Nat) (bs : List Byte) : State :=
  let r := s.writeOpen (.furrow k f.q.serial) k.slot.val a bs (s.flightCause k f)
  if r.1 = rOK then r.2 else r.2.readFail k f.q.serial 6

/-- Replace the first flight that satisfies a test. -/
def State.modFlight (s : State) (k : CoreId) (e : Engine) (t : Flight → Bool) (g : Flight → Flight) : State :=
  s.modSlot k (fun x =>
    match e with
    | .matrix => { x with matPipe := modFirst t g x.matPipe }
    | .dataMover => { x with dmPipe := modFirst t g x.dmPipe }
    | .vector => x)

/-- The reads of a flight: held when an open extent of someone else is touched (counted once), else done. `use` gets the response, the bytes and
the state; a read once denied, or met by an error response, leaves NOT_COMMITTED or the response (R57, R213). -/
def State.flightRead (s : State) (k : CoreId) (e : Engine) (f : Flight) (rs : List (Nat × Nat))
    (use : Nat → List (List Byte) → State → State) : State :=
  if f.denied then use rNOT_COMMITTED (rs.map (fun r => List.replicate r.2 0)) s
  else
    match s.firstBlocked (.furrow k f.q.serial) rs with
    | some r =>
      let s := if f.heldOn.isSome then s else s.countHeld
      s.modFlight k e (fun g => g.seq = f.seq) (fun g => { g with heldOn := some r })
    | none =>
      let t := s.readRanges k.slot.val rs (s.flightCause k f)
      let s := if t.1 = rUNCORRECTABLE then t.2.2.readFail k f.q.serial 6 else t.2.2
      use t.1 t.2.1 s

end Sys2Proof.Machine
end

