-- ==== Sys2Proof/Machine/Posted.lean ====
section
/-! DEFINITION. What the Bin units and the Drill share: posted descriptors, their halts, reads of a unit. -/

namespace Sys2Proof.Machine

/-- Keys of units other than cluster slots in the list of coming self-checks (R441). -/
def binCheckKey (b : BinId) : Nat := 1000 + b.key
def drillCheckKey (p : Nat) : Nat := 2000 + p
def harrowCheckKey (n : Nat) : Nat := 3000 + n

/-- Note that a unit runs its self-check in the coming guard. -/
def State.wantCheck (s : State) (key : Nat) : State :=
  if s.obs.selfCheck.contains key then s else { s with obs.selfCheck := s.obs.selfCheck ++ [key] }

/-- A failure of a posted descriptor halts the posting core: source data mover, the DPOST's ISSUE as halt address (R229, R365). -/
def State.haltPosted (s : State) (p : Posted) (code : Nat) : State :=
  s.halt p.poster code 3 p.bank p.pc p.desc.code (causeOf p.desc p.furrowId)

/-- The signal of a Bin or Drill command as it is held (R194). -/
def State.postedHeld (s : State) (p : Posted) (o : Owner) (unit kind : Nat) : Held := sigOf p.desc o (s.clusterSender p.poster unit kind)

/-- The signal of a Bin or Drill command: held for the posting cluster (0b10) or SIG_CLUSTER (0b11), under the identity of an owner. -/
def State.postedSignal (s : State) (p : Posted) (o : Owner) (unit kind : Nat) : State := s.holdFor p.poster p.desc (s.postedHeld p o unit kind)

/-- The command in a unit's hand waits: its signal would find the table full (R196). -/
def State.postedWaits (s : State) (p : Posted) (o : Owner) (unit kind : Nat) : Bool := s.sigWaits p.poster p.desc (s.postedHeld p o unit kind)

/-- What an error record carries of a posted command (R182). -/
def Posted.cause (p : Posted) : Cause := causeOf p.desc p.furrowId

/-- Does a range of plot `p` lie inside it? -/
def inPlot (p : Nat) (r : Nat × Nat) : Bool := decide (lineAddr p 0 ≤ r.1) && decide (r.1 + r.2 ≤ lineAddr p 0x20_0000)

/-- Is a range inside the partition that holds plot `p`? -/
def State.inPlotPart (s : State) (p : Nat) (r : Nat × Nat) : Bool :=
  match s.partOf p with
  | some q => s.inPart q r.1 r.2
  | none => false

/-- An extent of a unit's command lies in its own plot, or outside the partition, which is check 6's finding and not check 2's (R113, R229, R365). -/
def State.unitPlotOk (s : State) (p : Nat) (r : Nat × Nat) : Bool := inPlot p r || !s.inPlotPart p r

/-- A write of a unit's furrow: the response, and the state with the range open. -/
def State.unitWrite (s : State) (o : Owner) (rq a : Nat) (bs : List Byte) (c : Cause := {}) : Nat × State := s.writeOpen o rq a bs c

/-- Several writes; the first error response stands. -/
def State.unitWrites (s : State) (o : Owner) (rq : Nat) (ws : List (Nat × List Byte)) (c : Cause := {}) : Nat × State :=
  ws.foldl (fun acc w => let r := acc.2.unitWrite o rq w.1 w.2 c; (if acc.1 = rOK then r.1 else acc.1, r.2)) (rOK, s)

/-- The bytes of some reads, those of a read that was denied as zeros: an error response returns zero data (R57, R256). -/
def deniedZero (denied : Bool) (held : Option (Nat × Nat)) (rs : List (Nat × Nat)) (rows : List (List Byte)) : List (List Byte) :=
  if denied then (rs.zip rows).map (fun e => if some e.1 = held then List.replicate e.1.2 0 else e.2) else rows

end Sys2Proof.Machine
end

