-- ==== Sys2Proof/Machine/SoftFloat.lean ====
section
/-! DEFINITION. Exact arithmetic on the floating-point formats of Table 3-1, with the one rounding of each operation (chapter 3).
A value is exact until it is rounded: a sign, a natural number and a power of two. -/

namespace Sys2Proof.Machine

/-- A floating-point format: precision with the hidden bit, and exponent bits. The bias is the largest exponent (R65, R67). -/
structure Fmt where
  p : Nat
  eb : Nat
deriving DecidableEq, Repr

def fmtA40 : Fmt := ⟨32, 8⟩
def fmtFP32 : Fmt := ⟨24, 8⟩
def fmtBF16 : Fmt := ⟨8, 8⟩
def fmtFP16 : Fmt := ⟨11, 5⟩

/-- Bits of an element. -/
def Fmt.width (f : Fmt) : Nat := f.p + f.eb
def Fmt.emax (f : Fmt) : Int := (2 : Int) ^ (f.eb - 1) - 1
def Fmt.emin (f : Fmt) : Int := 1 - f.emax
/-- The exponent field of infinities and NaNs. -/
def Fmt.top (f : Fmt) : Nat := 2 ^ f.eb - 1
/-- The bits of an infinity, without its sign. -/
def Fmt.infBits (f : Fmt) : Nat := f.top * 2 ^ (f.p - 1)
/-- The canonical quiet NaN (Table 3-2). -/
def Fmt.qnan (f : Fmt) : Nat := f.infBits + 2 ^ (f.p - 2)
def Fmt.signBit (f : Fmt) : Nat := 2 ^ (f.width - 1)

/-- A value: `fin neg m e` is ±m × 2^e, with a sign on zero. -/
inductive FVal where
  | nan
  | inf (neg : Bool)
  | fin (neg : Bool) (m : Nat) (e : Int)
deriving DecidableEq, Repr

def FVal.zero : FVal := .fin false 0 0

/-- The value of an element's bits. -/
def Fmt.decode (f : Fmt) (x : Nat) : FVal :=
  let fr := x % 2 ^ (f.p - 1)
  let ex := bits x (f.p - 1) f.eb
  let neg := tb x (f.width - 1)
  if ex = f.top then (if fr = 0 then .inf neg else .nan)
  else if ex = 0 then .fin neg fr (f.emin - (f.p - 1))
  else .fin neg (fr + 2 ^ (f.p - 1)) (ex - f.emax - (f.p - 1))

/-- Is an element a signalling NaN? -/
def Fmt.snan (f : Fmt) (x : Nat) : Bool :=
  decide (bits x (f.p - 1) f.eb = f.top) && decide (x % 2 ^ (f.p - 1) ≠ 0) && !tb x (f.p - 2)

/-- Rounding modes of Table 3-4 by code. `r` is the draw of stochastic rounding (R86, R87): round up the magnitude `m / 2^sh`? -/
def roundUp (mode : Nat) (neg : Bool) (r m sh : Nat) : Bool :=
  let q := m >>> sh
  let rem := m % 2 ^ sh
  if rem = 0 then false
  else match mode with
    | 0 => decide (2 ^ sh < 2 * rem) || (decide (2 * rem = 2 ^ sh) && decide (q % 2 = 1))
    | 1 => decide (2 ^ sh ≤ 2 * rem)
    | 2 => !neg
    | 3 => neg
    | 5 => decide (r < (rem * 65536) >>> sh)
    | _ => false

/-- Round the magnitude m × 2^e to a multiple of 2^q: the multiple and whether anything was lost. -/
def roundMag (mode : Nat) (neg : Bool) (r m : Nat) (e q : Int) : Nat × Bool :=
  if q ≤ e then (m <<< (e - q).toNat, false)
  else
    let sh := (q - e).toNat
    ((m >>> sh) + b2n (roundUp mode neg r m sh), decide (m % 2 ^ sh ≠ 0))

/-- One rounding of ±m × 2^e to a format: the element's bits and the IEEE flags (R74, R77, R82, R90). -/
def Fmt.roundFin (f : Fmt) (mode r : Nat) (neg : Bool) (m : Nat) (e : Int) : Nat × Exc :=
  let s := if neg then f.signBit else 0
  if m = 0 then (s, 0)
  else
    let top := e + Nat.log2 m
    let q := max top f.emin - (f.p - 1)
    let t := roundMag mode neg r m e q
    let x := ((q + (f.p - 1) - f.emin).toNat) * 2 ^ (f.p - 1) + t.1
    if f.infBits ≤ x then
      if mode = 5 then
        if f.emax < top then (s + f.infBits, xOVERFLOW ||| xINEXACT) else (s + (f.infBits - 1), xINEXACT)
      else if mode = 0 ∨ mode = 1 ∨ (mode = 2 ∧ !neg) ∨ (mode = 3 ∧ neg) then (s + f.infBits, xOVERFLOW ||| xINEXACT)
      else (s + (f.infBits - 1), xOVERFLOW ||| xINEXACT)
    else
      let tiny := decide (top < f.emin) && t.2 &&
        decide (top + 1 < f.emin ∨ (roundMag mode neg r m e (top - (f.p - 1))).1 < 2 ^ f.p)
      (s + x, xIf t.2 xINEXACT ||| xIf tiny xUNDERFLOW)

/-- Round any value. -/
def Fmt.round (f : Fmt) (mode r : Nat) (v : FVal) : Nat × Exc :=
  match v with
  | .nan => (f.qnan, 0)
  | .inf neg => ((if neg then f.signBit else 0) + f.infBits, 0)
  | .fin neg m e => f.roundFin mode r neg m e

/-- The integer numerator of a finite value over 2^q, for q at most its exponent. -/
def FVal.scaled (neg : Bool) (m : Nat) (e q : Int) : Int :=
  let n : Int := ((m <<< (e - q).toNat : Nat) : Int)
  if neg then -n else n

/-- Exact sum. `down`: an exact zero of unlike signs is −0, as under roundTowardNegative. The flag is INVALID. -/
def FVal.add (down : Bool) (a b : FVal) : FVal × Exc :=
  match a, b with
  | .nan, _ => (.nan, 0)
  | _, .nan => (.nan, 0)
  | .inf s, .inf t => if s = t then (.inf s, 0) else (.nan, xINVALID)
  | .inf s, _ => (.inf s, 0)
  | _, .inf t => (.inf t, 0)
  | .fin s m e, .fin t n g =>
    if m = 0 ∧ n = 0 then (.fin (if s = t then s else down) 0 0, 0)
    else
      let q := min e g
      let x := FVal.scaled s m e q + FVal.scaled t n g q
      (.fin (if x = 0 then down else decide (x < 0)) x.natAbs q, 0)

/-- Exact product. The flag is INVALID for 0 × ∞. -/
def FVal.mul (a b : FVal) : FVal × Exc :=
  match a, b with
  | .nan, _ => (.nan, 0)
  | _, .nan => (.nan, 0)
  | .inf s, .inf t => (.inf (s != t), 0)
  | .inf s, .fin t n _ => if n = 0 then (.nan, xINVALID) else (.inf (s != t), 0)
  | .fin s m _, .inf t => if m = 0 then (.nan, xINVALID) else (.inf (s != t), 0)
  | .fin s m e, .fin t n g => (.fin (s != t) (m * n) (e + g), 0)

/-- Quotient, exact enough to round once to any format: a remainder leaves a last bit of 1. -/
def FVal.div (a b : FVal) : FVal × Exc :=
  match a, b with
  | .nan, _ => (.nan, 0)
  | _, .nan => (.nan, 0)
  | .inf _, .inf _ => (.nan, xINVALID)
  | .inf s, .fin t _ _ => (.inf (s != t), 0)
  | .fin s _ _, .inf t => (.fin (s != t) 0 0, 0)
  | .fin s m e, .fin t n g =>
    if n = 0 then (if m = 0 then (.nan, xINVALID) else (.inf (s != t), xDIVZERO))
    else
      let x := m <<< 80
      (.fin (s != t) (2 * (x / n) + b2n (decide (x % n ≠ 0))) (e - g - 81), 0)

/-- Integer square root, bit by bit from bit `k - 1`. -/
def isqrt : Nat → Nat → Nat → Nat
  | 0, _, r => r
  | k + 1, n, r => isqrt k n (if (r + 2 ^ k) * (r + 2 ^ k) ≤ n then r + 2 ^ k else r)

/-- Square root, exact enough to round once to any format. -/
def FVal.sqrt (a : FVal) : FVal × Exc :=
  match a with
  | .nan => (.nan, 0)
  | .inf s => if s then (.nan, xINVALID) else (.inf false, 0)
  | .fin s m e =>
    if m = 0 then (.fin s 0 0, 0)
    else if s then (.nan, xINVALID)
    else
      let k := if (e - 80) % 2 = 0 then 80 else 81
      let x := m <<< k
      let r := isqrt 64 x 0
      (.fin false (2 * r + b2n (decide (r * r ≠ x))) ((e - k) / 2 - 1), 0)

/-- Is a below b? False when either is NaN; −0 and +0 are equal. -/
def FVal.lt (a b : FVal) : Bool :=
  match a, b with
  | .nan, _ => false
  | _, .nan => false
  | .inf s, .inf t => s && !t
  | .inf s, _ => s
  | _, .inf t => !t
  | .fin s m e, .fin t n g =>
    let q := min e g
    decide (FVal.scaled s m e q < FVal.scaled t n g q)

/-- Are two values equal? False when either is NaN. -/
def FVal.eq (a b : FVal) : Bool :=
  match a, b with
  | .nan, _ => false
  | _, .nan => false
  | .inf s, .inf t => s == t
  | .inf _, _ => false
  | _, .inf _ => false
  | .fin s m e, .fin t n g =>
    let q := min e g
    decide (FVal.scaled s m e q = FVal.scaled t n g q)

def FVal.isNan (a : FVal) : Bool := a = .nan
def FVal.isZero (a : FVal) : Bool := match a with | .fin _ m _ => m = 0 | _ => false
def FVal.isInf (a : FVal) : Bool := match a with | .inf _ => true | _ => false
/-- Sign bit of a value that is not NaN. -/
def FVal.neg? (a : FVal) : Bool := match a with | .inf s => s | .fin s _ _ => s | .nan => false
def FVal.negate (a : FVal) : FVal := match a with | .inf s => .inf (!s) | .fin s m e => .fin (!s) m e | .nan => .nan
def FVal.abs (a : FVal) : FVal := match a with | .inf _ => .inf false | .fin _ m e => .fin false m e | .nan => .nan

/-- IEEE 754-2019 minimum and maximum: NaN propagates, −0 is below +0 (R92). -/
def FVal.below (a b : FVal) : Bool := a.lt b || (a.isZero && b.isZero && a.neg? && !b.neg?)
def FVal.minimum (a b : FVal) : FVal := if a.isNan || b.isNan then .nan else if b.below a then b else a
def FVal.maximum (a b : FVal) : FVal := if a.isNan || b.isNan then .nan else if a.below b then b else a

/-- A whole number as a value. -/
def FVal.ofInt (n : Int) : FVal := .fin (decide (n < 0)) n.natAbs 0

/-- Round a value to an integer in a mode; the flag is INEXACT. Defined for finite values; others give 0. -/
def FVal.toInt (mode r : Nat) (v : FVal) : Int × Bool :=
  match v with
  | .fin neg m e =>
    let t := roundMag mode neg r m e 0
    (if neg then -(t.1 : Int) else (t.1 : Int), t.2)
  | _ => (0, false)

/-- v × 2^k. -/
def FVal.shift (v : FVal) (k : Int) : FVal := match v with | .fin s m e => .fin s m (e + k) | x => x

/-- floor(log2 |v|) of a finite value other than zero. -/
def FVal.log2 (v : FVal) : Int := match v with | .fin _ m e => e + Nat.log2 m | _ => 0

/-! ### A40 (R67, R74, R77) -/

/-- One A40 addition, rounded to nearest-even; INVALID for ∞ + (−∞) (R77). -/
def a40Add (x y : Nat) : Nat × Exc :=
  let t := FVal.add false (fmtA40.decode x) (fmtA40.decode y)
  ((fmtA40.round 0 0 t.1).1, t.2)

/-- An exact value rounded to A40: OVERFLOW only (R74, R80). -/
def toA40 (v : FVal) : Nat × Exc :=
  let t := fmtA40.round 0 0 v
  (t.1, t.2 &&& xOVERFLOW)

/-! ### Block formats (R65, R66, R70, R72, R83 to R85) -/

/-- Value 2^(e − 127) × q × 2^−f of a block element; NaN under scale 0xFF (R66). -/
def blockVal (code : Nat) (q : Int) (f : Nat) : FVal :=
  if code = 0xFF then .nan else .fin (decide (q < 0)) q.natAbs ((code : Int) - 127 - f)

/-- Element bits, signedness and implicit exponent of the operand formats by code of Table 4-4. -/
def elemBits (fmt : Nat) : Nat := if fmt = 0 ∨ fmt = 3 ∨ fmt = 4 then 8 else 4
def elemSigned (fmt : Nat) : Bool := !(fmt = 2 ∨ fmt = 4 ∨ fmt = 6)
def elemExp (fmt : Nat) : Nat := if fmt = 0 then 6 else if fmt = 1 then 2 else if fmt = 2 then 3 else 0
/-- Is a format a block format, with a scale array? -/
def elemScaled (fmt : Nat) : Bool := fmt < 3

/-- Element i of an array of bytes (R70). -/
def elemAt (fmt : Nat) (bs : List Byte) (i : Nat) : Int :=
  let w := elemBits fmt
  let v := if w = 8 then num bs i 1 else bits (num bs (i / 2) 1) (4 * (i % 2)) 4
  if elemSigned fmt then sx v w else (v : Int)

/-- Elements packed into bytes: 8 bits each, or two 4-bit elements a byte, the even one low (R70). -/
def packElems (w : Nat) : List Int → List Byte
  | [] => []
  | [a] => if w = 8 then [BitVec.ofInt 8 a] else [BitVec.ofNat 8 ((BitVec.ofInt 4 a).toNat)]
  | a :: b :: t =>
    if w = 8 then BitVec.ofInt 8 a :: BitVec.ofInt 8 b :: packElems w t
    else BitVec.ofNat 8 ((BitVec.ofInt 4 a).toNat + 16 * (BitVec.ofInt 4 b).toNat) :: packElems w t

/-- Scale code of a block whose largest magnitude is `amax` (Table 3-3, R84): rule 0 FLOOR, 1 FIT; w is 8 for MXINT8, 4 for KB4. -/
def blockScale (w rule : Nat) (amax : FVal) : Nat :=
  let lg := amax.log2
  -- Mx is (2^(w−1) − 1) × 2^−f, with f = w − 2; FIT takes the least X with amax ≤ Mx × X
  let fit := fun x : Int => !(FVal.lt (.fin false (2 ^ (w - 1) - 1) (x - ((w : Int) - 2))) amax)
  let ex : Int := if rule = 0 then lg else if fit (lg - 1) then lg - 1 else if fit lg then lg else lg + 1
  let c := ex + 127
  if c < 0 then 0 else if 0xFE < c then 0xFE else c.toNat

/-- Largest of a list of magnitudes. -/
def amaxOf (vs : List FVal) : FVal := vs.foldl (fun a v => if a.lt v.abs then v.abs else a) FVal.zero

/-- Mark the first element that satisfies a test. -/
def flagFirst (f : FVal → Bool) (x : Exc) : List FVal → List Exc
  | [] => []
  | v :: t => if f v then x :: t.map (fun _ => 0) else 0 :: flagFirst f x t

/-- Convert a block (R83 to R85): scale code, elements, and each element's flags. A signalling NaN raises what R85 gives any NaN of the block, NAN_INPUT alone: whether R91
adds INVALID is not given (log 125, DESIGN CHOICE). `draws` are the draws of stochastic rounding, one per element. -/
def blockEncode (w rule mode : Nat) (draws : List Nat) (vs : List FVal) : Nat × List Int × List Exc :=
  if vs.any FVal.isNan then (0xFF, vs.map (fun _ => 0), flagFirst FVal.isNan xNAN_INPUT vs)
  else if vs.any FVal.isInf then (0xFF, vs.map (fun _ => 0), flagFirst FVal.isInf xINVALID vs)
  else if vs.all FVal.isZero then (0, vs.map (fun _ => 0), vs.map (fun _ => 0))
  else
    let c := blockScale w rule (amaxOf vs)
    let top : Int := 2 ^ (w - 1) - 1
    let qs := (vs.zip draws).map (fun vd => ((vd.1.shift (127 - (c : Int) + ((w : Int) - 2))).toInt mode vd.2).1)
    (c, qs.map (fun q => if top < q then top else if q < -top then -top else q),
      qs.map (fun q => xIf (decide (top < q ∨ q < -top)) xCLAMP))

end Sys2Proof.Machine
end

