-- ==== Sys2Proof/Machine/Elementary.lean ====
section
/-! DEFINITION. The functions that the vector engine approximates, computed in fixed point well beyond the precision of every format, and the
distance of a delivered value from them in units in the last place (R144, log 12). -/

namespace Sys2Proof.Machine

/-! ### Fixed point: a whole number stands for that many 2^-288 -/

def fxBits : Nat := 288
def fxOne : Int := 2 ^ fxBits
def fxMul (a b : Int) : Int := a * b / fxOne
def fxDiv (a b : Int) : Int := a * fxOne / b
/-- ±m × 2^e in fixed point. -/
def fxOf (neg : Bool) (m : Nat) (e : Int) : Int := FVal.scaled neg m (e + fxBits) 0
/-- A fixed-point number, times 2^k, as a value. -/
def fxVal (x k : Int) : FVal := .fin (decide (x < 0)) x.natAbs (k - fxBits)

/-- The exponential series from its term number `k`, whose predecessor times the argument is `t`. -/
def expSeries : Nat → Int → Int → Nat → Int
  | 0, _, _, _ => 0
  | n + 1, x, t, k => t + expSeries n x (fxMul t x / (k + 1)) (k + 1)
/-- The series of t^(2j+1) over 2j+1, where each power comes from the one before by the factor `y`. -/
def oddSeries : Nat → Int → Int → Nat → Int
  | 0, _, _, _ => 0
  | n + 1, y, t, k => t / (2 * k + 1) + oddSeries n y (fxMul t y) (k + 1)
/-- The series of the error function: powers over factorials and odd numbers, of alternating sign. -/
def erfSeries : Nat → Int → Int → Nat → Int
  | 0, _, _, _ => 0
  | n + 1, y, t, k => t / (2 * k + 1) + erfSeries n y (-(fxMul t y) / (k + 1)) (k + 1)

/-- e^x for x from 0 up to 1. -/
def fxExp (x : Int) : Int := expSeries 80 x fxOne 0
def fxAtanh (x : Int) : Int := oddSeries 120 (fxMul x x) x 0
def fxAtan (x : Int) : Int := oddSeries 120 (-(fxMul x x)) x 0
def fxLn2 : Int := 2 * fxAtanh (fxOne / 3)
def fxPi : Int := 16 * fxAtan (fxOne / 5) - 4 * fxAtan (fxOne / 239)
def fxRootPi : Int := (isqrt 320 (fxPi * fxOne).toNat 0 : Nat)

/-! ### The functions, of ±m × 2^e other than zero -/

/-- floor(log2) of ±m × 2^e. -/
def magOf (m : Nat) (e : Int) : Int := e + Nat.log2 m
/-- A value below one by less than anything a format tells apart from it. -/
def nearlyOne (neg : Bool) : FVal := .fin neg (2 ^ 96 - 1) (-96)
/-- e^x as a value, for x in fixed point: the power of two taken out first. -/
def expOf (x : Int) : FVal := fxVal (fxExp (x - x / fxLn2 * fxLn2)) (x / fxLn2)
/-- A power with an argument beyond ±512 lies far outside every format. -/
def farPower (neg : Bool) : FVal := .fin false 1 (if neg then -700 else 700)

/-- 1/√ of m × 2^e. -/
def exactRsq (m : Nat) (e : Int) : FVal :=
  let odd := decide (e % 2 = 1)
  .fin false (isqrt 128 (2 ^ 200 / (if odd then 2 * m else m)) 0) (-100 - (if odd then e - 1 else e) / 2)
def exactExp2 (neg : Bool) (m : Nat) (e : Int) : FVal :=
  let x := fxOf neg m e
  if 9 ≤ magOf m e then farPower neg else fxVal (fxExp (fxMul (x % fxOne) fxLn2)) (x / fxOne)
def exactExp (neg : Bool) (m : Nat) (e : Int) : FVal := if 9 ≤ magOf m e then farPower neg else expOf (fxOf neg m e)
def exactLog2 (m : Nat) (e : Int) : FVal :=
  let t : Int := (2 ^ Nat.log2 m : Nat)
  fxVal (magOf m e * fxOne + fxDiv (2 * fxAtanh (fxDiv (m - t) (m + t))) fxLn2) 0
def exactTanh (neg : Bool) (m : Nat) (e : Int) : FVal :=
  let x := 2 * fxOf false m e
  let y := (fxExp (x - x / fxLn2 * fxLn2)) * 2 ^ (x / fxLn2).toNat
  if 6 ≤ magOf m e then nearlyOne neg else .fin neg (fxDiv (y - fxOne) (y + fxOne)).natAbs (-fxBits)
def exactErf (neg : Bool) (m : Nat) (e : Int) : FVal :=
  let x := fxOf false m e
  if 3 ≤ magOf m e then nearlyOne neg else .fin neg (fxDiv (2 * erfSeries 340 (fxMul x x) x 0) fxRootPi).natAbs (-fxBits)

/-! ### Distance -/

/-- The value of a pattern, an infinity standing for the power of two at which it begins. -/
def Fmt.extended (f : Fmt) (x : Nat) : FVal :=
  match f.decode x with
  | .inf s => .fin s 1 (f.emax + 1)
  | v => v

/-- Lies a pattern within `n` units in the last place of an exact value? The exact value is known to less than 2^-30 of that unit, and a pattern that
misses the bound by no more counts as within it. -/
def Fmt.within (f : Fmt) (n : Nat) (exact : FVal) (x : Nat) : Bool :=
  match exact, f.extended x with
  | .fin s m e, .fin t k g =>
    let u := max (magOf m e) f.emin - (f.p - 1)
    let q := min (min e g) (u - 30)
    decide ((FVal.scaled s m e q - FVal.scaled t k g q).natAbs ≤ n * 2 ^ (u - q).toNat + 2 ^ (u - 30 - q).toNat)
  | _, _ => false

end Sys2Proof.Machine
end

