-- ==== Sys2Proof/Machine/VecArith.lean ====
section
/-! DEFINITION. The vector engine's arithmetic on one lane and along a tree of lanes, in fast and strict mode (R89 to R91, R135, R136, R141,
R142, R144). Lanes are 32-bit patterns as numbers; an element of 16 bits sits in bits [15:0] (R126). -/

namespace Sys2Proof.Machine

/-- The floating-point formats of the FMT field: FP32, BF16, FP16; 3 is INT32 (Table 5-4). -/
def vFmt (f : Nat) : Fmt := if f = 0 then fmtFP32 else if f = 1 then fmtBF16 else fmtFP16
/-- Bytes of an element in memory. -/
def vBytes (f : Nat) : Nat := if f = 0 ∨ f = 3 then 4 else 2
/-- A lane cut to its element. -/
def vCut (f x : Nat) : Nat := x % 2 ^ (8 * vBytes f)

/-- Is a pattern subnormal? -/
def Fmt.subnormal (f : Fmt) (x : Nat) : Bool := decide (bits x (f.p - 1) f.eb = 0) && decide (x % 2 ^ (f.p - 1) ≠ 0)
/-- Zero of the same sign in place of a subnormal, in fast mode (R89). -/
def Fmt.flush (f : Fmt) (strict : Bool) (x : Nat) : Nat := if !strict && f.subnormal x then (if tb x (f.width - 1) then f.signBit else 0) else x
/-- An operand's value as a mode reads it. -/
def Fmt.read (f : Fmt) (strict : Bool) (x : Nat) : FVal := f.decode (f.flush strict (x % 2 ^ f.width))
/-- The flags a mode raises (R89, R90). -/
def vMask (strict : Bool) (x : Exc) : Exc := x &&& (if strict then xStrict else xFast)

/-- One operation on values, rounded once (R89, R90, R91): operands' signalling NaNs raise INVALID, a NaN gives the canonical NaN. -/
def vFp (f : Fmt) (strict : Bool) (mode r : Nat) (args : List Nat) (op : List FVal → FVal × Exc) : Nat × Exc :=
  let vs := args.map (f.read strict)
  let sn := xIf (args.any (fun x => f.snan (x % 2 ^ f.width))) xINVALID
  if vs.any FVal.isNan then (f.qnan, sn)
  else
    let t := op vs
    let o := f.round mode r t.1
    (f.flush strict o.1, vMask strict (t.2 ||| o.2))

/-- The floating-point operations of Table 5-5 on NaN-free values. -/
def opAdd (mode : Nat) (v : List FVal) : FVal × Exc := FVal.add (mode = 3) (v.getD 0 .nan) (v.getD 1 .nan)
def opSub (mode : Nat) (v : List FVal) : FVal × Exc := FVal.add (mode = 3) (v.getD 0 .nan) (v.getD 1 .nan).negate
def opMul (v : List FVal) : FVal × Exc := FVal.mul (v.getD 0 .nan) (v.getD 1 .nan)
/-- Fused a × b + c. -/
def opFma (mode : Nat) (a b c : FVal) : FVal × Exc :=
  let p := FVal.mul a b
  let t := FVal.add (mode = 3) p.1 c
  (t.1, p.2 ||| t.2)
def opDiv (v : List FVal) : FVal × Exc := FVal.div (v.getD 0 .nan) (v.getD 1 .nan)
def opSqrt (v : List FVal) : FVal × Exc := (v.getD 0 .nan).sqrt
def opMin (v : List FVal) : FVal × Exc := (FVal.minimum (v.getD 0 .nan) (v.getD 1 .nan), 0)
def opMax (v : List FVal) : FVal × Exc := (FVal.maximum (v.getD 0 .nan) (v.getD 1 .nan), 0)

/-- An INT32 lane as an integer, and back (R136). -/
def i32 (x : Nat) : Int := sx x 32
def ofI32 (x : Int) : Nat := (BitVec.ofInt 32 x).toNat

/-- A floating-point operation, or its INT32 form where FMT is 0b11. -/
def vOp (fmt : Nat) (strict : Bool) (mode r : Nat) (a b : Nat) (fp : List FVal → FVal × Exc) (int : Int → Int → Int) : Nat × Exc :=
  if fmt = 3 then (ofI32 (int (i32 a) (i32 b)), 0) else vFp (vFmt fmt) strict mode r [a, b] fp

/-- Convert one lane between formats (R136). -/
def vConvert (src dst : Nat) (strict : Bool) (mode r x : Nat) : Nat × Exc :=
  if src = 3 then
    if dst = 3 then (x % 2 ^ 32, 0)
    else
      let o := (vFmt dst).round mode r (FVal.ofInt (i32 x))
      ((vFmt dst).flush strict o.1, vMask strict o.2)
  else
    let f := vFmt src
    let v := f.read strict x
    let sn := xIf (f.snan (x % 2 ^ f.width)) xINVALID
    if dst = 3 then
      match v with
      | .nan => (0, xINVALID)
      | .inf s => (if s then 0x80000000 else 0x7FFFFFFF, xINVALID)
      | w =>
        let q := w.toInt mode r
        if 0x7FFFFFFF < q.1 then (0x7FFFFFFF, xINVALID)
        else if q.1 < -0x80000000 then (0x80000000, xINVALID)
        else (ofI32 q.1, vMask strict (xIf q.2 xINEXACT))
    else
      let o := (vFmt dst).round mode r v
      ((vFmt dst).flush strict o.1, vMask strict (sn ||| o.2))

/-- A widening load of one element (R136): no flag, a NaN's payload kept. -/
def vWiden (fmt x : Nat) : Nat :=
  if fmt = 1 then (x % 2 ^ 16) * 2 ^ 16
  else if fmt = 2 then
    if bits x 10 5 = 31 ∧ bits x 0 10 ≠ 0 then bits x 15 1 * 2 ^ 31 + 0xFF * 2 ^ 23 + bits x 0 10 * 2 ^ 13
    else (fmtFP32.round 0 0 (fmtFP16.decode (x % 2 ^ 16))).1
  else x % 2 ^ 32

/-- Bit operations that keep a NaN and its payload (R89): clear or flip the sign. -/
def vAbs (fmt x : Nat) : Nat :=
  if fmt = 3 then ofI32 (Int.natAbs (i32 x)) else let y := vCut fmt x; if tb y (8 * vBytes fmt - 1) then y - 2 ^ (8 * vBytes fmt - 1) else y
def vNeg (fmt x : Nat) : Nat :=
  if fmt = 3 then ofI32 (-(i32 x)) else vCut fmt x ^^^ 2 ^ (8 * vBytes fmt - 1)

/-- Predicates of VCMP (R142): 0 EQ, 1 NE, 2 LT, 3 LE, 4 GT, 5 GE, 6 UNORD, 7 ORD. -/
def vCompare (fmt : Nat) (strict : Bool) (pred a b : Nat) : Bool × Exc :=
  let decide3 := fun (eq lt : Bool) =>
    match pred with
    | 0 => eq | 1 => !eq | 2 => lt | 3 => lt || eq | 4 => !lt && !eq | 5 => !lt | 6 => false | _ => true
  if fmt = 3 then (decide3 (decide (i32 a = i32 b)) (decide (i32 a < i32 b)), 0)
  else
    let f := vFmt fmt
    let x := f.read strict a
    let y := f.read strict b
    let sn := f.snan (vCut fmt a) || f.snan (vCut fmt b)
    let un := x.isNan || y.isNan
    let fl := xIf (if 2 ≤ pred ∧ pred ≤ 5 then un else sn) xINVALID
    if un then (pred = 1 || pred = 6, fl) else (decide3 (x.eq y) (x.lt y), fl)

/-- The seven approximations (Table 5-7). -/
inductive Approx where
  | rcp | rsq | exp2 | log2 | exp | tanh | erf
deriving DecidableEq, Repr

def Approx.code : Approx → Nat
  | .rcp => 0x20 | .rsq => 0x21 | .exp2 => 0x22 | .log2 => 0x23 | .exp => 0x24 | .tanh => 0x25 | .erf => 0x26

/-- The special values of Table 5-7, where the operand is one. -/
def Approx.special (op : Approx) (v : FVal) : Option (FVal × Exc) :=
  let zero := v.isZero
  let one : FVal := .fin false 1 0
  match op with
  | .rcp => if zero then some (.inf v.neg?, xDIVZERO) else if v.isInf then some (.fin v.neg? 0 0, 0) else none
  | .rsq => if zero then some (.inf v.neg?, xDIVZERO) else if v.neg? then some (.nan, xINVALID) else if v.isInf then some (.zero, 0) else none
  | .exp2 => if v.isInf then some (if v.neg? then .zero else .inf false, 0) else none
  | .exp => if v.isInf then some (if v.neg? then .zero else .inf false, 0) else none
  | .log2 =>
    if zero then some (.inf true, xDIVZERO) else if v.neg? then some (.nan, xINVALID) else if v.isInf then some (.inf false, 0)
    else if v.eq one then some (.zero, 0) else none
  | .tanh => if v.isInf then some (.fin v.neg? 1 0, 0) else if zero then some (v, 0) else none
  | .erf => if v.isInf then some (.fin v.neg? 1 0, 0) else if zero then some (v, 0) else none

/-- The function of ±m × 2^e, a value other than zero that is no special one, beyond the precision of every format. -/
def Approx.exact (op : Approx) (neg : Bool) (m : Nat) (e : Int) : FVal :=
  match op with
  | .rcp => (FVal.div (.fin false 1 0) (.fin neg m e)).1
  | .rsq => exactRsq m e
  | .exp2 => exactExp2 neg m e
  | .log2 => exactLog2 m e
  | .exp => exactExp neg m e
  | .tanh => exactTanh neg m e
  | .erf => exactErf neg m e

/-- Units in the last place by which an approximation may miss: Table 5-7 for FP32, one for BF16 and FP16. -/
def Approx.bound (op : Approx) (fmt : Nat) : Nat :=
  if fmt ≠ 0 then 1
  else
    match op with
    | .rcp => 1 | .rsq => 1 | .exp2 => 2 | .log2 => 2 | .exp => 2 | .tanh => 3 | .erf => 3

/-- The exponentials, whose overflow Table 5-7 names. -/
def Approx.power (op : Approx) : Bool := op = .exp2 || op = .exp

/-- What an approximation of an exact value delivers (R144). `c` is free: it is delivered where it lies within the bound, and the exact value rounded
once where it does not. Beyond the format an exponential gives +∞, and for VRCP of a subnormal the manual states no bound, so that `c` stands. -/
def Approx.deliver (op : Approx) (fmt c : Nat) (v : FVal) : Nat :=
  let f := vFmt fmt
  if f.emax < v.log2 then (if op.power then f.infBits else c) else if f.within (op.bound fmt) v c then c else (f.round 0 0 v).1

/-- An approximation of one lane (R144): the special values of Table 5-7, else a value within its bound; an infinite result of an exponential raises
OVERFLOW. UNVERIFIED, log 12. -/
def vApprox (op : Approx) (fmt : Nat) (strict : Bool) (x : Nat) : Nat × Exc :=
  let f := vFmt fmt
  let y := f.flush strict (vCut fmt x)
  let v := f.decode y
  if v.isNan then (f.qnan, xIf (f.snan y) xINVALID)
  else
    match op.special v with
    | some t => ((f.round 0 0 t.1).1, t.2)
    | none =>
      let exact := match v with | .fin s m e => op.exact s m e | w => w
      let o := f.flush strict (op.deliver fmt (vCut fmt (Config.approx op.code fmt (BitVec.ofNat 32 y)).toNat) exact)
      (o, xIf (op.power && decide (o = f.infBits)) xOVERFLOW)

/-- One level of the tree of R141: neighbours combined, an odd last one carried. -/
def treeLevel (f : Nat × Exc → Nat × Exc → Nat × Exc) : List (Nat × Exc) → List (Nat × Exc)
  | [] => []
  | [a] => [a]
  | a :: b :: t => f a b :: treeLevel f t

/-- Combine lanes along the fixed binary tree, level by level (R141). -/
def tree (f : Nat × Exc → Nat × Exc → Nat × Exc) : Nat → List (Nat × Exc) → Nat × Exc
  | 0, l => l.headD (0, 0)
  | n + 1, l => if l.length ≤ 1 then l.headD (0, 0) else tree f n (treeLevel f l)

/-- The three reductions. -/
inductive Reduce where
  | sum | max | min
deriving DecidableEq, Repr

/-- Identity of a reduction: −0, −∞, +∞ in FP32, or the INT32 identity (R141). -/
def Reduce.ident (op : Reduce) (int : Bool) : Nat :=
  match op, int with
  | .sum, false => 0x80000000
  | .max, false => 0xFF800000
  | .min, false => 0x7F800000
  | .sum, true => 0
  | .max, true => 0x80000000
  | .min, true => 0x7FFFFFFF

/-- One combination in FP32, or on INT32 lanes. -/
def Reduce.comb (op : Reduce) (int strict : Bool) (a b : Nat × Exc) : Nat × Exc :=
  let fl := a.2 ||| b.2
  if int then
    let x := i32 a.1
    let y := i32 b.1
    (ofI32 (match op with | .sum => x + y | .max => if x < y then y else x | .min => if y < x then y else x), fl)
  else
    let o := vFp fmtFP32 strict 0 0 [a.1, b.1] (match op with | .sum => opAdd 0 | .max => opMax | .min => opMin)
    (o.1, fl ||| o.2)

/-- A reduction over lanes, `none` for an inactive one: the value of every active lane, and the flags of all (R141). BF16 and FP16 enter the tree in
FP32 and are rounded once at its end. -/
def vReduce (op : Reduce) (fmt : Nat) (strict : Bool) (lanes : List (Option Nat)) : Nat × Exc :=
  let int := fmt = 3
  let enter := fun l : Option Nat =>
    match l with
    | none => (op.ident int, (0 : Exc))
    | some x =>
      if int then (x % 2 ^ 32, 0)
      else
        let f := vFmt fmt
        ((fmtFP32.round 0 0 (f.read strict x)).1, xIf (f.snan (vCut fmt x)) xINVALID)
  let t := tree (op.comb int strict) 9 (lanes.map enter)
  if int || fmt = 0 then (t.1, vMask strict t.2 )
  else
    let o := (vFmt fmt).round 0 0 (fmtFP32.decode t.1)
    ((vFmt fmt).flush strict o.1, vMask strict (t.2 ||| o.2))

end Sys2Proof.Machine
end

