-- ==== Sys2Proof/Machine/Bin.lean ====
section
/-! DEFINITION. The Bin units (R227 to R236): dequeue and checks, the journal, the arithmetic of R231, the seven commands. A command's row does its work
at once; the replay of R232 happens at the boundary. The WAIT fields of a posted header are checked and not waited on: R193 names no Bin unit
among the waiters (log 43). -/

namespace Sys2Proof.Machine

/-! ### The Bin body (Table 8-4) -/

def Desc.bN (d : Desc) : Nat := fld d.w2 0 32
def Desc.bGFmt (d : Desc) : Nat := fld d.w2 32 2
def Desc.bMvFmt (d : Desc) : Nat := fld d.w2 34 1
def Desc.bCast (d : Desc) : Nat := fld d.w2 35 2
def Desc.bRule (d : Desc) : Nat := fld d.w2 37 1
def Desc.bVslotEn (d : Desc) : Bool := Machine.tb d.w2.toNat 38
def Desc.bVslot (d : Desc) : Nat := fld d.w2 39 3
def Desc.bStep (d : Desc) : Nat := fld d.w2 48 16
def Desc.bX (d : Desc) : Nat := fld d.w3 0 21
def Desc.bM (d : Desc) : Nat := fld d.w3 21 21
def Desc.bV (d : Desc) : Nat := fld d.w3 42 21
def Desc.bG (d : Desc) : Nat := fld d.w4 0 21
def Desc.bP (d : Desc) : Nat := fld d.w4 21 21
def Desc.bR (d : Desc) : Nat := fld d.w4 42 21
def Desc.bQ (d : Desc) : Nat := fld d.w5 0 21
def Desc.bQs (d : Desc) : Nat := fld d.w5 21 21
def Desc.bI (d : Desc) : Nat := fld d.w5 42 21

/-- What a Bin command uses beside X (Table 8-3). -/
structure BinUse where
  m : Bool := false
  v : Bool := false
  g : Bool := false
  p : Bool := false
  r : Bool := false
  casts : Bool := false
  gate : Bool := false
deriving DecidableEq, Repr

def binUse (code : Nat) : BinUse :=
  match code with
  | 0x41 => { p := true }
  | 0x42 => { g := true }
  | 0x43 => { r := true }
  | 0x44 => { m := true, g := true, p := true, r := true, casts := true, gate := true }
  | 0x45 => { m := true, v := true, g := true, p := true, r := true, casts := true, gate := true }
  | 0x46 => { p := true, r := true, casts := true }
  | _ => {}

def castQ (d : Desc) : Bool := Machine.tb d.bCast 0
def castI (d : Desc) : Bool := Machine.tb d.bCast 1

/-- Fields that a code does not use are zero, and those it uses are in range (R229, R230). -/
def binBodyOk (d : Desc) : Bool :=
  let u := binUse d.code
  let z := fun (used : Bool) (v : Nat) => used || v = 0
  onlyFields d.w2 [(0, 42), (48, 16)] && onlyFields d.w3 [(0, 63)] && onlyFields d.w4 [(0, 63)] && onlyFields d.w5 [(0, 63)] &&
  d.w6 = 0 && d.w7 = 0 && d.bN ≠ 0 && d.bN % 32 = 0 && d.bGFmt < 2 &&
  z u.g d.bGFmt && z u.m d.bMvFmt && z u.casts d.bCast && z (u.casts && castQ d) d.bRule &&
  z u.gate (b2n d.bVslotEn) && z (u.gate && d.bVslotEn) d.bVslot && z u.r d.bStep &&
  z u.m d.bM && z u.v d.bV && z u.g d.bG && z u.p d.bP && z u.r d.bR &&
  z (u.casts && castQ d) d.bQ && z (u.casts && castQ d) d.bQs && z (u.casts && castI d) d.bI &&
  (d.code ≠ 0x46 || d.bCast ≠ 0) && d.sigScope ≠ 1

/-- Bytes of an element of m, v or b. -/
def Desc.mvBytes (d : Desc) : Nat := if d.bMvFmt = 1 then 2 else 4

/-- An extent of plot `p`. -/
def binExt (p line n : Nat) : Nat × Nat := (lineAddr p line, n)
def xExt (p : Nat) (d : Desc) : Nat × Nat := binExt p d.bX (4 * d.bN)
def mExt (p : Nat) (d : Desc) : Nat × Nat := binExt p d.bM (d.mvBytes * d.bN)
def vExt (p : Nat) (d : Desc) : Nat × Nat := binExt p d.bV (d.mvBytes * d.bN)
def gExt (p : Nat) (d : Desc) : Nat × Nat := binExt p d.bG ((if d.bGFmt = 1 then 2 else 4) * d.bN)

/-- Every extent of a command. -/
def binExtents (p : Nat) (d : Desc) : List (Nat × Nat) :=
  let u := binUse d.code
  [xExt p d] ++ (if u.m then [mExt p d] else []) ++ (if u.v then [vExt p d] else []) ++ (if u.g then [gExt p d] else []) ++
  (if u.p then [binExt p d.bP 64] else []) ++ (if u.r then [binExt p d.bR 64] else []) ++
  (if u.casts && castQ d then [binExt p d.bQ d.bN, binExt p d.bQs (d.bN / 32)] else []) ++
  (if u.casts && castI d then [binExt p d.bI d.bN] else [])

/-- Line indices of the journaled extents (Table 8-3). -/
def journaled (p : Nat) (d : Desc) : List Nat :=
  let lines := fun e : Nat × Nat => (unitsOf 64 e.1 e.2).map (· - p * 0x20_0000)
  match d.code with
  | 0x40 => lines (xExt p d)
  | 0x41 => lines (xExt p d)
  | 0x42 => lines (xExt p d)
  | 0x44 => lines (xExt p d) ++ lines (mExt p d)
  | 0x45 => lines (xExt p d) ++ lines (mExt p d) ++ lines (vExt p d)
  | _ => []

/-! ### The unit -/

def State.modBin (s : State) (b : BinId) (g : BinUnit → BinUnit) : State := s.setBin b (g (s.bin b))
/-- The unit works: its plot is active and in service, and it is not lost (R4, R446). -/
def State.binLive (s : State) (b : BinId) : Bool :=
  !s.fallowPlot b.plot.val && decide (s.boot.plotDoms.get Dom.run b.plot.val = .run) && !tb (s.rd (plotB b.plot.val) F.FLT_PLOT_BIN_LOST) b.unit.val

def State.modBinFurrow (s : State) (b : BinId) (serial : Nat) (g : BinFurrow → BinFurrow) : State :=
  s.modBin b (fun x => { x with furrows := x.furrows.map (fun f => if f.serial = serial then g f else f) })

/-- A verdict's standing against a gated command (R233): ready, not ready, or later than its STEP. -/
inductive Gate where
  | ready
  | wait
  | late
deriving DecidableEq, Repr

def State.binGate (s : State) (p : Nat) (d : Desc) : Gate :=
  if (binUse d.code).gate && d.bVslotEn then
    let b := plotB p
    let diff := (s.rd b F.VERDICT_STEP d.bVslot + 0x10000 - d.bStep) % 0x10000
    if !s.rdB b F.VERDICT_VALID d.bVslot then .wait
    else if diff = 0 then .ready
    else if diff < 0x8000 then .late
    else .wait
  else .ready

/-- The update is skipped: the slot of a gated command reads FINITE = 0 (R233). -/
def State.binSkips (s : State) (p : Nat) (d : Desc) : Bool :=
  (binUse d.code).gate && d.bVslotEn && !s.rdB (plotB p) F.VERDICT_FINITE d.bVslot

/-- The Bin furrow of a posting furrow in this Pass (R228), made if there is none: its serial number and the state. -/
def State.binFurrowOf (s : State) (b : BinId) (p : Posted) : Nat × State :=
  let x := s.bin b
  match x.furrows.find? (fun f => f.poster = p.poster && f.pserial = p.serial && decide (f.vote = .undecided)) with
  | some f => (f.serial, s)
  | none =>
    (x.serial, s.setBin b { x with serial := x.serial + 1, furrows := x.furrows ++ [{ serial := x.serial, poster := p.poster, pserial := p.serial, id := p.furrowId }] })

/-- Change the first queued descriptor that is not yet taken and may run. -/
def nextPosted (p : Posted) : Bool := p.eligible && !p.taken

/-- Journal lines that `n` new lines add to a group holding `c` lines, tag lines included (R232). -/
def journalGrowth (c n : Nat) : Nat := n + cdiv (c + n) 8

/-- Lines of a furrow's last, partial group, where the group stands at the end of the ring and can go on there; a group behind which another Bin furrow has journaled
is closed, and the furrow's next line begins a new one (log 128). -/
def BinFurrow.tail (f : BinFurrow) (jpos : Nat) : List Nat := if f.jend = jpos then f.group else []

/-- Journal lines of a command that are not in the furrow's journal yet. -/
def BinFurrow.newLines (f : BinFurrow) (ls : List Nat) : List Nat := ls.filter (fun l => !(f.journal.map (·.1)).contains l)

/-- Live journal lines of a unit (BIN_STAT.JOURNAL_USED). -/
def BinUnit.jused (x : BinUnit) : Nat := (x.furrows.map (·.jused)).foldl (· + ·) 0

/-- Would the command's journal pass JOURNAL_LINES, or is it off (R232)? -/
def State.journalFull (s : State) (b : BinId) (f : BinFurrow) (ls : List Nat) : Bool :=
  let cap := s.rd (plotB b.plot.val) F.BIN_CFG_JOURNAL_LINES b.unit.val
  let n := (f.newLines ls).length
  let c := (f.tail (s.bin b).jpos).length
  cap = 0 || decide (cap < (s.bin b).jused - (if c = 0 then 0 else 1) + journalGrowth c n)

/-- A failure at dequeue: the posting core halts and the Bin furrow is not committed (R229). -/
def State.binHalt (s : State) (b : BinId) (p : Posted) (serial code : Nat) : State :=
  let s := s.modBinFurrow b serial (fun f => { f with halted := true })
  let s := s.modBin b (fun x => { x with run := none, queue := x.queue.filter (fun q => !(q.poster = p.poster && q.serial = p.serial)) })
  s.haltPosted p code

/-- BIN_DEQUEUE: the next eligible descriptor, unless vote close has passed (R228), its verdict is missing (R233) or the unit is busy. -/
def execBinDequeue (b : BinId) (s : State) : Out :=
  .next (
    let x := s.bin b
    let pl := b.plot.val
    if !s.binLive b || s.passPoint ≠ .window || x.run.isSome then s
    else
      match x.queue.find? nextPosted with
      | none => s
      | some p =>
        let d := p.desc
        if s.binGate pl d = .wait then s
        else
          let r := s.binFurrowOf b p
          let s := r.2
          let serial := r.1
          if s.binGate pl d = .late then s.binHalt b p serial 0x08
          else
            let es := binExtents pl d
            match s.checks p.poster d (0x40 ≤ d.code && d.code ≤ 0x46) (binBodyOk d && es.all (s.unitPlotOk pl)) (s.sigFallow d) true
                (es.all (s.inPlotPart pl)) with
            | .halt code => s.binHalt b p serial code
            | .stale =>
              (s.satAdd (plotB pl) F.BIN_DONE_STALE 1 b.unit.val).modBin b (fun x =>
                { x with
                  queue := ((takeFirst nextPosted x.queue).map (·.2)).getD x.queue
                  furrows := x.furrows.filter (fun f => f.serial ≠ serial || f.journal ≠ [] || x.queue.any (fun q => q.taken && q.bf = some serial)) })
            | .ok =>
              let ls := if s.binSkips pl d then [] else journaled pl d
              let full := match (s.bin b).furrows.find? (fun f => f.serial = serial) with
                | some f => journaled pl d ≠ [] && s.journalFull b f ls
                | none => false
              if full then s.binHalt b p serial 0x08
              else s.modBin b (fun x =>
                { x with
                  queue := modFirst nextPosted (fun q => { q with taken := true, bf := some serial }) x.queue
                  run := some { p := { p with taken := true, bf := some serial }, tDeq := s.fieldCount } }))

/-! ### The journal (R232) -/

/-- A ring line of the journal. -/
def State.journalLine (s : State) (b : BinId) (pos : Nat) : Nat :=
  let pb := plotB b.plot.val
  lineAddr b.plot.val (s.rd pb F.BIN_CFG_JOURNAL_BASE b.unit.val + pos % s.rd pb F.BIN_CFG_JOURNAL_LINES b.unit.val)

/-- A tag line: the line indices of a group, unused entries all ones. -/
def tagLine (ls : List Nat) : List Byte := ((ls.map (fun l => BitVec.ofNat 64 l)) ++ List.replicate 8 (BitVec.allOnes 64)).take 8 |>.flatMap wordBytes

/-- An error response of a read or a write fails the Bin furrow without a strike (R229). -/
def State.binResp (s : State) (b : BinId) (serial resp : Nat) : State :=
  if resp = rOK then s else s.modBinFurrow b serial (fun f => { f with failed := true, check := if resp = rUNCORRECTABLE then 6 else f.check })

/-- Copy one line's old content to the journal; `acc` holds the ring position and the lines of the group in the making. The line is read through its code (R211, R213):
one that is uncorrectable fails the furrow, and the journal takes the zeros of the error response (R256). -/
def State.journalOne (s : State) (b : BinId) (serial : Nat) (c : Cause) (acc : Nat × List Nat) (l : Nat) : (Nat × List Nat) × State :=
  let rq := 17 + b.unit.val
  let r := s.memRead true false rq (lineAddr b.plot.val l) 64 c
  let old := r.2.1
  let s := r.2.2.binResp b serial r.1
  let s := (s.memWrite true false rq (s.journalLine b acc.1) old).2
  let s := s.modBinFurrow b serial (fun f => { f with journal := (l, old) :: f.journal })
  let g := acc.2 ++ [l]
  if g.length = 8 then ((acc.1 + 2, []), (s.memWrite true false rq (s.journalLine b (acc.1 + 1)) (tagLine g)).2)
  else ((acc.1 + 1, g), s)

/-- Journal the lines of a command that its furrow has not journaled, then the tag line of the last group. A partial group at the end of the ring goes on where
it stands; its tag line is written again behind it. -/
def State.journalAll (s : State) (b : BinId) (serial : Nat) (c : Cause) (ls : List Nat) : State :=
  match (s.bin b).furrows.find? (fun f => f.serial = serial) with
  | none => s
  | some f =>
    let new := f.newLines ls
    if new = [] then s
    else
      let open' := f.tail (s.bin b).jpos
      let start := if open' = [] then (s.bin b).jpos else (s.bin b).jpos - 1
      let r := new.foldl (fun (acc : (Nat × List Nat) × State) l => acc.2.journalOne b serial c acc.1 l) ((start, open'), s)
      let pos := r.1.1
      let s := r.2
      let last := if r.1.2 = [] then (pos, s)
        else (pos + 1, (s.memWrite true false (17 + b.unit.val) (s.journalLine b pos) (tagLine r.1.2)).2)
      (last.2.modBin b (fun x => { x with jpos := last.1 })).modBinFurrow b serial (fun f =>
        { f with jused := f.jused - ((s.bin b).jpos - start) + (last.1 - start), jend := last.1, group := r.1.2 })

/-! ### Arithmetic (R231): binary32 patterns with flags -/

abbrev F32 := Nat × Exc

def bOp (args : List F32) (op : List FVal → FVal × Exc) : F32 :=
  let r := vFp fmtFP32 true 0 0 (args.map (·.1)) op
  (r.1, args.foldl (fun x a => x ||| a.2) (r.2 &&& xFast))
def bMul (a b : F32) : F32 := bOp [a, b] opMul
def bAdd (a b : F32) : F32 := bOp [a, b] (opAdd 0)
def bDiv (a b : F32) : F32 := bOp [a, b] opDiv
def bSqrt (a : F32) : F32 := bOp [a] opSqrt
def bFma (a b c : F32) : F32 := bOp [a, b, c] (fun v => opFma 0 (v.getD 0 .nan) (v.getD 1 .nan) (v.getD 2 .nan))
def bNeg (a : F32) : F32 := (a.1 ^^^ 2 ^ 31, a.2)
def bLit (x : Nat) : F32 := (x, 0)

/-- Element i of an array of FP32, or of BF16 widened exactly. -/
def bElem (half : Bool) (bs : List Byte) (i : Nat) : Nat := if half then num bs (2 * i) 2 * 2 ^ 16 else num bs (4 * i) 4

/-- Bytes of a result, narrowed to BF16 where the array holds it, and the flags. -/
def bStore (half : Bool) (v : F32) : List Byte × Exc :=
  if half then let r := vConvert 0 1 true 0 0 v.1; (bytesOf 2 r.1, v.2 ||| (r.2 &&& xFast)) else (bytesOf 4 v.1, v.2)

/-- Nearest integer of n / d, ties to even. -/
def roundRatio (n d : Nat) : Nat :=
  let q := n / d
  let r := n % d
  if 2 * r > d ∨ (2 * r = d ∧ q % 2 = 1) then q + 1 else q

/-- The INT8 cast of one element: value, flags, clamped (R231). -/
def int8Cast (w qscale : Nat) : Int × Exc × Bool :=
  let a := fmtFP32.decode w
  let b := fmtFP32.decode qscale
  let clamp := fun (neg : Bool) (x : Exc) => ((if neg then -127 else 127 : Int), x ||| xCLAMP, true)
  match a, b with
  | .nan, _ => (0, xINVALID, false)
  | _, .nan => (0, xINVALID, false)
  | .inf _, .inf _ => (0, xINVALID, false)
  | .inf s, .fin t _ _ => clamp (s != t) 0
  | .fin _ _ _, .inf _ => (0, 0, false)
  | .fin s m e, .fin t n g =>
    if n = 0 then (if m = 0 then (0, xINVALID, false) else clamp (s != t) xDIVZERO)
    else
      let q := if g ≤ e then roundRatio (m * 2 ^ (e - g).toNat) n else roundRatio m (n * 2 ^ (g - e).toNat)
      if 127 < q then clamp (s != t) 0 else (if s != t then -(q : Int) else q, 0, false)

/-- What a Bin command computes: writes in order, flags, clamps, AMAX, NONFINITE, SUMSQ. -/
structure BinOut where
  writes : List (Nat × List Byte) := []
  exc : Exc := 0
  clamps : Nat := 0
  amax : Nat := 0
  nonfinite : Nat := 0
  sumsq : Nat := 0
deriving DecidableEq, Repr

/-- The bytes of values for one array, and their flags. -/
def bArray (half : Bool) (vs : List F32) : List Byte × Exc :=
  let r := vs.map (bStore half)
  (r.flatMap (·.1), r.foldl (fun x e => x ||| e.2) 0)

/-- AMAX and NONFINITE of the written x (Table 8-6). -/
def xStats (xs : List Nat) : Nat × Nat :=
  let vs := xs.map fmtFP32.decode
  let nf := (vs.filter (fun v => v.isNan || v.isInf)).length
  (if vs.any FVal.isNan then fmtFP32.qnan else xs.foldl (fun a x => max a (x % 2 ^ 31)) 0, nf)

/-- The casts of w: writes, flags, clamps (R231, R83 to R85). -/
def binCasts (p : Nat) (d : Desc) (ws : List Nat) (qscale : Nat) : List (Nat × List Byte) × Exc × Nat :=
  let i8 := if castI d then ws.map (fun w => int8Cast w qscale) else []
  let bl := if castQ d then (List.range (d.bN / 32)).map (fun j =>
    blockEncode 8 d.bRule 0 (List.replicate 32 0) (((ws.drop (32 * j)).take 32).map fmtFP32.decode)) else []
  let fl := bl.flatMap (fun o => o.2.2)
  ((if castI d then [(lineAddr p d.bI, i8.map (fun q => BitVec.ofInt 8 q.1))] else []) ++
   (if castQ d then [(lineAddr p d.bQ, bl.flatMap (fun o => packElems 8 o.2.1)), (lineAddr p d.bQs, bl.map (fun o => BitVec.ofNat 8 o.1))] else []),
   fl.foldl (· ||| ·) (i8.foldl (fun x q => x ||| q.2.1) 0),
   (i8.filter (fun q => q.2.2)).length + (fl.filter (fun x => x &&& xCLAMP ≠ 0)).length)

/-- The parameter block (Table 8-5). -/
def param (bs : List Byte) (byte : Nat) : F32 := bLit (num bs byte 4)

/-- The update of one element by BSGDM (R231): x, b. -/
def sgdm (pb : List Byte) (x b g : F32) : F32 × F32 :=
  let g1 := bMul g (param pb 0x00)
  let b1 := bFma (param pb 0x04) b g1
  let u := bFma (param pb 0x24) x b1
  (bFma (bNeg (param pb 0x20)) u x, b1)

/-- The update of one element by BADAM (R231): x, m, v. -/
def adam (pb : List Byte) (x m v g : F32) : F32 × F32 × F32 :=
  let g1 := bMul g (param pb 0x00)
  let m1 := bFma (param pb 0x04) m (bMul (param pb 0x08) g1)
  let v1 := bFma (param pb 0x0C) v (bMul (param pb 0x10) (bMul g1 g1))
  let d := bFma (bSqrt v1) (param pb 0x1C) (param pb 0x14)
  let u := bFma (param pb 0x24) x (bDiv (bMul m1 (param pb 0x18)) d)
  (bFma (bNeg (param pb 0x20)) u x, m1, v1)

/-- SUMSQ: sixteen lanes with fma in increasing i, then the tree of R141 (R231). -/
def sumSquares (xs : List Nat) : F32 :=
  let lanes := (List.range 16).map (fun j =>
    (((List.range (xs.length / 16)).map (fun r => xs.getD (16 * r + j) 0)).foldl (fun acc x => bFma (bLit x) (bLit x) acc) (bLit 0)))
  tree bAdd 4 lanes

/-- What each code computes from the bytes of its inputs. -/
def binCompute (p : Nat) (d : Desc) (x m v g pb : List Byte) : BinOut :=
  let n := List.range d.bN
  let half := d.bMvFmt = 1
  let xs := n.map (fun i => bElem false x i)
  let gs := fun i => bLit (bElem (d.bGFmt = 1) g i)
  let ms := fun i => bLit (bElem half m i)
  let vs := fun i => bLit (bElem half v i)
  let written := fun (nx : List F32) (more : List (Nat × List Byte × Exc)) =>
    let a := bArray false nx
    let st := xStats (nx.map (·.1))
    ({ writes := (lineAddr p d.bX, a.1) :: more.map (fun w => (w.1, w.2.1)), exc := more.foldl (fun e w => e ||| w.2.2) a.2,
       amax := st.1, nonfinite := st.2 } : BinOut)
  let cast := fun (o : BinOut) (ws : List Nat) =>
    let c := binCasts p d ws (num pb 0x28 4)
    { o with writes := o.writes ++ c.1, exc := o.exc ||| c.2.1, clamps := c.2.2 }
  match d.code with
  | 0x40 => written (n.map (fun _ => bLit 0)) []
  | 0x41 => written (xs.map (fun a => bMul (bLit a) (param pb 0))) []
  | 0x42 => written (n.map (fun i => bAdd (bLit (xs.getD i 0)) (gs i))) []
  | 0x43 => let r := sumSquares xs; { exc := r.2, sumsq := r.1 }
  | 0x44 =>
    let r := n.map (fun i => sgdm pb (bLit (xs.getD i 0)) (ms i) (gs i))
    cast (written (r.map (·.1)) [(lineAddr p d.bM, bArray half (r.map (·.2)))]) (r.map (fun e => e.1.1))
  | 0x45 =>
    let r := n.map (fun i => adam pb (bLit (xs.getD i 0)) (ms i) (vs i) (gs i))
    cast (written (r.map (·.1)) [(lineAddr p d.bM, bArray half (r.map (fun e => e.2.1))), (lineAddr p d.bV, bArray half (r.map (fun e => e.2.2)))])
      (r.map (fun e => e.1.1))
  | _ => cast {} xs

/-- The result line (Table 8-6). -/
def resultLine (d : Desc) (skipped : Bool) (o : BinOut) : List Byte :=
  wordBytes (pack [(0, 8, o.exc.toNat), (8, 1, b2n skipped), (16, 8, d.code), (32, 32, sat 32 o.clamps)]) ++
  wordBytes (pack [(0, 32, o.amax), (32, 32, sat 32 o.nonfinite)]) ++ wordBytes (pack [(0, 32, o.sumsq)]) ++
  wordBytes (pack [(0, 16, d.bStep)]) ++ List.replicate 32 0

/-! ### Running a command -/

/-- A failed check of a Bin unit (R236); its furrow re-executes. -/
def State.binCheckFail (s : State) (b : BinId) (serial : Nat) (p : Posted) (check : Nat) : State :=
  let s := s.modBinFurrow b serial (fun f => { f with failed := true, strike := true, check := check })
  (s.wantCheck (binCheckKey b)).err 0x01 1 ⟨2, b.plot.val, b.unit.val⟩ (causeOf p.desc p.furrowId check) 3 0

/-- The command in hand is over: counts, sticky word, signal (R229, R237). -/
def State.binDone (s : State) (b : BinId) (p : Posted) (serial : Nat) (elems : Nat) (exc : Exc) : State :=
  let pb := plotB b.plot.val
  let u := b.unit.val
  let s := (s.wrapAdd pb F.BIN_DONE_DONE 1 u).wrapAdd pb F.BIN_ELEMS_ELEMS elems u
  let s := s.wr pb F.BIN_STAT_STICKY (s.rd pb F.BIN_STAT_STICKY u ||| exc.toNat) u
  (s.modBin b (fun x => { x with run := none })).postedSignal p (.bin b serial) u 2

/-- A Bin command: its reads, held on open extents of others (R57); the journal; the work. -/
def binRun (b : BinId) (code : Nat) (s : State) : Out :=
  .next (
    let pl := b.plot.val
    match (s.bin b).run with
    | none => s
    | some r =>
      let d := r.p.desc
      let serial := r.p.bf.getD 0
      let o := Owner.bin b serial
      let rq := 17 + b.unit.val
      if d.code ≠ code || s.postedWaits r.p o b.unit.val 2 then s
      else if s.binSkips pl d then
        let w := s.unitWrite o rq (lineAddr pl d.bR) (resultLine d true {}) r.p.cause
        let s := (w.2.binResp b serial w.1).satAdd (plotB pl) F.BIN_DONE_SKIPPED 1 b.unit.val
        s.binDone b r.p serial 0 0
      else
        let u := binUse code
        let rs := (if code = 0x40 then [] else [xExt pl d]) ++ (if u.m then [mExt pl d] else []) ++ (if u.v then [vExt pl d] else []) ++
          (if u.g then [gExt pl d] else []) ++ (if u.p then [binExt pl d.bP 64] else [])
        match (if r.denied then none else s.firstBlocked o rs) with
        | some h =>
          let s := if r.heldOn.isSome then s else s.countHeld
          s.modBin b (fun x => { x with run := some { r with heldOn := some h } })
        | none =>
          let t := s.readRanges rq rs r.p.cause
          let s := (t.2.2.binResp b serial t.1).binResp b serial (if r.denied then rNOT_COMMITTED else rOK)
          let pick := fun (used : Bool) (rows : List (List Byte)) => if used then (rows.headD [], rows.tail) else ([], rows)
          let x := pick (code ≠ 0x40) (deniedZero r.denied r.heldOn rs t.2.1)
          let m := pick u.m x.2
          let v := pick u.v m.2
          let g := pick u.g v.2
          let p := pick u.p g.2
          let s := s.journalAll b serial r.p.cause (journaled pl d)
          let out := binCompute pl d x.1 m.1 v.1 g.1 p.1
          let ws := out.writes ++ (if u.r then [(lineAddr pl d.bR, resultLine d false out)] else [])
          let w := s.unitWrites o rq ws r.p.cause
          let s := w.2.binResp b serial w.1
          let s := if (s.bin b).injCompare then
              ((s.modBin b (fun x => { x with injCompare := false })).satAdd (plotB pl) F.BIN_CHECK_COMPARE_ERRS 1 b.unit.val).binCheckFail b serial r.p 2
            else s
          let s := if (s.bin b).parityBad then
              ((s.modBin b (fun x => { x with parityBad := false })).satAdd (plotB pl) F.BIN_CHECK_PARITY_ERRS 1 b.unit.val).binCheckFail b serial r.p 3
            else s
          s.binDone b r.p serial d.bN out.exc)

def execBzero (b : BinId) (s : State) : Out := binRun b 0x40 s
def execBscale (b : BinId) (s : State) : Out := binRun b 0x41 s
def execBacc (b : BinId) (s : State) : Out := binRun b 0x42 s
def execBnorm (b : BinId) (s : State) : Out := binRun b 0x43 s
def execBsgdm (b : BinId) (s : State) : Out := binRun b 0x44 s
def execBadam (b : BinId) (s : State) : Out := binRun b 0x45 s
def execBcast (b : BinId) (s : State) : Out := binRun b 0x46 s

/-- Write a failed Bin furrow's journal back, newest first, and retire it (R232), at the boundary or as its plot is cleared: the plot's wrapper does not stand in the way
of its own units (R411). -/
def State.replay (s : State) (b : BinId) (f : BinFurrow) : State :=
  let doms := s.boot.plotDoms
  let s := f.journal.foldl (fun s e => (s.memWrite true false (17 + b.unit.val) (lineAddr b.plot.val e.1) e.2).2)
    { s with boot.plotDoms := doms.erase b.plot.val }
  let s := { s with boot.plotDoms := doms }
  let s := if f.journal = [] then s else s.satAdd (plotB b.plot.val) F.BIN_CHECK_REPLAYS 1 b.unit.val
  s.modBinFurrow b f.serial (fun g => { g with journal := [], jused := 0, jend := 0, group := [] })

/-- BIN_CHECK_CTL.CLEAR (R237). -/
def execBinCheckClear (b : BinId) (s : State) : Out :=
  let pb := plotB b.plot.val
  let u := b.unit.val
  s.unlessFallow b.plot.val (fun s => ((s.wr pb F.BIN_CHECK_COMPARE_ERRS 0 u).wr pb F.BIN_CHECK_PARITY_ERRS 0 u).wr pb F.BIN_CHECK_REPLAYS 0 u)

/-- BIN_CHECK_CTL.INJECT_COMPARE; discarded while the unit runs on one half (R447). -/
def execBinInjectCompare (b : BinId) (s : State) : Out :=
  s.unlessFallow b.plot.val (fun s =>
    if tb (s.rd (plotB b.plot.val) F.FLT_PLOT_BIN_SINGLE) b.unit.val then s else s.modBin b (fun x => { x with injCompare := true }))

/-- BIN_CFG (R237): discarded while QUEUED, BUSY or JOURNAL_USED is not zero, and for a JOURNAL_LINES above 8,191. -/
def State.binCfg (s : State) (b : BinId) (v : W64) : State :=
  let x := s.bin b
  let pb := plotB b.plot.val
  if x.queue ≠ [] ∨ x.run.isSome ∨ x.jused ≠ 0 ∨ 8191 < fld v 24 14 then s
  else (s.wr pb F.BIN_CFG_JOURNAL_BASE (fld v 0 21) b.unit.val).wr pb F.BIN_CFG_JOURNAL_LINES (fld v 24 14) b.unit.val

def execBinCfgWrite (b : BinId) (v : W64) (s : State) : Out := .next (s.binCfg b v)

end Sys2Proof.Machine
end

