-- ==== Sys2Proof/Machine/Crypto.lean ====
section
/-! DEFINITION. SHA-384 and ECDSA on brainpoolP384r1, the functions that Hayward computes (R421). The manual names the two standards; their constants and steps are
those of FIPS 180-4, FIPS 186-4 and RFC 5639. PRESUMED, log 14. -/

namespace Sys2Proof.Machine

/-! ### SHA-384 -/

/-- Round constants 0 to 79. -/
def shaK : List Nat :=
  [0x428A2F98D728AE22, 0x7137449123EF65CD, 0xB5C0FBCFEC4D3B2F, 0xE9B5DBA58189DBBC, 0x3956C25BF348B538, 0x59F111F1B605D019,
   0x923F82A4AF194F9B, 0xAB1C5ED5DA6D8118, 0xD807AA98A3030242, 0x12835B0145706FBE, 0x243185BE4EE4B28C, 0x550C7DC3D5FFB4E2,
   0x72BE5D74F27B896F, 0x80DEB1FE3B1696B1, 0x9BDC06A725C71235, 0xC19BF174CF692694, 0xE49B69C19EF14AD2, 0xEFBE4786384F25E3,
   0x0FC19DC68B8CD5B5, 0x240CA1CC77AC9C65, 0x2DE92C6F592B0275, 0x4A7484AA6EA6E483, 0x5CB0A9DCBD41FBD4, 0x76F988DA831153B5] ++
  [0x983E5152EE66DFAB, 0xA831C66D2DB43210, 0xB00327C898FB213F, 0xBF597FC7BEEF0EE4, 0xC6E00BF33DA88FC2, 0xD5A79147930AA725,
   0x06CA6351E003826F, 0x142929670A0E6E70, 0x27B70A8546D22FFC, 0x2E1B21385C26C926, 0x4D2C6DFC5AC42AED, 0x53380D139D95B3DF,
   0x650A73548BAF63DE, 0x766A0ABB3C77B2A8, 0x81C2C92E47EDAEE6, 0x92722C851482353B, 0xA2BFE8A14CF10364, 0xA81A664BBC423001,
   0xC24B8B70D0F89791, 0xC76C51A30654BE30, 0xD192E819D6EF5218, 0xD69906245565A910, 0xF40E35855771202A, 0x106AA07032BBD1B8] ++
  [0x19A4C116B8D2D0C8, 0x1E376C085141AB53, 0x2748774CDF8EEB99, 0x34B0BCB5E19B48A8, 0x391C0CB3C5C95A63, 0x4ED8AA4AE3418ACB,
   0x5B9CCA4F7763E373, 0x682E6FF3D6B2B8A3, 0x748F82EE5DEFB2FC, 0x78A5636F43172F60, 0x84C87814A1F0AB72, 0x8CC702081A6439EC,
   0x90BEFFFA23631E28, 0xA4506CEBDE82BDE9, 0xBEF9A3F7B2C67915, 0xC67178F2E372532B, 0xCA273ECEEA26619C, 0xD186B8C721C0C207,
   0xEADA7DD6CDE0EB1E, 0xF57D4F7FEE6ED178, 0x06F067AA72176FBA, 0x0A637DC5A2C898A6, 0x113F9804BEF90DAE, 0x1B710B35131C471B,
   0x28DB77F523047D84, 0x32CAAB7B40C72493, 0x3C9EBE0A15C9BEBC, 0x431D67C49C100D4C, 0x4CC5D4BECB3E42B6, 0x597F299CFC657E2A,
   0x5FCB6FAB3AD6FAEC, 0x6C44198C4A475817]

/-- The initial hash value. -/
def shaInit : List Nat :=
  [0xCBBB9D5DC1059ED8, 0x629A292A367CD507, 0x9159015A3070DD17, 0x152FECD8F70E5939, 0x67332667FFC00B31, 0x8EB44A8768581511,
   0xDB0C2E0D64F98FA7, 0x47B5481DBEFA4FA4]

/-- A 64-bit word turned right. -/
def rotr64 (x n : Nat) : Nat := ((x >>> n) ||| (x <<< (64 - n))) % 2 ^ 64

/-- Big-endian number of a list of bytes. -/
def beNum (bs : List Byte) : Nat := bs.foldl (fun a b => 256 * a + b.toNat) 0

/-- The message with its padding: a one bit, zeros, and the bit length in 16 bytes. -/
def shaPad (bs : List Byte) : List Byte :=
  let n := bs.length
  bs ++ [0x80] ++ List.replicate ((239 - n % 128) % 128) 0 ++ (bytesOf 16 (8 * n)).reverse

/-- The next word of a message schedule whose latest word comes first. -/
def shaNext (ws : List Nat) : Nat :=
  let x := ws.getD 1 0
  let y := ws.getD 14 0
  let s1 := rotr64 x 19 ^^^ rotr64 x 61 ^^^ (x >>> 6)
  let s0 := rotr64 y 1 ^^^ rotr64 y 8 ^^^ (y >>> 7)
  (s1 + ws.getD 6 0 + s0 + ws.getD 15 0) % 2 ^ 64

/-- The 80 words of a block's schedule, in order. -/
def shaSchedule (block : List Byte) : List Nat :=
  (Nat.repeat (fun ws => shaNext ws :: ws) 64 (((chunks 8 16 block).map beNum).reverse)).reverse

/-- One round on the eight working variables. -/
def shaRound (v : List Nat) (kw : Nat × Nat) : List Nat :=
  match v with
  | [a, b, c, d, e, f, g, h] =>
    let t := h + (rotr64 e 14 ^^^ rotr64 e 18 ^^^ rotr64 e 41) + ((e &&& f) ^^^ ((2 ^ 64 - 1 - e) &&& g)) + kw.1 + kw.2
    let u := (rotr64 a 28 ^^^ rotr64 a 34 ^^^ rotr64 a 39) + ((a &&& b) ^^^ (a &&& c) ^^^ (b &&& c))
    [(t + u) % 2 ^ 64, a, b, c, (d + t) % 2 ^ 64, e, f, g]
  | v => v

/-- One block. -/
def shaBlock (hs : List Nat) (block : List Byte) : List Nat :=
  List.zipWith (fun x y => (x + y) % 2 ^ 64) hs ((shaK.zip (shaSchedule block)).foldl shaRound hs)

/-- SHA-384; byte i of the hash is bits [8i+7:8i] of the result. -/
def sha384 (bs : List Byte) : BitVec 384 :=
  let m := shaPad bs
  let hs := (chunks 128 (m.length / 128) m).foldl shaBlock shaInit
  BitVec.ofNat 384 (ofBytes ((hs.take 6).flatMap (fun h => (bytesOf 8 h).reverse)))

/-! ### ECDSA on brainpoolP384r1 -/

/-- The field's prime, the coefficients, the base point and its order. -/
def ecP : Nat := 0x8CB91E82A3386D280F5D6F7E50E641DF152F7109ED5456B412B1DA197FB71123ACD3A729901D1A71874700133107EC53
def ecA : Nat := 0x7BC382C63D8C150C3C72080ACE05AFA0C2BEA28E4FB22787139165EFBA91F90F8AA5814A503AD4EB04A8C7DD22CE2826
def ecB : Nat := 0x04A8C7DD22CE28268B39B55416F0447C2FB77DE107DCD2A62E880EA53EEB62D57CB4390295DBC9943AB78696FA504C11
def ecGx : Nat := 0x1D1C64F068CF45FFA2A63A81B7C13F6B8847A3E77EF14FE3DB7FCAFE0CBD10E8E826E03436D646AAEF87B2E247D4AF1E
def ecGy : Nat := 0x8ABE1D7520F9C2A45CB1EB8E95CFD55262B70B29FEEC5864E19C054FF99129280E4646217791811142820341263C5315
def ecN : Nat := 0x8CB91E82A3386D280F5D6F7E50E641DF152F7109ED5456B31F166E6CAC0425A7CF3AB6AF6B7FC3103B883202E9046565

/-- A point in Jacobian coordinates; z = 0 is the point at infinity. -/
structure EcPoint where
  x : Nat
  y : Nat
  z : Nat
deriving DecidableEq, Repr

def EcPoint.none : EcPoint := ⟨1, 1, 0⟩

/-- x - y in the field. -/
def ecSub (x y : Nat) : Nat := (x + ecP - y % ecP) % ecP

def EcPoint.double (p : EcPoint) : EcPoint :=
  let yy := p.y * p.y % ecP
  let s := 4 * p.x * yy % ecP
  let z2 := p.z * p.z % ecP
  let m := (3 * p.x * p.x + ecA * (z2 * z2 % ecP)) % ecP
  let x := ecSub (m * m) (2 * s)
  ⟨x, ecSub (m * ecSub s x) (8 * yy * yy), 2 * p.y * p.z % ecP⟩

def EcPoint.add (p q : EcPoint) : EcPoint :=
  if p.z = 0 then q
  else if q.z = 0 then p
  else
    let zp := p.z * p.z % ecP
    let zq := q.z * q.z % ecP
    let u := p.x * zq % ecP
    let s := p.y * (zq * q.z % ecP) % ecP
    let h := ecSub (q.x * zp) u
    let r := ecSub (q.y * (zp * p.z % ecP)) s
    if h = 0 then (if r = 0 then p.double else EcPoint.none)
    else
      let hh := h * h % ecP
      let hhh := hh * h % ecP
      let v := u * hh % ecP
      let x := ecSub (r * r) (hhh + 2 * v)
      ⟨x, ecSub (r * ecSub v x) (s * hhh), h * p.z % ecP * q.z % ecP⟩

/-- `k` times a point, for k below 2^384. -/
def EcPoint.mul (k : Nat) (p : EcPoint) : EcPoint :=
  (List.range 384).foldr (fun i (a : EcPoint) => let d := a.double; if k.testBit i then d.add p else d) EcPoint.none

/-- x to the power e modulo m, for e below 2^384. -/
def powMod (m x e : Nat) : Nat :=
  (List.range 384).foldr (fun i a => let d := a * a % m; if e.testBit i then d * x % m else d) 1

/-- Does the signature (r then s, 48 bytes each, big-endian) of a digest verify under a 97-byte uncompressed key (R394, R421)? -/
def ecdsaVerify (key : List Byte) (digest : BitVec 384) (sig : List Byte) : Bool :=
  let qx := beNum (sub key 1 48)
  let qy := beNum (sub key 49 48)
  let r := beNum (sub sig 0 48)
  let s := beNum (sub sig 48 48)
  let e := beNum (bytesOf 48 digest.toNat)
  let w := powMod ecN s (ecN - 2)
  let p := (EcPoint.mul (e * w % ecN) ⟨ecGx, ecGy, 1⟩).add (EcPoint.mul (r * w % ecN) ⟨qx, qy, 1⟩)
  let zi := powMod ecP p.z (ecP - 2)
  num key 0 1 = 4 && decide (qx < ecP) && decide (qy < ecP) && qy * qy % ecP = (qx * qx * qx + ecA * qx + ecB) % ecP &&
  r ≠ 0 && decide (r < ecN) && s ≠ 0 && decide (s < ecN) && p.z ≠ 0 && p.x * (zi * zi % ecP) % ecP % ecN = r

end Sys2Proof.Machine
end

