-- ==== Sys2Proof/Machine/Granary.lean ====
section
/-! DEFINITION. Upkeep of the Granary and the Barn: repair, Glean's sweep and the start of a request, injections, MR4, retirement (R211 to R218, R237,
R242 to R249, R258). -/

namespace Sys2Proof.Machine

/-- A plot's Granary is in service. -/
def State.plotLive (s : State) (p : Nat) : Bool := !s.fallowPlot p && decide (s.boot.plotDoms.get Dom.run p = .run)

/-- GRANARY_REPAIR: the oldest queued line is corrected and written back; a line found clean is not written (R212). -/
def execGranaryRepair (p : Fin 32) (s : State) : Out :=
  s.unlessFallow p.val (fun s =>
    match s.mx.repairQ.get [] p.val with
    | [] => s
    | x :: rest =>
      let pb := plotB p.val
      let s := ({ s with mx.repairQ := s.mx.repairQ.put [] p.val rest }).wr pb F.GRAN_REPAIR_QUEUED rest.length
      let line := p.val * 0x20_0000 + x
      match s.mx.granBad.get [] line with
      | [_] => ({ s with mx.granBad := s.mx.granBad.erase line }).wrapAdd pb F.GRAN_REPAIR_REPAIRED 1
      | _ => s)

/-! ### Glean (R215 to R218) -/

def State.glean (s : State) (p : Nat) : GleanSt := s.mx.glean.get {} p
def State.modGlean (s : State) (p : Nat) (g : GleanSt → GleanSt) : State := { s with mx.glean := s.mx.glean.put {} p (g (s.glean p)) }

/-- Glean reads one line (R211, R213, R215): a single error is repaired at once. -/
def State.gleanLine (s : State) (p x : Nat) (r : GleanRun) : GleanRun × State :=
  let pb := plotB p
  let line := p * 0x20_0000 + x
  let s := s.wrapAdd telB F.GRAN_RD_BYTES 64 p
  let r := { r with tStart := r.tStart.or (some s.stamp) }
  match s.mx.granBad.get [] line with
  | [] => (r, s)
  | [sym] =>
    let s := ({ s.granCe p x sym with mx.granBad := s.mx.granBad.erase line }).wrapAdd pb F.GRAN_REPAIR_REPAIRED 1
    ({ r with corrected := r.corrected + 1, repaired := r.repaired + 1 }, s)
  | _ => ({ r with uncorrectable := r.uncorrectable + 1, firstUc := r.firstUc.or (some x) }, s.granUc p x 0 27)

/-- Glean reads `n` lines from line `x`. -/
def State.gleanLines (s : State) (p : Nat) : Nat → Nat → GleanRun → GleanRun × State
  | 0, _, r => (r, s)
  | n + 1, x, r => let t := s.gleanLine p x r; t.2.gleanLines p n (x + 1) t.1

/-- A summary record (Table 8-1). -/
def gleanSummary (s : State) (p type status start lines digest tag held : Nat) (r : GleanRun) : List Byte :=
  wordBytes (pack [(0, 8, type), (8, 5, p), (16, 16, s.device), (32, 8, status)]) ++
  wordBytes (pack [(0, 21, start), (32, 22, lines)]) ++
  wordBytes (BitVec.ofNat 64 (r.tStart.getD s.stamp)) ++ wordBytes (BitVec.ofNat 64 s.stamp) ++
  wordBytes (pack [(0, 32, r.corrected), (32, 32, r.uncorrectable)]) ++
  wordBytes (pack [(0, 21, r.firstUc.getD 0), (21, 1, b2n r.firstUc.isSome), (32, 32, r.repaired)]) ++
  wordBytes (BitVec.ofNat 64 digest) ++ wordBytes (pack [(0, 32, tag), (32, 32, held)])

/-- STATUS of a summary whose reads were all served. -/
def GleanRun.status (r : GleanRun) : Nat := if r.uncorrectable ≠ 0 then 2 else if r.corrected ≠ 0 then 1 else 0

/-- The sweep wraps: SWEEPS rises, and a sweep summary enters the Barn ring (R215, R218). -/
def State.sweepEnd (s : State) (p : Nat) : State :=
  let pb := plotB p
  let r := (s.glean p).sweep
  let s := (s.wrapAdd pb F.GLEAN_STAT_SWEEPS 1).modGlean p (fun g => { g with sweep := {} })
  let sz := s.rd pb F.GLEAN_SUM_RING_SIZE_LOG2
  if !s.rdB pb F.GLEAN_CFG_SUM_EN || sz = 0 then s
  else
    let a := 64 * s.rd pb F.GLEAN_SUM_RING_BASE + 64 * (s.rd pb F.GLEAN_SUM_RING_WIDX % 2 ^ sz)
    let bs := gleanSummary s p 1 r.status 0 0x20_0000 0 0 0 r
    (if s.touchesFallow a 64 then s else (s.memWrite false true 27 a bs).2).wrapAdd pb F.GLEAN_SUM_RING_WIDX 1

/-- GLEAN_SWEEP: the lines of this Pass (R215). While a request runs the sweep pauses (R217). -/
def execGleanSweep (p : Fin 32) (s : State) : Out :=
  .next (
    let pl := p.val
    let pb := plotB pl
    let g := s.glean pl
    if !s.plotLive pl || !s.rdB pb F.GLEAN_CFG_ENABLE || g.req.isSome || g.swept = some s.passIdx then s
    else
      let pos := s.rd pb F.GLEAN_STAT_POS
      let first := min g.pace (0x20_0000 - pos)
      let t := s.gleanLines pl first pos g.sweep
      let s := t.2.modGlean pl (fun g => { g with sweep := t.1, swept := some s.passIdx })
      if pos + g.pace < 0x20_0000 then s.wr pb F.GLEAN_STAT_POS (pos + first)
      else
        let s := s.sweepEnd pl
        let t := s.gleanLines pl (g.pace - first) 0 {}
        (t.2.modGlean pl (fun g => { g with sweep := t.1 })).wr pb F.GLEAN_STAT_POS (g.pace - first))

/-- GLEAN_REQUEST: GLEAN_REQ_CTL.GO (R217). -/
def execGleanRequest (p : Fin 32) (s : State) : Out :=
  s.unlessFallow p.val (fun s =>
    let pl := p.val
    let pb := plotB pl
    let start := s.rd pb F.GLEAN_REQ_RANGE_START
    let lines := s.rd pb F.GLEAN_REQ_RANGE_LINES
    if (s.glean pl).req.isSome || lines = 0 || 0x20_0000 < start + lines then s.satAdd pb F.GLEAN_REQ_CTL_REFUSED 1
    else
      s.modGlean pl (fun g => { g with
        req := some { start := start, lines := lines, tag := s.rd pb F.GLEAN_REQ_CTL_TAG, dest := s.rd pb F.GLEAN_REQ_DEST_ADDR / 64 * 64 } }))

/-- One step of the digest over a line's bytes (R217). -/
def crc64Bytes (c : Nat) (bs : List Byte) : Nat := bs.foldl (fun c b => Nat.repeat (crcStepR 0xC96C5795D7870F42) 8 (c ^^^ b.toNat)) c

/-- Read the request's lines up to the end or to a line that an open extent holds (R57, R217): at most `n` lines. -/
def State.gleanServe (s : State) (p : Nat) : Nat → GleanReq → GleanReq × State
  | 0, q => (q, s)
  | n + 1, q =>
    if q.lines ≤ q.next then (q, s)
    else
      let x := q.start + q.next
      if s.blocked none (lineAddr p x) 64 then
        if q.held.contains x then (q, s) else ({ q with held := q.held ++ [x] }, s.countHeld)
      else
        let t := s.gleanLine p x q.run
        t.2.gleanServe p n { q with next := q.next + 1, run := t.1, crc := crc64Bytes q.crc (t.2.bytes (lineAddr p x) 64) }

/-! ### Injections and clears (R237, R258) -/

def execGranEccClear (p : Fin 32) (s : State) : Out :=
  s.unlessFallow p.val (fun s => (s.wr (plotB p.val) F.GRAN_ECC_CORRECTED 0).wr (plotB p.val) F.GRAN_ECC_UNCORRECTABLE 0)

/-- The next full-line write of the plot stores one symbol flipped. -/
def execInjectSingle (p : Fin 32) (s : State) : Out := s.unlessFallow p.val (fun s => { s with mx.granInj := s.mx.granInj.insert p.val 1 })
/-- The same with two symbols flipped. -/
def execInjectDouble (p : Fin 32) (s : State) : Out := s.unlessFallow p.val (fun s => { s with mx.granInj := s.mx.granInj.insert p.val 2 })

/-- The next whole-block write stores every symbol of a package inverted; INJ_PKG names a package from 0 to 17. -/
def execBarnEccInject (pkg : BitVec 5) (s : State) : Out :=
  let s := s.wr barnB F.BARN_ECC_CTL_INJ_PKG pkg.toNat
  .next (if pkg.toNat < 18 then { s with mx.barnInj := some pkg.toNat } else s)

/-- BARN_ECC_CTL.CLEAR: BARN_ECC and every BARN_PKG_k.CORRECTED. -/
def execBarnEccClear (s : State) : Out :=
  let s := (s.wr barnB F.BARN_ECC_CORRECTED 0).wr barnB F.BARN_ECC_UNCORRECTABLE 0
  .next ((List.range 18).foldl (fun s k => s.wr barnB F.BARN_PKG_CORRECTED 0 k) s)

/-- BARN_RETIRE.GO: at the next boundary; discarded if a package is retired or PKG exceeds 17 (R258). -/
def execBarnRetireRequest (pkg : BitVec 5) (s : State) : Out :=
  .next (if s.retiredPkg.isSome || 17 < pkg.toNat then s else { s with mx.retireDue := s.mx.retireDue ++ [pkg.toNat] })

/-- Retire a package: its state and its record (R244). -/
def State.retirePkg (s : State) (k : Nat) : State :=
  ((s.wr barnB F.BARN_STAT_RETIRED_PKG k).wr barnB F.BARN_STAT_STATE 4).err 0x05 2 ⟨7, 0, k⟩ {} k 0

/-- A package due for retirement: with one retired already, a package that reached the threshold writes its record only, and one that software named is
discarded (R244, R258). -/
def State.retireOne (s : State) (k : Nat) : State :=
  match s.retiredPkg with
  | none => s.retirePkg k
  | some r => if r ≠ k && s.mx.retireSeen.contains k then s.err 0x05 2 ⟨7, 0, k⟩ {} k 1 else s

/-- The boundary's part of retirement (R244): the packages due are taken in the order in which they came due, those last whose count a lowered threshold has come
down to. The window of corrections starts again every 65,536 Passes. -/
def State.barnBoundary (s : State) : State :=
  let s := (List.range 18).foldl State.noteReached s
  let s := s.mx.retireDue.eraseDups.foldl State.retireOne { s with mx.retireDue := [] }
  if s.passIdx % 0x10000 = 0 then (List.range 18).foldl (fun s k => s.wr barnB F.BARN_PKG_WINDOW 0 k) { s with mx.retireSeen := [] } else s

/-! ### Refresh and upkeep of the Barn (R248, R249) -/

/-- BARN_REFRESH: refresh changes no stored value (R249). -/
def execBarnRefresh (s : State) : Out := .next s

/-- BARN_UPKEEP: drift correction and calibration change no stored value (R249). -/
def execBarnUpkeep (s : State) : Out := .next s

/-- The refresh-rate fields of an MR4 read: the highest rate asked for holds for all (R248). -/
def State.mr4Read (s : State) (reports : List Mr4) : State :=
  let rs := reports.zipIdx
  let s := rs.foldl (fun s r => s.wr barnB F.BARN_PKG_MR4_RATE r.1.rate.toNat r.2) s
  let s := s.wr barnB F.BARN_STAT_REFRESH_RATE (reports.foldl (fun m r => max m (Config.mr4Rate r.rate.toNat % 3)) 0)
  s

end Sys2Proof.Machine
end

