-- ==== Sys2Proof/Machine/ControlCore.lean ====
section
/-! DEFINITION. The control core (chapter 6): the conditions common to every instruction, and the instructions of Table 6-2 but for
CSRR and CSRW. A command for a core that is halted, waits or is not live changes nothing (log 30). -/

namespace Sys2Proof.Machine

/-- Where Table 6-2 allows an instruction (R160). -/
inductive Where where
  | inside
  | outside
  | any
deriving DecidableEq, Repr

/-- Is an instruction legal at the point the core has reached? -/
def Where.ok (w : Where) (c : Core) : Bool :=
  match w with
  | .inside => c.inFurrow
  | .outside => !c.inFurrow
  | .any => true

/-- The core issues instructions: live, not halted, not waiting. -/
def State.issuing (s : State) (k : CoreId) : Bool :=
  s.slotLive k && decide ((s.slot k).coreDom = .run) && !(s.core k).halted && decide ((s.core k).wait = Wait.none)

/-- An enabled breakpoint register names the instruction at the program counter, and DEBUG_EN is 1 (R177). A stepped instruction is not
stopped by one (R179). -/
def State.breakpoint (s : State) (k : CoreId) : Bool :=
  let c := s.core k
  let b := slotB k
  s.rdB b F.CORE_DBG_DEBUG_EN && !c.stepping &&
    (List.range 4).any (fun i => s.rdB b F.CORE_BP_ENABLE i && s.rd b F.CORE_BP_OFFSET i = c.pc && (s.rdB b F.CORE_BP_BANK i == c.bank))

/-- A halt by the debug unit, code 0x0B, at the next instruction (R171, R177). -/
def State.haltDebug (s : State) (k : CoreId) : State :=
  let c := s.core k
  s.halt k 0x0B 6 c.bank c.pc 0

/-- After a stepped instruction has completed, the core halts again (R179). -/
def State.stepDone (s : State) (k : CoreId) : State :=
  if (s.core k).stepping then s.haltDebug k else s

/-- The pair has found a fault: it stops issuing until the next boundary (R152). -/
def State.stopPair (s : State) (k : CoreId) : State := s.modCore k (fun c => { c with wait := Wait.stopped })

/-- A lockstep mismatch is counted and recorded, and the furrow in hand is FAIL at vote close (R152). -/
def State.mismatch (s : State) (k : CoreId) : State :=
  let s := s.modCore k (fun c => { c with injLockstep := false })
  (s.satAdd (slotB k) F.CORE_CHECK_LOCKSTEP_ERRS 1).checkFail k 2 4 {}

/-- A forced lockstep mismatch, if one waits, strikes the instruction that retires (R152, R180). -/
def State.lockstep (s : State) (k : CoreId) : State :=
  if (s.core k).injLockstep then (s.mismatch k).stopPair k else s

/-- An instruction retires and the core goes on at an offset. -/
def State.retireAt (s : State) (k : CoreId) (pc : Nat) : State :=
  let s := (s.branchCover k (s.core k).pc).wrapAdd (slotB k) F.CORE_INSTR_RETIRED 1
  ((s.modCore k (fun c => { c with pc := pc, wait := Wait.none })).lockstep k).stepDone k

/-- An instruction retires without a taken branch; past offset 16,380 the core halts with code 0x01 and the instruction has taken effect (R161). -/
def State.retire (s : State) (k : CoreId) : State :=
  let pc := (s.core k).pc
  if pc = 16380 then
    let s := (s.branchCover k pc).wrapAdd (slotB k) F.CORE_INSTR_RETIRED 1
    ((s.modCore k (fun c => { c with wait := Wait.none })).lockstep k).haltCore k 0x01
  else s.retireAt k (pc + 4)

/-- A taken branch or jump: alignment first, then the end of the bank (R161). -/
def State.jump (s : State) (k : CoreId) (target : Int) (effect : State → State) : State :=
  if target % 4 ≠ 0 then s.haltCore k 0x03
  else if target < 0 ∨ 16380 < target then s.haltCore k 0x01
  else
    let s := (effect s).branchCover k (s.core k).pc
    (s.branchTo k target.toNat).retireAt k target.toNat

/-- A double-bit error in a word of the core's memories is a fault (R153): it is counted, the furrow in hand is FAIL with a strike, the record names the byte and the copy,
and the pair stops. The word is rebuilt from the other copy before the re-execution runs (R449). -/
def State.memFault (s : State) (k : CoreId) (detail copy : Nat) : State :=
  let s := s.satAdd (slotB k) F.CORE_CHECK_MEM_UNCORRECTED 1
  let id := (s.core k).curId
  let own := (s.core k).cur.isSome
  let s := s.modCur k (fun f => { f with failed := true, strike := true, check := 5 })
  let s := if own && !s.obs.selfCheck.contains k.key then { s with obs.selfCheck := s.obs.selfCheck ++ [k.key] } else s
  (s.err 0x02 1 (locSlot k) { furrow := id, check := 5 } detail copy).stopPair k

/-- Flipped bits in the words of a bank (R153). -/
def Slot.imErr (x : Slot) (b : Bool) : SMap Nat := if b then x.imErrB else x.imErrA
def Slot.setImErr (x : Slot) (b : Bool) (m : SMap Nat) : Slot := if b then { x with imErrB := m } else { x with imErrA := m }

/-- The fetch of the instruction at the program counter: a single-bit error is corrected, written back and counted, a double-bit error is a fault (R153). -/
def State.fetched (s : State) (k : CoreId) (body : State → State) : State :=
  let c := s.core k
  let w := c.pc / 8
  let e := (s.slot k).imErr c.bank
  match e.find? w with
  | none => body s
  | some n =>
    let s := s.modSlot k (fun x => x.setImErr c.bank (e.erase w))
    if n ≤ 1 then body (s.satAdd (slotB k) F.CORE_CHECK_MEM_CORRECTED 1) else s.memFault k (w * 8) 0

/-- What every instruction of the core does first: the fetch, breakpoints, where it is legal, its reserved fields (R153, R160, R161, R177). -/
def coreStep (k : CoreId) (w : Where) (fieldsOk : Bool) (body : State → State) (s : State) : Out :=
  .next (if !s.issuing k then s else s.fetched k (fun s =>
    if s.breakpoint k then s.haltDebug k
    else if !w.ok (s.core k) then s.haltCore k 0x01
    else if !fieldsOk then s.haltCore k 0x02
    else body s))

/-! ### Arithmetic -/

/-- gd := f ga gb. -/
def aluR (k : CoreId) (r : RForm) (f : W64 → W64 → W64) (s : State) : Out :=
  coreStep k .any (r.rsv = 0 && r.fn = 0) (fun s => (s.setG k r.rd (f (s.g k r.ra) (s.g k r.rb))).retire k) s

/-- gd := f ga v, for an immediate operand. -/
def aluI (k : CoreId) (i : IForm) (ok : Bool) (v : W64) (f : W64 → W64 → W64) (s : State) : Out :=
  coreStep k .any ok (fun s => (s.setG k i.rd (f (s.g k i.ra) v)).retire k) s

def shiftAmount (b : W64) : Nat := b.toNat % 64

def execAdd (k : CoreId) (f : RForm) (s : State) : Out := aluR k f (· + ·) s
def execSub (k : CoreId) (f : RForm) (s : State) : Out := aluR k f (· - ·) s
def execAndR (k : CoreId) (f : RForm) (s : State) : Out := aluR k f (· &&& ·) s
def execOrR (k : CoreId) (f : RForm) (s : State) : Out := aluR k f (· ||| ·) s
def execXorR (k : CoreId) (f : RForm) (s : State) : Out := aluR k f (· ^^^ ·) s
def execSll (k : CoreId) (f : RForm) (s : State) : Out := aluR k f (fun a b => a <<< shiftAmount b) s
def execSrl (k : CoreId) (f : RForm) (s : State) : Out := aluR k f (fun a b => a >>> shiftAmount b) s
def execSra (k : CoreId) (f : RForm) (s : State) : Out := aluR k f (fun a b => a.sshiftRight (shiftAmount b)) s
def execMul (k : CoreId) (f : RForm) (s : State) : Out := aluR k f (· * ·) s
def execMulhu (k : CoreId) (f : RForm) (s : State) : Out :=
  aluR k f (fun a b => BitVec.ofNat 64 (a.toNat * b.toNat / 2 ^ 64)) s
def execSlt (k : CoreId) (f : RForm) (s : State) : Out := aluR k f (fun a b => if a.slt b then 1 else 0) s
def execSltu (k : CoreId) (f : RForm) (s : State) : Out := aluR k f (fun a b => if a.ult b then 1 else 0) s
def execMinS (k : CoreId) (f : RForm) (s : State) : Out := aluR k f (fun a b => if a.slt b then a else b) s
def execMaxS (k : CoreId) (f : RForm) (s : State) : Out := aluR k f (fun a b => if a.slt b then b else a) s

def execAddi (k : CoreId) (f : IForm) (s : State) : Out := aluI k f true f.sext (· + ·) s
def execAndi (k : CoreId) (f : IForm) (s : State) : Out := aluI k f true f.zext (· &&& ·) s
def execOri (k : CoreId) (f : IForm) (s : State) : Out := aluI k f true f.zext (· ||| ·) s
def execXori (k : CoreId) (f : IForm) (s : State) : Out := aluI k f true f.zext (· ^^^ ·) s
def execSlli (k : CoreId) (f : IForm) (s : State) : Out := aluI k f f.shiftOk f.zext (fun a b => a <<< shiftAmount b) s
def execSrli (k : CoreId) (f : IForm) (s : State) : Out := aluI k f f.shiftOk f.zext (fun a b => a >>> shiftAmount b) s
def execSrai (k : CoreId) (f : IForm) (s : State) : Out := aluI k f f.shiftOk f.zext (fun a b => a.sshiftRight (shiftAmount b)) s
def execSlti (k : CoreId) (f : IForm) (s : State) : Out := aluI k f true f.sext (fun a b => if a.slt b then 1 else 0) s

/-- LUI: IMM19 sign-extended, shifted left by 14. -/
def execLui (k : CoreId) (f : UForm) (s : State) : Out :=
  coreStep k .any true (fun s => (s.setG k f.rd (f.imm.signExtend 64 <<< 14)).retire k) s

/-! ### Core data memory (R153, R155, R156, R161) -/

/-- A byte of core data memory as the furrow in hand sees it: its own working copy, else the committed copy (R52, R155). -/
def State.dmByte (s : State) (k : CoreId) (a : Nat) : Byte :=
  let x := s.slot k
  match x.core.cur with
  | some f => if x.tags.find? (a / 64) = some f.serial then x.work.get 0 a else x.dmem.get 0 a
  | none => x.dmem.get 0 a

def State.dmBytes (s : State) (k : CoreId) (a n : Nat) : List Byte := (List.range n).map (fun i => s.dmByte k (a + i))

/-- A read of data memory (R153, R180, R449): a forced double-bit error, if one waits, or a word with two flipped bits is a fault, and words with one are corrected,
written back and counted. The first copy of the word is the one that fails. -/
def State.dmRead (s : State) (k : CoreId) (a n : Nat) (use : List Byte → State → State) : State :=
  if (s.core k).injMem then (s.modCore k (fun c => { c with injMem := false })).memFault k (2 ^ 63 + a / 8 * 8) 0
  else if (s.slot k).dmErr = [] then use (s.dmBytes k a n) s
  else
    let e := (s.slot k).dmErr
    let hit := (unitsOf 8 a n).filter (fun w => (e.find? w).isSome)
    let s := s.modSlot k (fun x => { x with dmErr := e.keep (fun w => !hit.contains w) })
    match hit.find? (fun w => decide (1 < e.get 0 w)) with
    | some w => s.memFault k (2 ^ 63 + w * 8) 0
    | none => use (s.dmBytes k a n) (s.satAdd (slotB k) F.CORE_CHECK_MEM_CORRECTED hit.length)

/-- The address of a load or store and its checks: alignment, then the range (R161). -/
def State.dmAddr (s : State) (k : CoreId) (i : IForm) (n : Nat) (use : Nat → State → State) : State :=
  let a := (s.g k i.ra + i.sext).toNat
  if a % n ≠ 0 then s.haltCore k 0x03
  else if 0x4000 < a + n then s.haltCore k 0x04
  else use a s

/-- The working copy of a line, taken at a furrow's first store to it (R155). -/
def State.tagLine (s : State) (k : CoreId) (line serial : Nat) : State :=
  s.modSlot k (fun x =>
    { x with
      tags := x.tags.insert line serial
      work := (List.range 64).foldl (fun w i => w.put 0 (64 * line + i) (x.dmem.get 0 (64 * line + i))) x.work })

/-- A store of a furrow (R155, R156). -/
def State.dmStore (s : State) (k : CoreId) (a : Nat) (bs : List Byte) : State :=
  match (s.core k).cur with
  | none => s.haltCore k 0x01
  | some f =>
    let line := a / 64
    match (s.slot k).tags.find? line with
    | some o =>
      if o = f.serial then (s.modSlot k (fun x => { x with work := memPuts x.work a bs })).retire k else s.haltCore k 0x40
    | none => ((s.tagLine k line f.serial).modSlot k (fun x => { x with work := memPuts x.work a bs })).retire k

def load (k : CoreId) (f : IForm) (n : Nat) (s : State) : Out :=
  coreStep k .any true (fun s => s.dmAddr k f n (fun a s => s.dmRead k a n (fun bs s =>
    (s.setG k f.rd (BitVec.ofNat 64 (ofBytes bs))).retire k))) s

def store (k : CoreId) (f : IForm) (n : Nat) (s : State) : Out :=
  coreStep k .inside true (fun s => s.dmAddr k f n (fun a s => s.dmStore k a (bytesOf n (s.g k f.rd).toNat))) s

def execLd (k : CoreId) (f : IForm) (s : State) : Out := load k f 8 s
def execLw (k : CoreId) (f : IForm) (s : State) : Out := load k f 4 s
def execSt (k : CoreId) (f : IForm) (s : State) : Out := store k f 8 s
def execSw (k : CoreId) (f : IForm) (s : State) : Out := store k f 4 s

/-! ### Branches and jumps -/

def branch (k : CoreId) (f : BForm) (taken : W64 → W64 → Bool) (s : State) : Out :=
  coreStep k .any true (fun s =>
    if taken (s.g k f.ra) (s.g k f.rb) then s.jump k ((s.core k).pc + 4 * f.off.toInt) id else s.retire k) s

def execBeq (k : CoreId) (f : BForm) (s : State) : Out := branch k f (fun a b => a == b) s
def execBne (k : CoreId) (f : BForm) (s : State) : Out := branch k f (fun a b => a != b) s
def execBlt (k : CoreId) (f : BForm) (s : State) : Out := branch k f (fun a b => a.slt b) s
def execBge (k : CoreId) (f : BForm) (s : State) : Out := branch k f (fun a b => !a.slt b) s
def execBltu (k : CoreId) (f : BForm) (s : State) : Out := branch k f (fun a b => a.ult b) s
def execBgeu (k : CoreId) (f : BForm) (s : State) : Out := branch k f (fun a b => !a.ult b) s

/-- DBNZ: a branch whose target fails its check leaves ga as it was, for a halt precedes the instruction's effect (R171). -/
def execDbnz (k : CoreId) (f : BForm) (s : State) : Out :=
  coreStep k .any (f.rb = 0) (fun s =>
    let v := s.g k f.ra - 1
    if v ≠ 0 then s.jump k ((s.core k).pc + 4 * f.off.toInt) (fun s => s.setG k f.ra v) else (s.setG k f.ra v).retire k) s

/-- JAL: gd := PC + 4; PC := PC + 4 × IMM19. -/
def execJal (k : CoreId) (f : UForm) (s : State) : Out :=
  coreStep k .any true (fun s =>
    let pc := (s.core k).pc
    s.jump k (pc + 4 * f.imm.toInt) (fun s => s.setG k f.rd (BitVec.ofNat 64 (pc + 4)))) s

/-- JALR: gd := PC + 4; PC := ga + IMM14. -/
def execJalr (k : CoreId) (f : IForm) (s : State) : Out :=
  coreStep k .any true (fun s =>
    let pc := (s.core k).pc
    let t := s.g k f.ra + f.sext
    s.jump k (t.toNat : Int) (fun s => s.setG k f.rd (BitVec.ofNat 64 (pc + 4)))) s

/-! ### ISSUE (R166, R189) -/

/-- Depths of the engine queues (Table 1-3). -/
def queueDepth (q : Nat) : Nat := if q = 2 then 64 else 32

/-- Put an entry behind the others of its queue. -/
def Slot.enqueue (x : Slot) (q : Nat) (e : QEntry) : Slot :=
  if q = 0 then { x with matQ := x.matQ ++ [e] } else if q = 1 then { x with vecQ := x.vecQ ++ [e] } else { x with dmQ := x.dmQ ++ [e] }

/-- A descriptor from its 64 bytes (R181). -/
def descOf (bs : List Byte) : Desc :=
  let w := fun i => BitVec.ofNat 64 (num bs (8 * i) 8)
  ⟨w 0, w 1, w 2, w 3, w 4, w 5, w 6, w 7⟩

/-- Copy the descriptor at an address to a queue that has room; the ISSUE retires. -/
def State.issueNow (s : State) (k : CoreId) (q addr : Nat) : State :=
  s.dmRead k addr 64 (fun bs s =>
    let c := s.core k
    let serial := (c.cur.map (·.serial)).getD 0
    let e : QEntry :=
      { desc := descOf bs, pc := c.pc, bank := c.bank, serial := serial, order := (s.slot k).order, reexec := c.reexec }
    let s := s.modSlot k (fun x => { (x.enqueue q e) with order := x.order + 1 })
    (s.modFurrow k serial (fun f => { f with cmds := f.cmds + 1 })).retire k)

/-- ISSUE. A full queue makes it wait (R166). -/
def execIssue (k : CoreId) (f : RForm) (s : State) : Out :=
  coreStep k .inside (f.rsv = 0 && f.rd = 0 && f.rb = 0 && decide (f.fn.toNat < 3)) (fun s =>
    let q := f.fn.toNat
    let a := (s.g k f.ra).toNat
    if a % 64 ≠ 0 then s.haltCore k 0x03
    else if 0x4000 < a + 64 then s.haltCore k 0x04
    else if queueDepth q ≤ ((s.slot k).queue q).length then s.modCore k (fun c => { c with wait := Wait.issue q a })
    else s.issueNow k q a) s

/-- A waiting ISSUE completes once an entry of its queue has freed. -/
def execIssueQueueFree (k : CoreId) (s : State) : Out :=
  .next (
    match (s.core k).wait with
    | .issue q a =>
      if ((s.slot k).queue q).length < queueDepth q then s.issueNow k q a else s
    | _ => s)

/-! ### Tokens (R193, R194) -/

/-- Take a count from a token for the furrow in hand, and go on. -/
def State.takeToken (s : State) (k : CoreId) (t n : Nat) : State :=
  let serial := ((s.core k).cur.map (·.serial)).getD 0
  (((s.setTok k t (s.tok k t - n)).noteTok k serial t (-(n : Int))).retire k)

def execTwait (k : CoreId) (f : TForm) (s : State) : Out :=
  coreStep k .inside f.ok (fun s =>
    if f.count.toNat ≤ s.leftForCore k f.tok.toNat then s.takeToken k f.tok.toNat f.count.toNat
    else s.modCore k (fun c => { c with wait := Wait.token f.tok.toNat f.count.toNat })) s

/-- A waiting TWAIT takes its count once the token holds it. -/
def execTwaitSatisfied (k : CoreId) (s : State) : Out :=
  .next (
    match (s.core k).wait with
    | .token t n => if n ≤ s.leftForCore k t then s.takeToken k t n else s
    | _ => s)

def execTsig (k : CoreId) (f : TForm) (s : State) : Out :=
  coreStep k .inside f.ok (fun s =>
    let t := f.tok.toNat
    let n := f.count.toNat
    let serial := ((s.core k).cur.map (·.serial)).getD 0
    if 0xFFFF < s.tok k t + n then s.haltCore k 0x07
    else ((s.setTok k t (s.tok k t + n)).noteTok k serial t n).retire k) s

/-! ### Furrows and Passes (R157, R163 to R165, R496) -/

/-- The core's general registers g1 to g31 (R157). -/
def Core.entryRegs (c : Core) : SMap W64 := c.regs

/-- Is Pass number `m` ahead of Pass number `n`, as a signed difference modulo 2^48 (R163)? -/
def passAhead (m n : Nat) : Bool :=
  let d := (m + 2 ^ 48 - n % 2 ^ 48) % 2 ^ 48
  decide (0 < d) && decide (d < 2 ^ 47)

/-- A furrow that begins now is later than the Pass it was planned for (R54). -/
def State.slips (s : State) (c : Core) : Bool := c.planned.any (fun m => passAhead s.passNum m)

/-- Begin a furrow at the program counter: a slot of the current Pass, the entry state (R157). A first run later than its planned Pass has slipped
(R54, log 67). A furrow that a held delivery displaced begins the run that it had begun before (R54). -/
def State.beginFurrow (s : State) (k : CoreId) (id : Nat) : State :=
  let c := s.core k
  let s := (s.branchCover k c.pc).wrapAdd (slotB k) F.CORE_FURROWS_BEGUN 1
  let old := if c.reexec then c.owed.head? else none
  let slips := old.isNone && s.slips c
  let s := if slips then s.satAdd seqB F.COMMIT_COUNT_SLIPPED 1 else s
  let f : Furrow :=
    match old with
    | some o =>
      { serial := o.serial, id := id, pc := c.pc, bank := c.bank, entry := c.entryRegs, runs := if o.slipped then o.runs else o.runs + 1,
        ringHeld := o.ring.reverse ++ o.ringHeld, late := true }
    | none => { serial := c.serial, id := id, pc := c.pc, bank := c.bank, entry := c.entryRegs, late := slips }
  (s.setCore k { c with
    inFurrow := true, furrows := c.furrows ++ [f], slot := c.furrows.length, furrowId := id,
    serial := if old.isSome then c.serial else c.serial + 1,
    owed := if old.isSome then c.owed.tail else c.owed,
    lastPass := some s.passIdx }).retire k

/-- A core that vote close has stopped because it owes re-executions, outside a furrow (R164, log 99). -/
def State.stoppedAtVote (s : State) (k : CoreId) : Bool :=
  let c := s.core k
  s.passPoint ≠ .window && c.wait = Wait.stopped && c.resume.isSome && !c.reexec && !c.inFurrow

/-- FBEGIN. At or after vote close, and before the first Pass, it waits for the boundary (R496), also on a core that owes re-executions, which then goes on at it
after them; a ninth furrow in one Pass is illegal (R160). -/
def execFbegin (k : CoreId) (f : UForm) (s : State) : Out :=
  let s := if s.stoppedAtVote k then s.modCore k (fun c => { c with wait := Wait.none }) else s
  coreStep k .outside (f.rd = 0 && decide (f.imm.toNat < 0x10000)) (fun s =>
    if s.passPoint ≠ .window || !s.firstPass then
      let w := Wait.fbegin f.imm.toNat
      s.modCore k (fun c => { c with wait := w, resume := if c.reexec then c.resume else c.resume.map (fun r => { r with wait := w }) })
    else if 8 ≤ (s.core k).furrows.length then s.haltCore k 0x01
    else s.beginFurrow k f.imm.toNat) s

/-- Registers with those that a furrow has written taken from `src`. -/
def overlayRegs (mask : BitVec 32) (src regs : SMap W64) : SMap W64 :=
  (List.range 32).foldl (fun r i => if mask.getLsbD i then SMap.put 0 r i (src.get 0 i) else r) regs

/-- The entry of the next owed re-execution: its registers, its FBEGIN, its bank (R164). The FBEGIN itself is the next instruction. What the core's
registers hold is kept for the point where it goes on (R158). A furrow that a held delivery displaced launches in the same way and counts as slipped (R54, log 120). -/
def State.launchOwed (s : State) (k : CoreId) : State :=
  match (s.core k).owed with
  | [] => s
  | f :: _ =>
    let s := s.modCore k (fun c => { c with
      pc := f.pc, bank := f.bank, reexec := true, inFurrow := false, wait := Wait.none, lastPass := some s.passIdx
      regs := f.entry, saved := c.saved.or (some c.regs) })
    let s := if s.branching k then s.branchTo k f.pc else s
    s.satAdd seqB (if f.slipped then F.COMMIT_COUNT_SLIPPED else F.COMMIT_COUNT_REEXECUTED) 1

/-- The core goes on where its re-executions left it: at the point reached at vote close, waiting as it did, or after the FEND of a
re-executed furrow, or at the entry of a switch (R164, R168, R496). -/
def State.resumeAfter (s : State) (k : CoreId) : State :=
  let s := s.modCore k (fun c => { c with regs := c.saved.getD c.regs, saved := none })
  match (s.core k).resume with
  | none => s.modCore k (fun c => { c with reexec := false })
  | some r =>
    let s := s.modCore k (fun c => { c with reexec := false, resume := none, pc := r.pc, bank := r.bank, wait := Wait.none })
    match r.wait with
    | .fbegin id => if 8 ≤ (s.core k).furrows.length then s.haltCore k 0x01 else s.beginFurrow k id
    | .pass _ f => s.modCore k (fun c => { c with wait := Wait.pass ((s.g k f.ra + f.sext).toNat % 2 ^ 48) f })
    | _ => s

/-- FEND retires: the furrow has finished (R165). A mismatch that strikes it fails the furrow that it ends (R152). After the FEND of a re-execution the next one
launches, or the core resumes (R164). -/
def State.fendNow (s : State) (k : CoreId) : State :=
  let c := s.core k
  let struck := c.injLockstep
  let s := if struck then s.mismatch k else s
  let s := s.branchCover k c.pc
  let s := s.branchFlush k
  let mask := (c.cur.map (·.mask)).getD 0
  let s := s.modCur k (fun f => { f with ended := true })
  let s := s.modCore k (fun c => { c with inFurrow := false, saved := c.saved.map (overlayRegs mask c.regs) })
  let s := s.retire k
  let c := s.core k
  if c.halted then s
  else if struck then s.stopPair k
  else if !c.reexec then s
  else if c.owed ≠ [] then s.launchOwed k
  else s.resumeAfter k

def execFend (k : CoreId) (f : RForm) (s : State) : Out :=
  coreStep k .inside (f.rsv = 0 && f.fn = 0 && f.rd = 0 && f.ra = 0 && f.rb = 0) (fun s =>
    match (s.core k).cur with
    | some u => if u.cmds = 0 then s.fendNow k else s.modCore k (fun c => { c with wait := Wait.fend })
    | none => s.fendNow k) s

/-- A waiting FEND retires once every command of the furrow has completed (R165). -/
def execFendRetire (k : CoreId) (s : State) : Out :=
  .next (
    if (s.core k).wait = Wait.fend then
      match (s.core k).cur with
      | some u => if u.cmds = 0 then s.fendNow k else s
      | none => s
    else s)

/-- PASS. It waits for a boundary, or, where a switch has left the core on the old bank, goes on at the entry offset of the new one
(R163, R168). -/
def execPass (k : CoreId) (f : IForm) (s : State) : Out :=
  coreStep k .outside (f.rd = 0) (fun s =>
    match (s.slot k).oldBank with
    | some e =>
      let s := ((s.branchCover k (s.core k).pc).branchFlush k).wrapAdd (slotB k) F.CORE_INSTR_RETIRED 1
      ((s.modSlot k (fun x => { x with oldBank := none, core := { x.core with pc := e, bank := x.active, planned := none } })).lockstep k).stepDone k
    | none => s.modCore k (fun c => { c with wait := Wait.pass ((s.g k f.ra + f.sext).toNat % 2 ^ 48) f })) s

def execRdpass (k : CoreId) (f : RForm) (s : State) : Out :=
  coreStep k .any (f.rsv = 0 && f.fn = 0 && f.ra = 0 && f.rb = 0) (fun s => (s.setG k f.rd (BitVec.ofNat 64 s.passNum)).retire k) s

def execRdfc (k : CoreId) (f : RForm) (s : State) : Out :=
  coreStep k .any (f.rsv = 0 && f.fn = 0 && f.ra = 0 && f.rb = 0) (fun s => (s.setG k f.rd (BitVec.ofNat 64 s.stamp)).retire k) s

/-! ### Instruction memory (R167 to R170) -/

/-- Is a VEXEC bound to a bank: running or completing? It is bound at its dequeue (R131, R169). -/
def Slot.vexecBound (x : Slot) (b : Bool) : Bool :=
  x.vrun.any (fun r => r.bank == b) || x.vtail.any (fun r => r.bank == b)

/-- Fetchers of the inactive bank (R169): the core, and any VEXEC bound to it. -/
def Slot.fetchers (x : Slot) : Nat :=
  b2n (!x.core.halted && x.core.bank != x.active) + b2n (x.vexecBound (!x.active))

def Slot.draining (x : Slot) : Bool := x.fetchers ≠ 0

/-- May a bank be written (R167)? -/
def Slot.writable (x : Slot) (b : Bool) : Bool := !x.started || (b != x.active && !x.draining)

def Slot.im (x : Slot) (b : Bool) : SMap Byte := if b then x.imB else x.imA
def Slot.setIm (x : Slot) (b : Bool) (m : SMap Byte) : Slot := if b then { x with imB := m } else { x with imA := m }

def execSim (k : CoreId) (f : RForm) (s : State) : Out :=
  coreStep k .any (f.rsv = 0 && f.fn = 0 && f.rd = 0) (fun s =>
    let a := (s.g k f.ra).toNat
    let x := s.slot k
    let b := !x.active
    if a % 8 ≠ 0 then s.haltCore k 0x03
    else if 16384 ≤ a then s.haltCore k 0x04
    else if !x.writable b then s.haltCore k 0x05
    else (s.setSlot k (x.setIm b (memPuts (x.im b) a (wordBytes (s.g k f.rb))))).retire k) s

/-- A bank switch is requested: requests of one Pass collapse and the last entry offset holds (R168, R170). -/
def State.requestSwitch (s : State) (k : CoreId) (entry : Nat) : State :=
  s.modSlot k (fun x => { x with switch := some (entry % 16384 / 4 * 4) })

/-- IMSW. Bits of the offset outside PENDING_ENTRY are dropped, as IM_CTL.ENTRY has none (log 32). -/
def execImsw (k : CoreId) (f : IForm) (s : State) : Out :=
  coreStep k .any (f.rd = 0) (fun s => (s.requestSwitch k (s.g k f.ra + f.sext).toNat).retire k) s

/-! ### NOP and the halting instructions -/

def execNop (k : CoreId) (f : RForm) (s : State) : Out :=
  coreStep k .any (f.rsv = 0 && f.fn = 0 && f.rd = 0 && f.ra = 0 && f.rb = 0) (fun s => s.retire k) s

/-- HALT (R172). -/
def execHalt (k : CoreId) (f : UForm) (s : State) : Out :=
  let code := f.imm.toNat
  coreStep k .any (f.rd = 0 && decide (code = 0 ∨ (0x80 ≤ code ∧ code ≤ 0xFF)))
    (fun s => s.haltCore k (if code = 0 then 0x0C else code)) s

/-- BRK: source core, whatever DEBUG_EN holds (R177). -/
def execBrk (k : CoreId) (f : RForm) (s : State) : Out :=
  coreStep k .any (f.rsv = 0 && f.fn = 0 && f.rd = 0 && f.ra = 0 && f.rb = 0) (fun s => s.haltCore k 0x0B) s

end Sys2Proof.Machine
end

