-- ==== Sys2Proof/Machine/Windrow.lean ====
section
/-! DEFINITION. The Windrow (R219 to R226): WPUSH, WPOP, spill and refill. A line of depth d lies at ring line d modulo RING_LINES while it is resident
and at line d of the spill area once spilled (log 42). -/

namespace Sys2Proof.Machine

def Slot.stack (x : Slot) (i : Nat) : Stack := x.wstacks.get {} i
def State.setStack (s : State) (k : CoreId) (i : Nat) (t : Stack) : State := s.modSlot k (fun x => { x with wstacks := x.wstacks.put {} i t })

/-! ### The Windrow bodies (Table 8-2) -/

def Desc.wLine (d : Desc) : Nat := fld d.w2 0 21
def Desc.wStack (d : Desc) : Nat := fld d.w2 24 3
def Desc.wRowLines (d : Desc) : Nat := fld d.w3 0 16
def Desc.wRows (d : Desc) : Nat := fld d.w3 16 16
def Desc.wStride (d : Desc) : Int := sx (fld d.w3 32 16) 16
/-- Data lines of the frame. -/
def Desc.wData (d : Desc) : Nat := d.wRows * d.wRowLines

/-- The body's part of check 2. -/
def windrowBodyOk (d : Desc) : Bool :=
  onlyFields d.w2 [(0, 21), (24, 3)] && onlyFields d.w3 [(0, 48)] && d.w4 = 0 && d.w5 = 0 && d.w6 = 0 && d.w7 = 0 &&
  d.wRowLines ≠ 0 && d.wRows ≠ 0

/-- Byte ranges of the rows in the cluster's plot, as integers may run below it. -/
def wRowAddr (k : CoreId) (d : Desc) (i : Nat) : Int := (lineAddr k.plot.val d.wLine : Int) + 64 * (d.wStride * i)

/-- The rows; a row below address 0 shows as an address no region holds. -/
def windrowRows (k : CoreId) (d : Desc) : List (Nat × Nat) :=
  (List.range d.wRows).map (fun i => let a := wRowAddr k d i; (if a < 0 then 0x0001_0000_0000 else a.toNat, 64 * d.wRowLines))

/-! ### Ring and spill area -/

/-- Lines of the ring, of the spill area, and their places. -/
def State.ringLines (s : State) (k : CoreId) (i : Nat) : Nat := s.rd (slotB k) F.WR_REGION_RING_LINES i
def State.spillLines (s : State) (k : CoreId) (i : Nat) : Nat := s.rd (slotB k) F.WR_SPILL_SPILL_LINES i
def State.ringAddr (s : State) (k : CoreId) (i depth : Nat) : Nat :=
  lineAddr k.plot.val (s.rd (slotB k) F.WR_REGION_BASE_LINE i + depth % s.ringLines k i)
def State.spillAddr (s : State) (k : CoreId) (i depth : Nat) : Nat := 64 * s.rd (slotB k) F.WR_SPILL_BASE i + 64 * depth

/-- Depth up to which ring lines are taken: the lines between WTOP and CTOP stay reserved (R222). -/
def Stack.top (t : Stack) : Nat := max t.ctop t.wtop
/-- Lines in the ring. -/
def Stack.resident (t : Stack) : Nat := t.top - t.spilled

/-- The cases of R223 that a push and a pop share, in the table's order but for the areas, which come last; 0 when none holds. -/
def State.windrowFault (s : State) (k : CoreId) (d : Desc) (serial : Nat) (push : Bool) : Nat :=
  let i := d.wStack
  let t := (s.slot k).stack i
  let ring := s.ringLines k i
  let n := d.wData + 1
  let area := fun r : Nat × Nat => !s.inOwnPart k r
  if push && (ring + s.spillLines k i < t.wtop + n || t.wtop < t.ctop || ring < n + (t.wtop - t.ctop)) then 0x08
  else if !push && t.wframes = [] then 0x08
  else if t.user.any (· ≠ serial) then 0x08
  else if ring = 0 then 0x08
  else if area (lineAddr k.plot.val (s.rd (slotB k) F.WR_REGION_BASE_LINE i), 64 * ring) ||
      (s.spillLines k i ≠ 0 && area (s.spillAddr k i 0, 64 * s.spillLines k i)) then 0x04
  else 0

/-- The header line of a frame (R219). -/
def frameHeader (s : State) (d : Desc) : List Byte :=
  wordBytes (pack [(0, 16, d.layer), (16, 16, d.oper), (32, 32, d.wData)]) ++ wordBytes (pack [(0, 48, s.passNum)]) ++ List.replicate 48 0

/-- Has a mover command started: its read is held, its packets are out, or it waits for a place (R192)? -/
def Flight.begun (f : Flight) : Bool := f.done || f.waiting || f.heldOn.isSome || f.tags ≠ []

/-- The commands that have started, and the first that has not: the mover starts them in dequeue order (R192). -/
def startable : List Flight → List Flight
  | [] => []
  | f :: t => if f.begun then f :: startable t else [f]

/-- The mover commands whose work may begin or go on. -/
def Slot.moverTurn (x : Slot) : List Flight := (startable x.dmPipe).filter (fun f => !f.done)

/-- The oldest Windrow command past dequeue whose work is not done, if its turn has come and its code is the one named: stack operations run in dequeue order. -/
def State.windrowNext (s : State) (k : CoreId) (code : Nat) : Option Flight :=
  ((s.slot k).moverTurn.find? (fun f => f.q.desc.code = 0x16 || f.q.desc.code = 0x17)).filter (fun f => f.q.desc.code = code)

/-- A data-mover command has done its work. -/
def State.dmDone (s : State) (k : CoreId) (f : Flight) (status : Nat) : State :=
  s.modFlight k .dataMover (fun g => g.seq = f.seq) (fun g => { g with done := true, status := status, heldOn := none, waiting := false })

/-- A data-mover command waits for space, a refill or a place in a queue; the wait is counted with the clk that pass (WR_WAIT, DM_WAIT). -/
def State.dmWaits (s : State) (k : CoreId) (f : Flight) : State :=
  s.modFlight k .dataMover (fun g => g.seq = f.seq) (fun g => { g with waiting := true })

/-- A data-mover command at fault leaves the pipe and its core halts (R174, R188). -/
def State.dmFault (s : State) (k : CoreId) (f : Flight) (code : Nat) : State :=
  (s.modSlot k (fun x => { x with dmPipe := x.dmPipe.filter (fun g => g.seq ≠ f.seq) })).faultCmd k .dataMover f.q code

/-- Bytes of line `i` of rows laid end to end. -/
def lineOfRows (rows : List (List Byte)) (rowLines i : Nat) : List Byte := sub (rows.getD (i / rowLines) []) (64 * (i % rowLines)) 64

/-- WPUSH (R220). -/
def execWpush (k : CoreId) (s : State) : Out :=
  .next (
    match s.windrowNext k 0x16 with
    | none => s
    | some f =>
      let d := f.q.desc
      let i := d.wStack
      let t := (s.slot k).stack i
      let n := d.wData + 1
      let fault := s.windrowFault k d f.q.serial true
      if fault ≠ 0 then s.dmFault k f fault
      else if s.ringLines k i < t.resident + n then
        (s.setStack k i { t with user := some f.q.serial }).dmWaits k f
      else
        s.flightRead k .dataMover f (windrowRows k d) (fun resp rows s =>
          if resp ≠ rOK then s.dmDone k f 2
          else
            let s := s.furrowWrite k f (s.ringAddr k i t.wtop) (frameHeader s d)
            let s := (List.range d.wData).foldl (fun s j =>
              s.furrowWrite k f (s.ringAddr k i (t.wtop + 1 + j)) (lineOfRows rows d.wRowLines j)) s
            (s.setStack k i { t with user := some f.q.serial, wtop := t.wtop + n, wframes := n :: t.wframes }).dmDone k f 0))

/-- WPOP (R220). -/
def execWpop (k : CoreId) (s : State) : Out :=
  .next (
    match s.windrowNext k 0x17 with
    | none => s
    | some f =>
      let d := f.q.desc
      let i := d.wStack
      let t := (s.slot k).stack i
      let n := t.wframes.headD 0
      let fault := s.windrowFault k d f.q.serial false
      if fault ≠ 0 then s.dmFault k f fault
      else if t.wtop - n < t.spilled then (s.setStack k i { t with user := some f.q.serial }).dmWaits k f
      else
        let lines := (List.range n).map (fun j => (s.ringAddr k i (t.wtop - n + j), 64))
        s.flightRead k .dataMover f lines (fun resp rows s =>
          if resp ≠ rOK then s.dmDone k f 2
          else
            let h := rows.headD []
            if num h 4 4 ≠ d.wData ∨ num h 0 2 ≠ d.layer then s.dmFault k f 0x08
            else
              let dst := windrowRows k d
              let s := (List.range d.wRows).foldl (fun s r =>
                s.furrowWrite k f (dst.getD r (0, 0)).1 ((rows.drop (1 + r * d.wRowLines)).take d.wRowLines).flatten) s
              (s.setStack k i { t with user := some f.q.serial, wtop := t.wtop - n, wframes := t.wframes.tail }).dmDone k f 0))

/-- A Windrow command of this stack waits (R224). -/
def State.windrowWaits (s : State) (k : CoreId) (code i : Nat) : Bool :=
  (s.slot k).dmPipe.any (fun f => !f.done && f.waiting && f.q.desc.code = code && f.q.desc.wStack = i)

/-- Move one line between the ring and the spill area; a line that cannot be read stays where it is. -/
def State.moveLine (s : State) (k : CoreId) (src dst : Nat) : Nat × State :=
  let r := s.memRead false false k.slot.val src 64
  if r.1 = rOK then r.2.2.memWrite false false k.slot.val dst r.2.1 else (r.1, r.2.2)

/-- WINDROW_SPILL: the oldest resident committed lines move to the spill area, when the ring is more than ¾ full or a push waits (R224). Lines that a pop of this Pass has
left stay in the ring, where they are reserved (R222). -/
def execWindrowSpill (k : CoreId) (stack : Fin 8) (lines : Nat) (s : State) : Out :=
  let i := stack.val
  let t := (s.slot k).stack i
  let ring := s.ringLines k i
  let n := min lines (min (min t.ctop t.wtop - t.spilled) (s.spillLines k i - t.spilled))
  .next (
    if !(decide (3 * ring < 4 * t.resident) || s.windrowWaits k 0x16 i) then s
    else
      let r := (List.range n).foldl (fun (acc : Nat × Nat × State) j =>
        if acc.1 ≠ rOK then acc
        else
          let m := acc.2.2.moveLine k (acc.2.2.ringAddr k i (t.spilled + j)) (acc.2.2.spillAddr k i (t.spilled + j))
          (m.1, if m.1 = rOK then acc.2.1 + 1 else acc.2.1, m.2)) (rOK, 0, s)
      let s := r.2.2
      (s.wrapAdd (slotB k) F.WR_MOVED_SPILLED r.2.1).setStack k i { t with spilled := t.spilled + r.2.1 })

/-- WINDROW_REFILL: the most recently spilled lines come back, when the ring is less than ¼ full or a pop waits for its frame (R224). -/
def execWindrowRefill (k : CoreId) (stack : Fin 8) (lines : Nat) (s : State) : Out :=
  let i := stack.val
  let t := (s.slot k).stack i
  let ring := s.ringLines k i
  let n := min lines (min t.spilled (ring - t.resident))
  .next (
    if !(decide (4 * t.resident < ring) || s.windrowWaits k 0x17 i) then s
    else
      let r := (List.range n).foldl (fun (acc : Nat × Nat × State) j =>
        if acc.1 ≠ rOK then acc
        else
          let depth := t.spilled - 1 - j
          let m := acc.2.2.moveLine k (acc.2.2.spillAddr k i depth) (acc.2.2.ringAddr k i depth)
          (m.1, if m.1 = rOK then acc.2.1 + 1 else acc.2.1, m.2)) (rOK, 0, s)
      let s := r.2.2
      (s.wrapAdd (slotB k) F.WR_MOVED_REFILLED r.2.1).setStack k i { t with spilled := t.spilled - r.2.1 })

end Sys2Proof.Machine
end

