-- ==== Sys2Proof/Machine/CoreCtl.lean ====
section
/-! DEFINITION. Register writes of a cluster block that have an effect of their own: debug control, bank switches, epochs, completion ring, tokens, seed,
Windrow regions, clears and injections of the checks (chapters 4 to 8). -/

namespace Sys2Proof.Machine

/-! ### Furrows that do not commit (R44, R52, R157) -/

/-- The registers a furrow has written return to their entry values. -/
def restoreRegs (regs : SMap W64) (f : Furrow) : SMap W64 := overlayRegs f.mask f.entry regs

/-- The working lines of a furrow are dropped. -/
def Slot.dropLines (x : Slot) (serial : Nat) : Slot :=
  let gone := fun a : Nat => x.tags.find? (a / 64) = some serial
  { x with work := x.work.keep (fun a => !gone a), tags := x.tags.filter (fun e => e.2 ≠ serial) }

/-- What some furrows have written to registers and core data memory returns to its committed value (R155, R157): a re-execution that has not ended leaves the
registers that were kept beside it. With `hold` a re-execution is kept for inspection: its registers stay, and so do those kept beside it (R175). -/
def Slot.dropWork (x : Slot) (fs : List Furrow) (hold : Bool := false) : Slot :=
  let y := fs.foldl (fun y f => y.dropLines f.serial) x
  match x.core.saved with
  | some r =>
    let regs := (fs.filter (·.ended)).reverse.foldl restoreRegs r
    if hold then { y with core := { y.core with saved := some regs } } else { y with core := { y.core with regs := regs, saved := none } }
  | none => { y with core := { y.core with regs := fs.reverse.foldl restoreRegs x.core.regs } }

/-- Values kept for inspection return to the committed ones (R175); so do those of a furrow that has halted in this Pass. -/
def Slot.dropKept (x : Slot) : Slot :=
  let here := x.core.furrows.filter (·.halted)
  let y := x.dropWork (x.core.kept ++ here)
  let h := fun f : Furrow => if f.halted then { f with mask := 0 } else f
  { y with core := { y.core with kept := [], furrows := y.core.furrows.map h } }

/-- Tokens lose the net change of a furrow (R197). -/
def Slot.undoTok (x : Slot) (f : Furrow) : Slot :=
  { x with tok := f.tok.foldl (fun t e => t.put 0 e.1 (BitVec.ofNat 16 (((t.get 0 e.1).toNat : Int) - e.2).toNat)) x.tok }

/-! ### CORE_DBG (R176 to R179) -/

/-- The core's domain and its cluster's answer. -/
def State.coreLive (s : State) (k : CoreId) : Bool := s.slotLive k && decide ((s.slot k).coreDom = .run)

/-- Start or resume a halted core at an offset in the active bank (R176). -/
def State.resumeAt (s : State) (k : CoreId) (pc : Nat) : State :=
  (s.modSlot k Slot.dropKept).modSlot k (fun x => { x with
    started := true
    oldBank := none
    core := { x.core with halted := false, pc := pc, bank := x.active, inFurrow := false, wait := Wait.none, reexec := false, resume := none, stepping := false } })

/-- CORE_DBG.RESUME; discarded while the core runs (R179). -/
def execResume (k : CoreId) (s : State) : Out :=
  .next (
    if s.coreLive k && (s.core k).halted then s.resumeAt k (s.rd (slotB k) F.CORE_DBG_RESUME_PC / 4 * 4) else s)

/-- CORE_DBG.STEP: the core, halted with code 0x0B, executes one instruction and halts again (R179). -/
def execStep (k : CoreId) (s : State) : Out :=
  .next (
    let c := s.core k
    if s.coreLive k && c.halted && decide (c.halt.reason = 0x0B) then s.setCore k { c with halted := false, stepping := true } else s)

/-- CORE_DBG.HALT_REQ: a halt at the next instruction boundary, or at once if the core waits (R177). -/
def State.haltReq (s : State) (k : CoreId) : State := if s.coreLive k && !(s.core k).halted then s.haltDebug k else s
def execHaltReq (k : CoreId) (s : State) : Out := .next (s.haltReq k)

/-! ### Banks and epochs (R168, R199) -/

/-- IM_CTL.SWITCH with the entry offset of IM_CTL.ENTRY. -/
def execImCtlSwitch (k : CoreId) (s : State) : Out := .next (s.requestSwitch k (s.rd (slotB k) F.IM_CTL_ENTRY))

/-- EPOCH_CTL.ADVANCE to EPOCH_CTL.NEXT; a request whose NEXT is CUR is discarded. -/
def execEpochAdvance (k : CoreId) (s : State) : Out :=
  let n := s.rd (slotB k) F.EPOCH_CTL_NEXT
  .next (if n = (s.slot k).cur then s else s.modSlot k (fun x => { x with advance := some n }))

/-! ### Registers with rules of their own (R96, R201, R204, R226) -/

/-- CMP_RING: SIZE_LOG2 1 to 3, and a ring that would pass the plot's end, are discarded (R201). -/
def State.cmpRing (s : State) (k : CoreId) (v : W64) : State :=
  let base := fld v 0 21
  let sz := fld v 24 4
  if (1 ≤ sz ∧ sz ≤ 3) ∨ (sz ≠ 0 ∧ 64 * 0x20_0000 < 64 * base + 32 * 2 ^ sz) then s
  else (s.wr (slotB k) F.CMP_RING_BASE base).wr (slotB k) F.CMP_RING_SIZE_LOG2 sz
def execCmpRingWrite (k : CoreId) (v : W64) (s : State) : Out := .next (s.cmpRing k v)

/-- TOKi: four counts, while the core is halted or has not been started (R204). -/
def State.tokenReg (s : State) (k : CoreId) (i : Nat) (v : W64) : State :=
  if (s.core k).halted || !(s.slot k).started then (List.range 4).foldl (fun s j => s.setTok k (4 * i + j) (fld v (16 * j) 16)) s else s
def execTokenRegWrite (k : CoreId) (i : Fin 16) (v : W64) (s : State) : Out := .next (s.tokenReg k i.val v)

/-- SR_SEED: a write reseeds at once; zero is discarded (R96). -/
def State.srSeed (s : State) (k : CoreId) (v : W64) : State :=
  if v = 0 then s else (s.wr (slotB k) F.SR_SEED_SEED v.toNat).modSlot k (fun x => { x with genDraws := 0 })
def execSrSeedWrite (k : CoreId) (v : W64) (s : State) : Out := .next (s.srSeed k v)

/-- WR_REGION and WR_SPILL: only while the stack is empty (R226). -/
def State.wrRegion (s : State) (k : CoreId) (i : Nat) (spill : Bool) (v : W64) : State :=
  let t := (s.slot k).stack i
  let put := fun (s : State) (f : Field) => s.wr (slotB k) f (fld v f.lo f.w) i
  if t.ctop ≠ 0 ∨ t.wtop ≠ 0 then s
  else if spill then put (put s F.WR_SPILL_BASE) F.WR_SPILL_SPILL_LINES
  else put (put s F.WR_REGION_BASE_LINE) F.WR_REGION_RING_LINES
def execWrRegionWrite (k : CoreId) (stack : Fin 8) (spill : Bool) (v : W64) (s : State) : Out := .next (s.wrRegion k stack.val spill v)

/-! ### Clears and injections of the checks (R123, R124, R149, R150, R180) -/

def execMatCheckClear (k : CoreId) (s : State) : Out :=
  s.unlessFallow k.plot.val (fun s => ((s.wr (slotB k) F.MAT_CHECK_RESIDUE_ERRS 0).wr (slotB k) F.MAT_CHECK_COMPARE_ERRS 0).wr (slotB k) F.MAT_CHECK_PARITY_ERRS 0)
def execInjectResidue (k : CoreId) (s : State) : Out := s.unlessFallow k.plot.val (fun s => s.modSlot k (fun x => { x with injResidue := true }))
def execMatInjectCompare (k : CoreId) (s : State) : Out := s.unlessFallow k.plot.val (fun s => s.modSlot k (fun x => { x with injMatCompare := true }))
def execInjectParity (k : CoreId) (s : State) : Out := s.unlessFallow k.plot.val (fun s => s.modSlot k (fun x => { x with injMatParity := true }))
def execVecCheckClear (k : CoreId) (s : State) : Out :=
  s.unlessFallow k.plot.val (fun s => (s.wr (slotB k) F.VEC_CHECK_COMPARE_ERRS 0).wr (slotB k) F.VEC_CHECK_PARITY_ERRS 0)
def execVecInjectCompare (k : CoreId) (s : State) : Out := s.unlessFallow k.plot.val (fun s => s.modSlot k (fun x => { x with injVecCompare := true }))
def execVecInjectParity (k : CoreId) (s : State) : Out := s.unlessFallow k.plot.val (fun s => s.modSlot k (fun x => { x with injVecParity := true }))
def execCoreCheckClear (k : CoreId) (s : State) : Out :=
  s.unlessFallow k.plot.val (fun s => ((s.wr (slotB k) F.CORE_CHECK_LOCKSTEP_ERRS 0).wr (slotB k) F.CORE_CHECK_MEM_CORRECTED 0).wr (slotB k) F.CORE_CHECK_MEM_UNCORRECTED 0)
def execInjectLockstep (k : CoreId) (s : State) : Out := s.unlessFallow k.plot.val (fun s => s.modCore k (fun c => { c with injLockstep := true }))
def execInjectMem (k : CoreId) (s : State) : Out := s.unlessFallow k.plot.val (fun s => s.modCore k (fun c => { c with injMem := true }))

end Sys2Proof.Machine
end

