-- ==== Sys2Proof/Machine/Drill.lean ====
section
/-! DEFINITION. The Drill (R363 to R370): dequeue and checks, DWINNOW, DRESOW. Its writes are those of the posting furrow (R364). -/

namespace Sys2Proof.Machine

/-! ### The Drill body (Table 13-3) -/

def Desc.dRows (d : Desc) : Nat := fld d.w2 0 16
def Desc.dRowLines (d : Desc) : Nat := fld d.w2 16 9 + 1
def Desc.dTopk (d : Desc) : Nat := fld d.w2 25 3 + 1
def Desc.dExperts (d : Desc) : Nat := fld d.w2 32 12
def Desc.dCap (d : Desc) : Nat := fld d.w2 44 16
def Desc.dSrc (d : Desc) : Nat := fld d.w3 0 21
def Desc.dSel (d : Desc) : Nat := fld d.w3 21 21
def Desc.dOut (d : Desc) : Nat := fld d.w3 42 21
def Desc.dStride (d : Desc) : Nat := fld d.w4 0 21
def Desc.dIdx (d : Desc) : Nat := fld d.w4 21 21
def Desc.dCnt (d : Desc) : Nat := fld d.w4 42 21
/-- Selections of a command: ROWS × TOPK. -/
def Desc.dSels (d : Desc) : Nat := d.dRows * d.dTopk

/-- Fields that a code does not use are zero, and those it uses are in range. -/
def drillBodyOk (d : Desc) : Bool :=
  d.w5 = 0 && d.w6 = 0 && d.w7 = 0 && onlyFields d.w3 [(0, 63)] && d.dRows ≠ 0 && d.dExperts ≠ 0 &&
  (if d.code = 0x50 then onlyFields d.w2 [(0, 28), (32, 28)] && onlyFields d.w4 [(0, 63)] && d.dCap ≠ 0
   else onlyFields d.w2 [(0, 28), (32, 12)] && onlyFields d.w4 [(0, 21)])

/-- A stretch of lines of plot `p`. -/
def drillExt (p line bytes : Nat) : Nat × Nat := (lineAddr p line, bytes)

/-- Every extent of a command. -/
def drillExtents (p : Nat) (d : Desc) : List (Nat × Nat) :=
  let row := 64 * d.dRowLines
  if d.code = 0x50 then
    [drillExt p d.dSrc (d.dRows * row), drillExt p d.dSel (2 * d.dSels),
     drillExt p d.dOut (64 * d.dStride * (d.dExperts - 1) + d.dCap * row), drillExt p d.dIdx (4 * d.dSels), drillExt p d.dCnt (2 * d.dExperts)]
  else [drillExt p d.dSel (4 * d.dSels), drillExt p d.dOut (d.dSels * row), drillExt p d.dSrc (64 * d.dStride * (d.dExperts - 1) + row)]

def State.modDrill (s : State) (p : Nat) (g : DrillUnit → DrillUnit) : State := s.setDrill p (g (s.drill p))

/-- The Drill works: its plot is active and in service, and it is not lost (R4, R446). -/
def State.drillLive (s : State) (p : Nat) : Bool :=
  !s.fallowPlot p && decide (s.boot.plotDoms.get Dom.run p = .run) && !s.rdB (plotB p) F.FLT_PLOT_DRILL_LOST

/-- DRILL_DEQUEUE: the next accepted descriptor and its checks (R365). -/
def execDrillDequeue (p : Fin 32) (s : State) : Out :=
  .next (
    let pl := p.val
    let x := s.drill pl
    if !s.drillLive pl || x.run.isSome then s
    else
      match x.queue with
      | [] => s
      | q :: rest =>
        let d := q.desc
        let es := drillExtents pl d
        let s := s.modDrill pl (fun x => { x with queue := rest })
        match s.checks q.poster d (d.code = 0x50 || d.code = 0x51) (drillBodyOk d && es.all (s.unitPlotOk pl)) (s.sigFallow d) true
            (es.all (s.inPlotPart pl)) with
        | .halt code => s.haltPosted q code
        | .stale => s.satAdd (plotB pl) F.DRILL_DONE_STALE 1
        | .ok => s.modDrill pl (fun x => { x with run := some { p := q, tDeq := s.fieldCount } }))

/-- A failed check of the Drill marks the posting furrow FAIL (R364, R369). -/
def State.drillCheckFail (s : State) (pl : Nat) (p : Posted) (check : Nat) : State :=
  let s := s.modFurrow p.poster p.serial (fun f => { f with failed := true, check := check })
  (s.wantCheck (drillCheckKey pl)).err 0x01 1 ⟨3, pl, 0⟩ (causeOf p.desc p.furrowId check) 4 0

/-- The end of a Drill command: count, forced error, signal (R364, R369). A signal of scope 0b01 reaches the posting cluster at once. -/
def State.drillDone (s : State) (pl : Nat) (p : Posted) : State :=
  let s := (s.modDrill pl (fun x => { x with run := none })).wrapAdd (plotB pl) F.DRILL_DONE_DONE 1
  let s := if (s.drill pl).injCompare then
      ((s.modDrill pl (fun x => { x with injCompare := false })).satAdd (plotB pl) F.DRILL_CHECK_COMPARE_ERRS 1).drillCheckFail pl p 2
    else s
  let s := if (s.drill pl).parityBad then
      ((s.modDrill pl (fun x => { x with parityBad := false })).satAdd (plotB pl) F.DRILL_CHECK_PARITY_ERRS 1).drillCheckFail pl p 3
    else s
  let d := p.desc
  if d.sigScope = 1 then
    if 0xFFFF < s.tok p.poster d.sigTok + d.sigCount then
      s.halt p.poster 0x07 3 (s.core p.poster).bank (s.core p.poster).pc 0 {} (some (senderWord s.device ((s.logicalOf p.poster).getD 0x1FF) 0 3 0))
    else (s.setTok p.poster d.sigTok (s.tok p.poster d.sigTok + d.sigCount)).noteTok p.poster p.serial d.sigTok d.sigCount
  else s.postedSignal p (.furrow p.poster p.serial) 0 3

/-- Reads of a Drill command, held on open extents of other furrows (R57); an error response fails the posting furrow (R213), NOT_COMMITTED too, as it does a
Bin furrow (log 70). -/
def State.drillRead (s : State) (pl : Nat) (r : UnitRun) (rs : List (Nat × Nat)) (use : List (List Byte) → State → State) : State :=
  match (if r.denied then none else s.firstBlocked (.furrow r.p.poster r.p.serial) rs) with
  | some h =>
    let s := if r.heldOn.isSome then s else s.countHeld
    s.modDrill pl (fun x => { x with run := some { r with heldOn := some h } })
  | none =>
    let t := s.readRanges 25 rs r.p.cause
    use (deniedZero r.denied r.heldOn rs t.2.1) (if t.1 = rOK && !r.denied then t.2.2 else
      t.2.2.modFurrow r.p.poster r.p.serial (fun f => { f with failed := true, check := if t.1 = rUNCORRECTABLE then 6 else f.check }))

/-- A write of a Drill command: the posting furrow's (R364). -/
def State.drillWrite (s : State) (p : Posted) (a : Nat) (bs : List Byte) : State :=
  let r := s.writeOpen (.furrow p.poster p.serial) 25 a bs p.cause
  if r.1 = rOK then r.2 else r.2.readFail p.poster p.serial 6

/-- What DWINNOW has placed so far: counts by expert, overflows with the last expert, bad selections, index entries in order, rows placed. -/
structure Winnow where
  counts : SMap Nat := []
  excess : Nat := 0
  lastOver : Nat := 0
  bad : Nat := 0
  index : List Nat := []
  rows : List (Nat × Nat × Nat) := []
deriving DecidableEq, Repr

/-- One selection of DWINNOW (R366): row `r`, expert `e`. -/
def Winnow.step (d : Desc) (w : Winnow) (re : Nat × Nat) : Winnow :=
  let e := re.2
  if e = 0xFFFF then { w with index := w.index ++ [0xFFFFFFFF] }
  else if d.dExperts ≤ e then { w with index := w.index ++ [0xFFFFFFFF], bad := w.bad + 1 }
  else
    let n := w.counts.get 0 e
    if n < d.dCap then
      { w with counts := w.counts.insert e (n + 1), index := w.index ++ [e + 0x10000 * n], rows := w.rows ++ [(re.1, e, n)] }
    else { w with index := w.index ++ [e + 0xFFFF0000], excess := w.excess + 1, lastOver := e }

/-- DWINNOW (R366). -/
def execDwinnow (p : Fin 32) (s : State) : Out :=
  .next (
    let pl := p.val
    match (s.drill pl).run with
    | none => s
    | some r =>
      let d := r.p.desc
      let row := 64 * d.dRowLines
      if d.code ≠ 0x50 || s.postedWaits r.p (.furrow r.p.poster r.p.serial) 0 3 then s
      else
        s.drillRead pl r [drillExt pl d.dSel (2 * d.dSels)] (fun sel s =>
          let w := ((List.range d.dSels).map (fun i => (i / d.dTopk, num (sel.headD []) (2 * i) 2))).foldl (Winnow.step d) {}
          let at' := fun (e q : Nat) => lineAddr pl d.dOut + 64 * d.dStride * e + row * q
          s.drillRead pl r (w.rows.map (fun x => (lineAddr pl d.dSrc + row * x.1, row))) (fun rows s =>
          let s := (w.rows.zip rows).foldl (fun s x => s.drillWrite r.p (at' x.1.2.1 x.1.2.2) x.2) s
          let s := (List.range d.dExperts).foldl (fun s e =>
            let n := w.counts.get 0 e
            if n < d.dCap then s.drillWrite r.p (at' e n) (List.replicate (row * (d.dCap - n)) 0) else s) s
          let s := s.drillWrite r.p (lineAddr pl d.dIdx) (w.index.flatMap (bytesOf 4))
          let s := s.drillWrite r.p (lineAddr pl d.dCnt) ((List.range d.dExperts).flatMap (fun e => bytesOf 2 (w.counts.get 0 e)))
          let pb := plotB pl
          let s := (s.wrapAdd pb F.DRILL_OVER_OVERFLOWED w.excess).satAdd pb F.DRILL_DONE_BAD_SEL w.bad
          let s := if w.excess = 0 then s else s.wr pb F.DRILL_OVER_LAST_EXPERT w.lastOver
          s.drillDone pl r.p)))

/-- DRESOW (R367). -/
def execDresow (p : Fin 32) (s : State) : Out :=
  .next (
    let pl := p.val
    match (s.drill pl).run with
    | none => s
    | some r =>
      let d := r.p.desc
      let row := 64 * d.dRowLines
      if d.code ≠ 0x51 || s.postedWaits r.p (.furrow r.p.poster r.p.serial) 0 3 then s
      else
        s.drillRead pl r [drillExt pl d.dSel (4 * d.dSels)] (fun idx s =>
          let es := (List.range d.dSels).map (fun i => (num (idx.headD []) (4 * i) 2, num (idx.headD []) (4 * i + 2) 2))
          let src := fun e : Nat × Nat => (lineAddr pl d.dSrc + 64 * d.dStride * e.1 + row * e.2, row)
          let live := fun e : Nat × Nat => e.2 ≠ 0xFFFF
          let outside := es.any (fun e => live e && !inPlot pl (src e))
          if outside then (s.modDrill pl (fun x => { x with run := none })).haltPosted r.p 0x08
          else
            s.drillRead pl r ((es.filter live).map src) (fun rows s =>
              let got := (es.filter live).zip rows
              let s := (List.range d.dSels).foldl (fun s i =>
                let e := es.getD i (0, 0)
                let bs := if live e then ((got.find? (fun g => g.1 = e)).map (·.2)).getD [] else List.replicate row 0
                s.drillWrite r.p (lineAddr pl d.dOut + row * i) bs) s
              s.drillDone pl r.p)))

/-- DRILL_CHECK_CTL.CLEAR (R370). -/
def execDrillCheckClear (p : Fin 32) (s : State) : Out :=
  s.unlessFallow p.val (fun s => (s.wr (plotB p.val) F.DRILL_CHECK_COMPARE_ERRS 0).wr (plotB p.val) F.DRILL_CHECK_PARITY_ERRS 0)

/-- DRILL_CHECK_CTL.INJECT_COMPARE; discarded while the Drill runs on one half (R447). -/
def execDrillInjectCompare (p : Fin 32) (s : State) : Out :=
  s.unlessFallow p.val (fun s => if s.rdB (plotB p.val) F.FLT_PLOT_DRILL_SINGLE then s else s.modDrill p.val (fun x => { x with injCompare := true }))

end Sys2Proof.Machine
end

