-- ==== Sys2Proof/Machine/Packets.lean ====
section
/-! DEFINITION. Packets: the header of Table 11-2; reduction packets as the Harrow stages meet them (chapter 12): the reduction header, the collective body, the operation that a packet belongs to, and the
room of the Combine and Early buffers (R333). -/

namespace Sys2Proof

/-! ### The packet header (Table 11-2) -/

namespace Packet
def dst (p : Packet) : Nat := Machine.fld p.w0 0 16
def src (p : Packet) : Nat := Machine.fld p.w0 16 16
def kind (p : Packet) : Nat := Machine.fld p.w0 32 4
def slice (p : Packet) : Nat := Machine.fld p.w0 36 8
def dirs (p : Packet) : Nat := Machine.fld p.w0 44 6
def epoch (p : Packet) : Nat := Machine.fld p.w0 52 8
def resp (p : Packet) : Nat := Machine.fld p.w0 60 4
def addr (p : Packet) : Nat := Machine.fld p.w1 0 48
def length (p : Packet) : Nat := Machine.fld p.w1 48 12
def stream (p : Packet) : Nat := Machine.fld p.w2 0 12
def ssn (p : Packet) : Nat := Machine.fld p.w2 12 20
def fidx (p : Packet) : Nat := Machine.fld p.w2 32 6
def last (p : Packet) : Bool := Machine.fld p.w2 38 1 = 1
def sigEn (p : Packet) : Bool := Machine.fld p.w2 39 1 = 1
def sigTok (p : Packet) : Nat := Machine.fld p.w2 40 6
def sigCluster (p : Packet) : Nat := Machine.fld p.w2 46 9
def sigCount (p : Packet) : Nat := Machine.fld p.w3 0 16
def closeEpoch (p : Packet) : Nat := Machine.fld p.w3 16 8
def owner (p : Packet) : Nat := Machine.fld p.w3 24 9
def tag (p : Packet) : Nat := Machine.fld p.w3 40 24
/-- HTYPE of the host header of a KIND 0x9 packet (Table 14-1). -/
def htype (p : Packet) : Nat := Machine.bits (Machine.num p.data 0 8) 4 4
end Packet

/-- The fields that a sender fills in. -/
structure Hdr where
  dst : Nat := 0
  src : Nat := 0
  kind : Nat := 0
  slice : Nat := 0
  dirs : Nat := 0
  epoch : Nat := 0
  resp : Nat := 0
  addr : Nat := 0
  length : Nat := 0
  stream : Nat := 0xFFF
  ssn : Nat := 0
  fidx : Nat := 0
  last : Bool := false
  sigEn : Bool := false
  sigTok : Nat := 0
  sigCluster : Nat := 0
  sigCount : Nat := 0
  closeEpoch : Nat := 0
  owner : Nat := 0
  tag : Nat := 0
deriving DecidableEq, Repr

/-- A packet of a header and data. -/
def Hdr.packet (h : Hdr) (data : List Byte) : Packet :=
  { w0 := Machine.pack [(0, 16, h.dst), (16, 16, h.src), (32, 4, h.kind), (36, 8, h.slice), (44, 6, h.dirs), (52, 8, h.epoch), (60, 4, h.resp)]
    w1 := Machine.pack [(0, 48, h.addr), (48, 12, h.length)]
    w2 := Machine.pack [(0, 12, h.stream), (12, 20, h.ssn), (32, 6, h.fidx), (38, 1, Machine.b2n h.last), (39, 1, Machine.b2n h.sigEn),
      (40, 6, h.sigTok), (46, 9, h.sigCluster)]
    w3 := Machine.pack [(0, 16, h.sigCount), (16, 8, h.closeEpoch), (24, 9, h.owner), (40, 24, h.tag)]
    data := data }

/-- No reserved KIND and no reserved header bit (R300). -/
def Packet.headerOk (p : Packet) : Bool :=
  decide (p.kind < 10) && Machine.fld p.w0 51 1 = 0 && Machine.fld p.w1 60 4 = 0 && Machine.fld p.w2 55 9 = 0 && Machine.fld p.w3 33 7 = 0

/-- The first VC of the class a packet rides (Table 11-1, R375). -/
def Packet.vcBase (p : Packet) : Nat :=
  if p.kind = 0 ∨ p.kind = 4 ∨ p.kind = 5 ∨ p.kind = 8 then 0
  else if p.kind = 3 ∨ p.kind = 7 then 4
  else if p.kind = 9 ∧ (p.htype = 4 ∨ p.htype = 5 ∨ p.htype = 9 ∨ p.htype = 0xA) then 4
  else 2

/-- Scheduled traffic (Table 11-1). -/
def Packet.scheduled (p : Packet) : Bool := p.vcBase = 0

/-- A member of a scheduled stream (R310). -/
def Packet.streamed (p : Packet) : Bool := (p.kind = 0 || p.kind = 4 || p.kind = 5 || p.kind = 8) && decide (p.stream < 0xFFE)
/-- A member of the elastic sequence of its source (R310, R312). -/
def Packet.sequenced (p : Packet) : Bool := !(p.kind = 0 || p.kind = 4 || p.kind = 5 || p.kind = 7 || p.kind = 8) && p.stream = 0xFFF

end Sys2Proof

namespace Sys2Proof

/-- The reduction header (Table 12-5). -/
structure Red where
  bucket : Nat := 0
  seq : Nat := 0
  chan : Nat := 0
  rtype : Nat := 0
  gen : Nat := 0
  dir : Nat := 0
  checked : Bool := false
  mask : W64 := 0
  chunk : Nat := 0
  dtype : Nat := 0
  oper : Nat := 0
  fin : Bool := true
  nf : Option Nat := none
  origin : Nat := 0
  target : Nat := 0
  wrap : Bool := false
  step : Nat := 0
  vslot : Nat := 0
  ven : Nat := 0
  auxPos : Nat := 0
  auxCount : Nat := 0
deriving DecidableEq, Repr

/-- The 32 bytes of a reduction header. -/
def Red.bytes (r : Red) : List Byte :=
  Machine.wordBytes (Machine.pack [(0, 32, r.bucket), (32, 16, r.seq), (48, 9, r.chan), (57, 3, r.rtype), (60, 2, r.gen), (62, 1, r.dir),
    (63, 1, Machine.b2n r.checked)]) ++
  Machine.wordBytes r.mask ++
  Machine.wordBytes (Machine.pack [(0, 20, r.chunk), (20, 3, r.dtype), (23, 3, r.oper), (26, 1, Machine.b2n r.fin), (27, 1, Machine.b2n r.nf.isSome),
    (28, 16, r.nf.getD 0), (44, 6, r.origin), (50, 6, r.target), (56, 1, Machine.b2n r.wrap)]) ++
  Machine.wordBytes (Machine.pack [(0, 16, r.step), (16, 3, r.vslot), (19, 1, r.ven), (20, 6, r.auxPos), (26, 16, r.auxCount)])

/-- The reduction header at the front of a packet's data. -/
def Red.of (bs : List Byte) : Red :=
  let w := fun i => Machine.num bs (8 * i) 8
  { bucket := Machine.bits (w 0) 0 32, seq := Machine.bits (w 0) 32 16, chan := Machine.bits (w 0) 48 9, rtype := Machine.bits (w 0) 57 3,
    gen := Machine.bits (w 0) 60 2, dir := Machine.bits (w 0) 62 1, checked := Machine.tb (w 0) 63, mask := BitVec.ofNat 64 (w 1),
    chunk := Machine.bits (w 2) 0 20, dtype := Machine.bits (w 2) 20 3, oper := Machine.bits (w 2) 23 3, fin := Machine.tb (w 2) 26,
    nf := if Machine.tb (w 2) 27 then some (Machine.bits (w 2) 28 16) else none, origin := Machine.bits (w 2) 44 6,
    target := Machine.bits (w 2) 50 6, wrap := Machine.tb (w 2) 56, step := Machine.bits (w 3) 0 16, vslot := Machine.bits (w 3) 16 3,
    ven := Machine.bits (w 3) 19 1, auxPos := Machine.bits (w 3) 20 6, auxCount := Machine.bits (w 3) 26 16 }

end Sys2Proof

namespace Sys2Proof.Machine

/-! ### The collective body (Table 12-2) -/

def Desc.cChan (d : Desc) : Nat := fld d.w2 0 9
def Desc.cAxis (d : Desc) : Nat := fld d.w2 9 3
def Desc.cOper (d : Desc) : Nat := fld d.w2 12 3
def Desc.cAlg (d : Desc) : Nat := fld d.w2 15 1
def Desc.cType (d : Desc) : Nat := fld d.w2 16 3
def Desc.cVen (d : Desc) : Nat := fld d.w2 19 1
def Desc.cVslot (d : Desc) : Nat := fld d.w2 20 3
def Desc.cVclose (d : Desc) : Bool := Machine.tb d.w2.toNat 23
def Desc.cSeq (d : Desc) : Nat := fld d.w2 24 16
def Desc.cStep (d : Desc) : Nat := fld d.w2 40 16
def Desc.cSrc (d : Desc) : Nat := fld d.w3 0 48
def Desc.cRoot (d : Desc) : Nat := fld d.w3 48 6
def Desc.cDst (d : Desc) : Nat := fld d.w4 0 48
def Desc.cBuf (d : Desc) : Nat := fld d.w4 48 10
def Desc.cBytes (d : Desc) : Nat := fld d.w5 0 32
def Desc.cChunk (d : Desc) : Nat := 64 * fld d.w5 32 6
def Desc.cBucket (d : Desc) : Nat := fld d.w6 0 32
def Desc.cStreamP (d : Desc) : Nat := fld d.w6 32 12
def Desc.cStreamM (d : Desc) : Nat := fld d.w6 44 12
def Desc.cShift (d : Desc) : Nat := fld d.w7 0 6

/-! ### Operations -/

def CollOp.code (o : CollOp) : Nat := o.desc.code
/-- All operations with their channels. -/
def State.allOps (s : State) : List (Nat × CollOp) := s.coll.chans.flatMap (fun e => e.2.ops.map (fun o => (e.1, o)))


/-! ### The operation of a packet (R336, R343) -/

/-- What a received packet meets. -/
inductive RedMatch where
  | wait
  | drop
  | order
  | op (o : CollOp)
deriving DecidableEq, Repr

/-- Match a packet to the operation of its CHANNEL and OP_SEQ (R343). -/
def State.redMatch (s : State) (r : Red) : RedMatch :=
  let x := s.chan r.chan
  match x.ops.find? (fun o => o.desc.cSeq = r.seq && o.code ≠ 0x1F) with
  | some o => if r.bucket ≠ o.desc.cBucket || r.dtype ≠ o.desc.cType || r.oper ≠ o.desc.cOper then .order else .op o
  | none => if (r.seq + 0x10000 - x.next) % 0x10000 < 0x8000 && !x.aborted then .wait else .drop

/-- The operation of a packet's CHANNEL and OP_SEQ, if it is accepted here (R336). -/
def State.opOf (s : State) (r : Red) : Option CollOp := (s.chan r.chan).ops.find? (fun o => o.desc.cSeq = r.seq && o.code ≠ 0x1F)
/-- The packet is of another epoch than its operation (R336). -/
def State.staleRed (s : State) (p : Packet) : Bool := (s.opOf (Red.of p.data)).any (fun o => o.desc.epoch ≠ p.epoch)

/-! ### The buffers of Table 12-3 -/

/-- Chunks that the Combine buffer of a home port holds: sums that are not whole, and granted chunks that have not come (R333, R341). -/
def State.combineUsed (s : State) (h : Nat) : Nat :=
  s.allOps.foldl (fun m e => if e.2.home = h then m + (e.2.acc.filter (fun a => !a.full)).length + b2n e.2.granted.isSome else m) 0

/-- Does a packet open a new entry of the Combine buffer of a home port? -/
def State.opensSum (s : State) (h : Nat) (p : Packet) : Bool :=
  let r := Red.of p.data
  decide (p.kind = 8) && (r.rtype = 0 || r.rtype = 5) &&
    (s.opOf r).any (fun o => o.home = h && r.target = o.pos && !o.acc.any (fun a => a.seq = r.chunk))

/-- Is a packet early, for an operation that is not yet accepted (R343)? -/
def State.early (s : State) (p : Packet) : Bool := decide (p.kind = 8) && s.redMatch (Red.of p.data) = .wait

/-- The Harrow stage has room for a packet: a full Combine or Early buffer withholds the credit of the incoming VC (R333). -/
def State.harrowRoom (s : State) (e : Ejected) : Bool :=
  if s.early e.pkt then
    decide ((s.coll.early.filter (fun y => y.port = e.port)).length + (s.fab.ejected.filter (fun y => y.port = e.port && s.early y.pkt)).length < 16)
  else
    match s.opOf (Red.of e.pkt.data) with
    | some o => !s.opensSum o.home e.pkt || decide (s.combineUsed o.home + (s.fab.ejected.filter (fun y => s.opensSum o.home y.pkt)).length < 64)
    | none => true

end Sys2Proof.Machine
end

