-- ==== Sys2Proof/Machine/Ports.lean ====
section
/-! DEFINITION. The ports (chapter 10): control symbols, the link layer, lane sparing, bring-up, time synchronisation over a port (R32 to R38). -/

namespace Sys2Proof

def Frame.seq (f : Frame) : Nat := Machine.bits f.hdr.toNat 0 12
def Frame.vc (f : Frame) : Nat := Machine.bits f.hdr.toNat 12 3
def Frame.sop (f : Frame) : Bool := Machine.tb f.hdr.toNat 15
def Frame.eop (f : Frame) : Bool := Machine.tb f.hdr.toNat 16
def Frame.valid (f : Frame) : Nat := (Machine.bits f.hdr.toNat 18 5 + 1) * 8
def Frame.abort (f : Frame) : Bool := Machine.tb f.hdr.toNat 23
/-- The bytes that the CRC covers, and whether it checks (R265). -/
def Frame.crcOk (f : Frame) : Bool :=
  f.payload.length = 256 && decide (f.crc.toNat = Machine.crc32c (Machine.bytesOf 4 f.hdr.toNat ++ f.payload))

/-- A packet from its bytes: the 32-byte header and what follows (R299). -/
def packetOf (bs : List Byte) : Packet :=
  let w := fun i => BitVec.ofNat 64 (Machine.num bs (8 * i) 8)
  ⟨w 0, w 1, w 2, w 3, bs.drop 32⟩
/-- The bytes of a packet. -/
def Packet.bytes (p : Packet) : List Byte := Machine.wordBytes p.w0 ++ Machine.wordBytes p.w1 ++ Machine.wordBytes p.w2 ++ Machine.wordBytes p.w3 ++ p.data
/-- Frames of a packet. -/
def Packet.frames (p : Packet) : Nat := max 1 (Machine.cdiv p.bytes.length 256)

end Sys2Proof

namespace Sys2Proof.Machine

/-! ### Port states (Table 10-7) and teams (R285) -/

def pDISABLED : Nat := 0
def pWAIT_SIGNAL : Nat := 1
def pTRAINING : Nat := 2
def pHELLO : Nat := 4
def pUP : Nat := 5
def pFOREIGN : Nat := 6
def pPASS_MISMATCH : Nat := 7
def pMISWIRED : Nat := 8
def pREACH : Nat := 9
def pDOWN : Nat := 0xA
def pDRAINING : Nat := 0xB
def pDRAINED : Nat := 0xC
def pENABLE_PENDING : Nat := 0xD

/-- The state of a port. -/
def State.pst (s : State) (n : Nat) : Nat := s.rd (portB n) F.PORT_STAT_STATE
def State.setPst (s : State) (n v : Nat) : State := s.wr (portB n) F.PORT_STAT_STATE v
def State.modPort (s : State) (n : Nat) (f : PortSt → PortSt) : State := s.setPort n (f (s.port n))

/-- The port moves frames: UP, FOREIGN or DRAINING. -/
def carries (st : Nat) : Bool := st = pUP || st = pFOREIGN || st = pDRAINING
/-- The port is trained and moves control symbols (Table 10-7). -/
def trained (st : Nat) : Bool := (4 ≤ st && st ≤ 9) || st = pDRAINING

/-- Fabric ports of one axis and sign (R285). -/
def State.team (s : State) (a sg : Nat) : List Nat :=
  (List.range 12).filter (fun n =>
    s.rd (portB n) F.PORT_CFG_MODE = 1 && s.rd (portB n) F.PORT_CFG_AXIS = a && s.rd (portB n) F.PORT_CFG_SIGN = sg)
/-- The team of a port, empty for a gate or disabled port. -/
def State.teamOf (s : State) (n : Nat) : List Nat :=
  if s.rd (portB n) F.PORT_CFG_MODE = 1 then s.team (s.rd (portB n) F.PORT_CFG_AXIS) (s.rd (portB n) F.PORT_CFG_SIGN) else []
/-- UP members of a direction. -/
def State.upMembers (s : State) (a sg : Nat) : List Nat := (s.team a sg).filter (fun n => s.pst n = pUP)
/-- The gate port, if the module has one (R290). -/
def State.gatePort (s : State) : Option Nat := (List.range 12).find? (fun n => s.rd (portB n) F.PORT_CFG_MODE = 2)

/-! ### Control symbols (R268, Table 10-5) -/

/-- A field of a symbol. -/
def sf (y : BitVec 128) (lo w : Nat) : Nat := bits y.toNat lo w
/-- A symbol of a type with its CRC-16. -/
def mkSym (type : Nat) (fs : List (Nat × Nat × Nat)) : BitVec 128 :=
  let v := packN ((0, 8, type) :: fs)
  BitVec.ofNat 128 (v + crc16 (bytesOf 14 v) * 2 ^ 112)
/-- The CRC-16 of a symbol checks. -/
def symOk (y : BitVec 128) : Bool := sf y 112 16 = crc16 (bytesOf 14 (sf y 0 112))
/-- A symbol counts as one of a type: its CRC checks and its TYPE is that one. -/
def symIs (y : BitVec 128) (type : Nat) : Bool := symOk y && decide (sf y 0 8 = type)

/-- Put a control symbol on the wire, in this slot or in the first later one that has not taken five (R267). -/
def State.sendSym (s : State) (n : Nat) (y : BitVec 128) : State :=
  let now := s.fieldCount / 25
  s.modPort n (fun p =>
    let at_ : Nat × Nat := if p.symSlot < now then (now, 1) else if p.symCount < 5 then (p.symSlot, p.symCount + 1) else (p.symSlot + 1, 1)
    { p with sent := y :: p.sent, symSlot := at_.1, symCount := at_.2 })

/-- An arriving frame or symbol ends a silence (R282). -/
def State.heard (s : State) (n : Nat) : State := s.modPort n (fun p => { p with lastRx := s.fieldCount })

/-- The HELLO of a port. -/
def State.helloSym (s : State) (n : Nat) : BitVec 128 :=
  let b := portB n
  mkSym 6 [(8, 4, n), (12, 2, s.rd b F.PORT_CFG_MODE), (14, 1, s.rd b F.PORT_CFG_FEC), (16, 16, s.device), (32, 3, s.rd b F.PORT_CFG_AXIS),
    (35, 1, s.rd b F.PORT_CFG_SIGN), (36, 15, s.passLen)]

/-- The root that this module knows: the one in TIME_STAT, or itself while the time state is FREE. -/
def State.knownRoot (s : State) : Nat := if s.rd seqB F.TIME_STAT_STATE = 0 then s.device else s.rd seqB F.TIME_STAT_ROOT_ID
/-- The hops that a module reports: 255, which no route has (R34), from a barred module that has no root but itself (log 47). -/
def State.hopsSaid (s : State) : Nat :=
  if s.rd seqB F.TIME_STAT_STATE = 0 && s.rdB seqB F.TIME_CFG_ROOT_BAR then 255 else s.rd seqB F.TIME_STAT_HOPS_TO_ROOT
/-- The time state is LOCKED or ROOT. -/
def State.timed (s : State) : Bool := s.rd seqB F.TIME_STAT_STATE = 2 || s.rd seqB F.TIME_STAT_STATE = 4

/-- The time-sync symbol (R33). -/
def State.syncSym (s : State) : BitVec 128 :=
  mkSym 4 [(8, 8, s.hopsSaid), (16, 64, s.stamp), (80, 15, s.passLen), (95, 1, b2n s.timed), (96, 16, s.knownRoot)]

/-- ACK of everything accepted (R269). -/
def ackSym (p : PortSt) : BitVec 128 := mkSym 1 [(8, 12, p.rxSeq + 4095)]

/-- CREDIT for two virtual channels (R272). -/
def creditSym (p : PortSt) (va vb : Nat) : BitVec 128 :=
  mkSym 3 [(8, 3, va), (16, 16, p.gaveCredit.get 0 va), (32, 3, vb), (35, 1, 1), (48, 16, p.gaveCredit.get 0 vb)]

/-! ### Markers on their way (R49, R303) -/

/-- Two ways into the module are one to a stream: the same port, or members of one team. -/
def State.alike (s : State) (a b : Nat) : Bool := a = b || (s.teamOf a).contains b
/-- A packet that a marker follows: of its stream, by the header's SRC_DEVICE and STREAM (Table 11-2), and come by the same way. A stream that turned
crosses a module twice (R303). -/
def State.follows (s : State) (m : Marker) (r : Routable) : Bool :=
  decide (fld r.pkt.w0 16 16 = m.dev) && decide (fld r.pkt.w2 0 12 = m.stream) && s.alike m.via ((r.src.map (·.val)).getD 12)
/-- Packets of a list that a marker follows. -/
def State.ahead (s : State) (q : List Routable) (m : Marker) : Nat := (q.filter (s.follows m)).length
/-- Markers that go behind their packets among `q`. -/
def State.behind (s : State) (q : List Routable) (ms : List Marker) : List (Marker × Nat) := ms.map (fun m => (m, s.ahead q m))

/-- The port that a stream's marker leaves by: the one its packets took; when that one has gone, a port of the same team, or the other way round. -/
def State.markerPort (s : State) (m : Marker) : Option Nat :=
  (s.fab.transit.find? (fun t => t.1 = m.dev && t.2.1 = m.stream && s.alike m.via t.2.2.1)).bind (fun t =>
    let n := t.2.2.2
    let a := s.rd (portB n) F.PORT_CFG_AXIS
    let g := s.rd (portB n) F.PORT_CFG_SIGN
    if s.pst n = pUP ∨ s.pst n = pDRAINING then some n else (s.upMembers a g).head?.or (s.upMembers a (1 - g)).head?)

/-- Markers whose streams' packets have all been routed enter their ports' queues. -/
def State.settleTx (s : State) : State :=
  s.fab.txMk.foldl (fun s e =>
    match (if e.2 = 0 then s.markerPort e.1 else none) with
    | some n => ({ s with fab.txMk := s.fab.txMk.erase e }).modPort n (fun p => { p with outMk := p.outMk ++ [e.1] })
    | none => s) s

/-- A marker to send goes behind the packets of its stream. -/
def State.queueMarker (s : State) (m : Marker) : State :=
  ({ s with fab.txMk := s.fab.txMk ++ s.behind s.fab.txq [m] }).settleTx

/-- A packet of a stream has left `txq` for its port. -/
def State.txRouted (s : State) (r : Routable) : State :=
  let less := fun e : Marker × Nat => if s.follows e.1 r then (e.1, e.2 - 1) else e
  ({ s with fab.txMk := s.fab.txMk.map less }).settleTx

/-- A received marker is behind everything of its stream: one in transit goes on, one of a stream received here is kept for its delivery and closes the
stream's batch. -/
def State.takeMarker (s : State) (m : Marker) : State :=
  if s.fab.transit.any (fun t => t.1 = m.dev && t.2.1 = m.stream && t.2.2.1 < 12) then s.queueMarker m
  else
    let mine := fun r : StreamRx => r.dev = m.dev && r.stream = m.stream
    let m := { m with batch := ((s.fab.streamsRx.find? mine).map (·.batch)).getD 0 }
    { s with fab.markersRx := s.fab.markersRx ++ [m], fab.streamsRx := modFirst mine (fun r => { r with batch := r.batch + 1 }) s.fab.streamsRx }

/-- Markers of a port that have no packet of their stream before them any more are taken. -/
def State.settleRx (s : State) (n : Nat) : State :=
  let q := (s.port n).rxMk
  ((q.filter (fun e => e.2 = 0)).map (·.1)).foldl State.takeMarker (s.modPort n (fun p => { p with rxMk := q.filter (fun e => e.2 ≠ 0) }))

/-- A packet has left a port's receive buffer. -/
def State.rxRouted (s : State) (n : Nat) (r : Routable) : State :=
  let less := fun e : Marker × Nat => if s.follows e.1 r then (e.1, e.2 - 1) else e
  (s.modPort n (fun p => { p with rxMk := p.rxMk.map less })).settleRx n

/-- The marker that a MARKER symbol carries (Table 10-5). -/
def markerOf (sym : BitVec 128) (arrived via : Nat) : Marker :=
  { via := via, dev := sf sym 32 16, stream := sf sym 20 12, pass := sf sym 48 16, count := sf sym 64 6, fail := BitVec.ofNat 40 (sf sym 72 40), arrived := arrived }

/-! ### Going down (R282 to R284) -/

/-- Frames waiting in a port's output queue. -/
def State.waitingFrames (s : State) (n : Nat) : Nat := (s.port n).outQ.foldl (fun m o => m + (o.pkt.frames - o.sent)) 0
/-- Elastic frames waiting there, VC2 to VC7 (R313). -/
def State.waitingElastic (s : State) (n : Nat) : Nat :=
  (s.port n).outQ.foldl (fun m o => if 2 ≤ o.vc then m + (o.pkt.frames - o.sent) else m) 0

/-- THROTTLE_STAT.ACTIVE follows the elastic frames that wait for a port (R313). -/
def State.throttle (s : State) (n : Nat) : State :=
  let w := s.waitingElastic n
  let act := s.rd routeB F.THROTTLE_STAT_ACTIVE
  let s := if s.obs.congPeak < w then { s with obs.congPeak := w, obs.congPort := n } else s
  if s.rd routeB F.ROUTE_CFG_THROTTLE_HI < w then
    { s.wr routeB F.THROTTLE_STAT_ACTIVE (setBit act n true) with obs.congThrottled := setBit s.obs.congThrottled n true }
  else if w ≤ s.rd routeB F.ROUTE_CFG_THROTTLE_LO then s.wr routeB F.THROTTLE_STAT_ACTIVE (setBit act n false)
  else s

/-- PT_Q.DEPTH of every VC follows the output queue, frames not yet sent, and so does the throttle. -/
def State.setDepths (s : State) (n : Nat) : State :=
  State.throttle (n := n) <| (List.range 8).foldl (fun s v =>
    s.wr (portB n) F.PT_Q_DEPTH ((s.port n).outQ.foldl (fun m o => if o.vc = v then m + (o.pkt.frames - o.sent) else m) 0) v) s

/-- A queued packet goes back to the router; it rides as moved frames from then on (R317). -/
def OutPkt.back (o : OutPkt) : Routable := { pkt := o.pkt, src := o.src, vc := o.vc, moved := true, spoilt := o.spoilt }

/-- The packets that a port's frames belong to are handed back whole, in SEQ order, and its queued packets follow; all ride as moved frames, and markers go
behind them (R282, R303, R317). Frames that arrived of incomplete packets are lost with the link. -/
def State.handBack (s : State) (n : Nat) : State :=
  let p := s.port n
  let kept := p.replay.filterMap (fun i =>
    match i.frame, i.pkt with
    | some f, some k => if tb f.hdr.toNat 15 then some ({ pkt := k, src := i.src, vc := i.vc, moved := true } : Routable) else none
    | _, _ => none)
  let queued := (p.outQ.filter (fun o => o.sent = 0)).map OutPkt.back
  let marks := p.replay.filterMap (·.mark) ++ p.outMk
  let s := s.modPort n (fun p => { p with replay := [], resend := [], outQ := [], part := [], outMk := [] })
  let s := (s.wr (portB n) F.PORT_REPLAY_OCCUPANCY 0).setDepths n
  let txq := s.fab.txq ++ kept ++ queued
  { s with fab.txq := txq, fab.txMk := s.fab.txMk ++ s.behind txq marks }

/-- Losing the parent port leads to HOLDOVER (R35). -/
def State.parentLost (s : State) (n : Nat) : State :=
  if s.rd seqB F.TIME_STAT_STATE = 2 && s.rd seqB F.TIME_STAT_PARENT_PORT = n then
    { s.wr seqB F.TIME_STAT_STATE 3 with obs.holdoverSince := some s.fieldCount }
  else s

/-- A direction that loses its last UP member is LOST; an error record names axis and sign (R319). -/
def State.noteLost (s : State) (n : Nat) (wasUp : Bool) : State :=
  let a := s.rd (portB n) F.PORT_CFG_AXIS
  let g := s.rd (portB n) F.PORT_CFG_SIGN
  if wasUp && s.rd (portB n) F.PORT_CFG_MODE = 1 && (s.upMembers a g).isEmpty then s.err 0x0B 2 ⟨5, 0, n⟩ {} a g else s

/-- Does no member and no turn carry a lost port's traffic (Table 18-4, class 0x0A)? -/
def State.uncarried (s : State) (n : Nat) : Bool :=
  let a := s.rd (portB n) F.PORT_CFG_AXIS
  let g := s.rd (portB n) F.PORT_CFG_SIGN
  s.rd (portB n) F.PORT_CFG_MODE ≠ 1 ||
    ((s.upMembers a g).isEmpty && (s.rd routeB F.AXIS_WRAP a = 0 || (s.upMembers a (1 - g)).isEmpty))

/-- The link of a port is over: its state word is `st`, its traffic handed back, its neighbour unknown. -/
def State.unlink (s : State) (n st : Nat) : State :=
  let wasUp := decide (s.pst n = pUP)
  let s := (s.handBack n).setPst n st
  let s := s.modPort n (fun p => { p with sync := none, swap := none, unlocked := false, unacked := 0 })
  let s := (s.wr (portB n) F.PORT_STAT_SPARE_PENDING 0).wr seqB F.TIME_STAT_FOREIGN_PORTS (setBit (s.rd seqB F.TIME_STAT_FOREIGN_PORTS) n false)
  (s.parentLost n).noteLost n wasUp

/-- No port starts before the option block is in force, nor in FAILED (Table 15-1, R397), nor while its lanes belong to the test block (R491). -/
def State.portMayStart (s : State) (n : Nat) : Bool :=
  decide (2 ≤ s.rd rstB F.BOOT_STAT_STATE) && s.rd rstB F.BOOT_STAT_STATE ≠ 0xF && !s.rdB (portB n) F.PT_TEST_TEST_EN

/-- A port leaves DOWN, DISABLED or DRAINED to look for its neighbour: no HELLO has been received since (PORT_NBR.VALID), and the map of an earlier
training no longer holds (R276). -/
def State.waitSignal (s : State) (n : Nat) : State :=
  let b := portB n
  if !s.portMayStart n then s else
  let s := ((s.setPst n pWAIT_SIGNAL).wr b F.PORT_NBR_VALID 0).wr b F.PORT_STAT_SPARED_LANE 0xF
  let s := (List.range 9).foldl (fun s k => (s.wr b F.LANE_STATE 0 k).wr b F.LANE_ROLE 0xF k) (s.wr b F.PORT_STAT_SPARE_FAILED 0)
  s.modPort n (fun p => { p with trainFailed := false, txSpare := none, badCw := 0 })

/-- A port goes DOWN with a reason and says so to its neighbour (R277, R282, R283). A reason from 3 upwards is a fault. With AUTO_RETRAIN it then waits
for signal. -/
def State.goDown (s : State) (n reason : Nat) : State :=
  let b := portB n
  let s := s.sendSym n (mkSym 8 [(8, 4, reason)])
  let nbr := s.rd b F.PORT_NBR_DEVICE_ID
  let s := (s.unlink n pDOWN).wr b F.PORT_STAT_LAST_DOWN reason
  let s := if reason < 3 then s
    else (s.satAdd b F.PORT_LINK_DOWN_EVENTS 1).err 0x0A (if s.uncarried n then 3 else 1) ⟨5, 0, n⟩ {} reason nbr
  if s.rdB b F.PORT_CFG_AUTO_RETRAIN then s.waitSignal n else s

/-! ### Coming up (R278, R279, R264, R37, R38) -/

/-- This module's position on an axis (R293). -/
def State.posOf (s : State) (dev a : Nat) : Nat := bits dev (s.rd routeB F.AXIS_LSB a) (s.rd routeB F.AXIS_WIDTH a)
/-- FIELD_MASK: the bits that the used axes cover (R294). -/
def State.fieldMask (s : State) : Nat :=
  (List.range 6).foldl (fun m a => m ||| ((2 ^ s.rd routeB F.AXIS_WIDTH a - 1) <<< s.rd routeB F.AXIS_LSB a)) 0

/-- The position one step away on an axis in a sign; a line has none beyond its ends. -/
def State.stepPos (s : State) (a pos sg : Nat) : Option Nat :=
  let len := s.rd routeB F.AXIS_LENGTH a
  if sg = 0 then
    if pos + 1 < len then some (pos + 1) else if s.rdB routeB F.AXIS_WRAP a then some 0 else none
  else if 0 < pos then some (pos - 1) else if s.rdB routeB F.AXIS_WRAP a then some (len - 1) else none

/-- A device identity with another position on an axis. -/
def State.withPos (s : State) (dev a pos : Nat) : Nat :=
  let lsb := s.rd routeB F.AXIS_LSB a
  dev - s.posOf dev a * 2 ^ lsb + pos * 2 ^ lsb

/-- The neighbour check of R279. -/
def State.helloOk (s : State) (n : Nat) : Bool :=
  let b := portB n
  let dev := s.rd b F.PORT_NBR_DEVICE_ID
  if s.rd b F.PORT_CFG_MODE = 2 then s.rd b F.PORT_NBR_MODE = 3
  else
    let a := s.rd b F.PORT_CFG_AXIS
    s.rd b F.PORT_NBR_MODE = 1 && s.rd b F.PORT_NBR_FEC = s.rd b F.PORT_CFG_FEC && s.rd b F.PORT_NBR_AXIS = a &&
    decide (s.rd b F.PORT_NBR_SIGN = 1 - s.rd b F.PORT_CFG_SIGN) &&
    (s.teamOf n).all (fun m => m = n || s.pst m ≠ pUP || s.rd (portB m) F.PORT_NBR_DEVICE_ID = dev) &&
    decide (dev ≠ s.device) && (s.stepPos a (s.posOf s.device a) (s.rd b F.PORT_CFG_SIGN)).map (fun p => s.withPos s.device a p) = some dev

/-- An UP port that turns FOREIGN carries scheduled traffic and markers no longer (R37): what waits for it goes back to the router, and its direction
may have lost its last UP member. -/
def State.estrange (s : State) (n : Nat) : State :=
  let p := s.port n
  let mine := fun o : OutPkt => o.sent = 0 && decide (o.vc < 2)
  let txq := s.fab.txq ++ (p.outQ.filter mine).map OutPkt.back
  let s := (s.modPort n (fun q => { q with outQ := p.outQ.filter (fun o => !mine o), outMk := [] })).setDepths n
  let s := { s with fab.txq := txq, fab.txMk := s.fab.txMk ++ s.behind txq p.outMk }
  (s.setPst n pFOREIGN).noteLost n true

/-- A port comes UP: sequence numbers start at zero and the receiver promises the buffers that no frame of the earlier link still fills (R272, log 45).
With DRAIN set it is DRAINING at once (R288). -/
def State.comeUp (s : State) (n st : Nat) : State :=
  let b := portB n
  let filled := fun v => (s.port n).rxPkts.foldl (fun m r => if r.vc = v then m + r.pkt.frames else m) 0
  let give : SMap Nat := (List.range 8).map (fun v => (v, s.rd b F.PORT_VC_CREDITS v - filled v))
  let s := if s.pst n = pFOREIGN ∨ s.pst n = pUP then s
    else
      let s := s.modPort n (fun p => { p with
        txSeq := 0, rxSeq := 0, nakUntil := 0, unacked := 0, ackNext := 0, part := [], gotCredit := [], gaveCredit := give,
        lastRx := s.fieldCount })
      let s := (List.range 8).foldl (fun s v => s.wr b F.PORT_VC_HELD 0 v) s
      [0, 2, 4, 6].foldl (fun s v => s.sendSym n (creditSym (s.port n) v (v + 1))) s
  let s := s.wr seqB F.TIME_STAT_FOREIGN_PORTS (setBit (s.rd seqB F.TIME_STAT_FOREIGN_PORTS) n (st = pFOREIGN))
  if s.rdB b F.PORT_CTL_DRAIN then s.setPst n pDRAINING
  else if st = pUP && s.pst n ≠ pUP then (s.wrapAdd b F.PORT_STAT_UP_COUNT 1).setPst n pUP
  else if st = pFOREIGN && s.pst n = pUP then s.estrange n
  else s.setPst n st

/-- Where a port that has heard its neighbour's HELLO stands (R264, R279, R37, R38). The counters are compared once the neighbour's is its domain's. The
adapter of a gate port sends no TIME_SYNC (R291), so that port waits for none (log 121). -/
def State.judge (s : State) (n : Nat) : State :=
  let b := portB n
  let st := s.pst n
  let gate := decide (s.rd b F.PORT_CFG_MODE = 2)
  let p := s.port n
  if !trained st || st = pDRAINING || !s.rdB b F.PORT_NBR_VALID then s
  else if !s.helloOk n then (if st = pUP || st = pFOREIGN then s else s.setPst n pMISWIRED)
  else if !gate && s.rd b F.PORT_NBR_PASS_LEN ≠ s.passLen then (if st = pUP || st = pFOREIGN then s else s.setPst n pPASS_MISMATCH)
  else if 600 < s.rd b F.PORT_HOP_HOP_CLK || (s.rd b F.PORT_CFG_FEC = 0 && 8 < s.rd b F.PORT_HOP_MEDIUM_CLK) then
    (if st = pUP || st = pFOREIGN then s else s.setPst n pREACH)
  else
    match gate, p.sync with
    | true, _ => if s.timed && st ≠ pUP then s.comeUp n pUP else s
    | false, none => if st = pUP || st = pFOREIGN then s else s.setPst n pHELLO
    | false, some r =>
      let far := decide (9 < r.diff) || decide (r.diff < -9)
      if far && r.locked && (s.timed || s.rd seqB F.TIME_STAT_STATE = 3) then
        if st = pFOREIGN then s else s.comeUp n pFOREIGN
      else if !far && s.timed then if st = pUP then s else s.comeUp n pUP
      else if st = pUP || st = pFOREIGN then s else s.setPst n pHELLO

/-- Every port is judged again, after a change of the time state. -/
def State.judgeAll (s : State) : State := (List.range 12).foldl State.judge s

/-! ### The timing domain (R32 to R36) -/

/-- The start-up conditions under which the time state may leave FREE (R392). -/
def State.timeFree (s : State) : Bool := s.boot.granFilled && s.boot.barnFilled && s.boot.stewardOk

/-- Ports that can serve as parent ports: enabled in SYNC_PORTS, not the gate port, not FOREIGN, with a report (R32, R290). -/
def State.syncPorts (s : State) : List (Nat × SyncReport) :=
  (List.range 12).filterMap (fun n =>
    let r := (s.port n).sync
    if tb (s.rd seqB F.TIME_CFG_SYNC_PORTS) n && s.rd (portB n) F.PORT_CFG_MODE = 1 && s.pst n ≠ pFOREIGN then r.map (fun x => (n, x)) else none)

/-- The report of a barred module that has no root but itself (log 47). -/
def SyncReport.barred (r : SyncReport) : Bool := r.hops = 255

/-- The root that R32 chooses from this module's reports: the lowest identity among the roots reported and, unless ROOT_BAR, this module's own; where
every module heard of is barred, the lowest of all. How the choice spreads among modules is not given (log 47). -/
def State.rootDue (s : State) : Nat :=
  let heard := s.syncPorts.map (·.2)
  let open_ := ((heard.filter (fun r => !r.barred)).map (·.root)) ++ (if s.rdB seqB F.TIME_CFG_ROOT_BAR then [] else [s.device])
  (if open_.isEmpty then s.device :: heard.map (·.root) else open_).foldl min 0xFFFF

/-- The module is ROOT. -/
def State.becomeRoot (s : State) : State :=
  let s := (s.wr seqB F.TIME_STAT_STATE 4).wr seqB F.TIME_STAT_PARENT_PORT 0xF
  (s.wr seqB F.TIME_STAT_HOPS_TO_ROOT 0).wr seqB F.TIME_STAT_ROOT_ID s.device

/-- The one step of the field counter, by `d` clk backwards, on entry to ACQUIRE (R31, R36). What is kept as field counts of the link layer follows. -/
def State.stepCounter (s : State) (d : Int) : State :=
  let moved := fun p : PortSt => { p with
    sync := p.sync.map (fun x => { x with diff := x.diff - d }), nakUntil := 0, symSlot := 0, symCount := 0, frSlot := 0, frCount := 0
    lastRx := ((p.lastRx : Int) - d).toNat }
  let s := { s with fieldCount := ((s.fieldCount : Int) - d).toNat, obs.stepped := true }
  (List.range 12).foldl (fun s m => s.modPort m moved) s

/-- Follow a parent port (R33, R35, R36): before the first Pass the counter is stepped once, in ACQUIRE, and slews from then on; the module is LOCKED
once it is within the 4.5 clk of R34, and stays so. -/
def State.followParent (s : State) (n : Nat) (r : SyncReport) : State :=
  let st := s.rd seqB F.TIME_STAT_STATE
  let s := (s.wr seqB F.TIME_STAT_PARENT_PORT n).wr seqB F.TIME_STAT_HOPS_TO_ROOT (min 255 (r.hops + 1))
  let s := s.wr seqB F.TIME_STAT_ROOT_ID r.root
  let off := min 0x7FFF (max (-0x8000) (r.diff * 64))
  let s := { s.wr seqB F.TIME_STAT_OFFSET (off % 0x10000).toNat with obs.holdoverSince := none }
  if st = 2 || s.firstPass then s.wr seqB F.TIME_STAT_STATE 2
  else if st = 1 || s.obs.stepped then s.wr seqB F.TIME_STAT_STATE (if -5 < r.diff ∧ r.diff < 5 then 2 else 1)
  else ((s.stepCounter r.diff).wr seqB F.TIME_STAT_STATE 1).wr seqB F.TIME_STAT_OFFSET 0

/-- Choose the root and the parent port: of the LOCKED neighbours that report the root, the one with the fewest hops, ties to the lowest port (R32). -/
def State.chooseRoot (s : State) : State :=
  let c := s.syncPorts
  let root := s.rootDue
  if !s.timeFree || c.isEmpty then s
  else if root = s.device then s.becomeRoot
  else
    let cands := c.filter (fun e => e.2.root = root && e.2.locked && !e.2.barred)
    let hops := cands.foldl (fun m e => min m e.2.hops) 256
    match cands.find? (fun e => e.2.hops = hops) with
    | none => s
    | some (n, r) => s.followParent n r

/-! ### Received control symbols -/

/-- A symbol that arrived on a trained port, in codewords that can be corrected (R262). -/
def State.onSym (s : State) (n : Nat) (y : BitVec 128) (type : Nat) (use : State → State) : State :=
  if trained (s.pst n) && symIs y type && decide ((s.port n).badCw = 0) then use (s.heard n) else s

/-- Is SEQ `a` at or before SEQ `b`, modulo 4,096 (R269)? -/
def seqLe (a b : Nat) : Bool := decide ((b + 4096 - a) % 4096 < 2048)

/-- Items an ACK of SEQ `q` leaves in the replay buffer (R270): the later ones, and frames of a packet whose EOP frame is not yet acknowledged. -/
def keepReplay (q : Nat) : List TxItem → List TxItem
  | [] => []
  | i :: t =>
    let rest := keepReplay q t
    let eop := fun j : TxItem => j.vc = i.vc && (j.frame.map (fun f => tb f.hdr.toNat 16)).getD false
    if !seqLe i.seq q then i :: rest
    else
      match i.frame with
      | none => rest
      | some _ => if ((i :: t).find? eop).any (fun j => seqLe j.seq q) then rest else i :: rest

/-- ACK (R269, R270). -/
def execAck (n : Fin 12) (sym : BitVec 128) (s : State) : Out :=
  .next (s.onSym n.val sym 1 (fun s =>
    let q := sf sym 8 12
    let p := s.port n.val
    let r := keepReplay q p.replay
    let next := if seqLe p.ackNext q then (q + 1) % 4096 else p.ackNext
    let s := s.setPort n.val { p with replay := r, resend := p.resend.filter (fun i => !seqLe i.seq q), ackNext := next }
    s.wr (portB n.val) F.PORT_REPLAY_OCCUPANCY r.length))

/-- NAK: send again from the NAK's SEQ, in order (R270). -/
def execNak (n : Fin 12) (sym : BitVec 128) (s : State) : Out :=
  .next (s.onSym n.val sym 2 (fun s =>
    let q := sf sym 8 12
    s.modPort n.val (fun p => { p with resend := p.replay.filter (fun i => seqLe q i.seq) })))

/-- Credits returned by the neighbour, cumulative modulo 2^16 (R272). -/
def State.gainCredit (s : State) (n v count : Nat) : State :=
  let p := s.port n
  let d := (count + 0x10000 - p.gotCredit.get 0 v) % 0x10000
  (s.setPort n { p with gotCredit := p.gotCredit.insert v count }).wr (portB n) F.PORT_VC_HELD (s.rd (portB n) F.PORT_VC_HELD v + d) v

/-- CREDIT (R272). -/
def execCredit (n : Fin 12) (sym : BitVec 128) (s : State) : Out :=
  .next (s.onSym n.val sym 3 (fun s =>
    let s := s.gainCredit n.val (sf sym 8 3) (sf sym 16 16)
    if sf sym 35 1 = 1 then s.gainCredit n.val (sf sym 32 3) (sf sym 48 16) else s))

/-- TIME_SYNC: `delay` is the link delay that the two-way exchange has measured (R33, R263). The rate correction itself changes no value here. -/
def State.onTimeSync (s : State) (n : Fin 12) (sym : BitVec 128) (delay : Nat) : State :=
  s.onSym n.val sym 4 (fun s =>
    if s.rd (portB n.val) F.PORT_CFG_MODE ≠ 1 then s
    else
      let diff : Int := (s.stamp : Int) - ((sf sym 16 64 + delay : Nat) : Int)
      let s := s.modPort n.val (fun p =>
        { p with sync := some { root := sf sym 96 16, hops := sf sym 8 8, locked := sf sym 95 1 = 1, diff := diff } })
      let s := (s.wr (portB n.val) F.PORT_HOP_HOP_CLK (sat 12 delay)).wr (portB n.val) F.PORT_NBR_PASS_LEN (sf sym 80 15)
      ((s.judge n.val).chooseRoot).judgeAll)

/-- HELLO: the neighbour's report is recorded and checked (R279). -/
def execHello (n : Fin 12) (sym : BitVec 128) (s : State) : Out :=
  .next (s.onSym n.val sym 6 (fun s =>
    let b := portB n.val
    let s := ((s.wr b F.PORT_NBR_DEVICE_ID (sf sym 16 16)).wr b F.PORT_NBR_PORT (sf sym 8 4)).wr b F.PORT_NBR_MODE (sf sym 12 2)
    let s := ((s.wr b F.PORT_NBR_FEC (sf sym 14 1)).wr b F.PORT_NBR_AXIS (sf sym 32 3)).wr b F.PORT_NBR_SIGN (sf sym 35 1)
    ((s.wr b F.PORT_NBR_PASS_LEN (sf sym 36 15)).wr b F.PORT_NBR_VALID 1).judge n.val))

/-- LINK_DOWN (R282, R283). -/
def State.onLinkDown (s : State) (n : Fin 12) (sym : BitVec 128) : State :=
  s.onSym n.val sym 8 (fun s => if carries (s.pst n.val) then s.goDown n.val (sf sym 8 4) else s)

/-- A symbol of a reserved type is discarded and counted (R268). -/
def execReservedTypeSymbol (n : Fin 12) (sym : BitVec 128) (s : State) : Out :=
  .next (
    if trained (s.pst n.val) && symOk sym && decide (9 ≤ sf sym 0 8) && decide ((s.port n.val).badCw = 0) then (s.heard n.val).satAdd (portB n.val) F.PORT_LINK_BAD_SYMBOLS 1 else s)

/-! ### Accepting items in sequence (R266, R269) -/

/-- Send a NAK with its cause, unless one has gone out less than 2 × HOP_CLK + 32 clk ago. -/
def State.sendNak (s : State) (n cause : Nat) : State :=
  let p := s.port n
  if s.fieldCount < p.nakUntil then s
  else
    let s := s.sendSym n (mkSym 2 [(8, 12, p.rxSeq), (20, 4, cause)])
    let s := s.modPort n (fun p => { p with nakUntil := s.fieldCount + 2 * s.rd (portB n) F.PORT_HOP_HOP_CLK + 32 })
    s.satAdd (portB n) F.PORT_LINK_NAKS_SENT 1

/-- An item has been accepted: the next SEQ is expected, and every sixteenth acceptance sends an ACK (R269). -/
def State.accepted (s : State) (n : Nat) : State :=
  let p := { s.port n with rxSeq := ((s.port n).rxSeq + 1) % 4096, unacked := (s.port n).unacked + 1 }
  if 16 ≤ p.unacked then (s.setPort n { p with unacked := 0 }).sendSym n (ackSym p) else s.setPort n p

/-- Return credits for frames that leave the receive buffer (R272). -/
def State.returnCredit (s : State) (n v k : Nat) : State :=
  let p := s.port n
  let s := s.setPort n { p with gaveCredit := p.gaveCredit.insert v ((p.gaveCredit.get 0 v + k) % 0x10000) }
  s.sendSym n (creditSym (s.port n) v v)

/-- The SOP and EOP order of a frame on its VC: a packet begins with SOP, is at most 16 frames long, and all its frames but the last are full. -/
def frameOrderOk (part : List Frame) (f : Frame) : Bool :=
  (f.sop == part.isEmpty) && decide (part.length < 16) && (f.eop || (f.valid = 256 && decide (part.length < 15)))

/-- A frame is accepted: bytes and packets are counted, and a whole packet goes to the router. One that ends with ABORT is discarded (R265). -/
def State.takeFrame (s : State) (n : Nat) (f : Frame) : State :=
  let v := f.vc
  let part := f :: (s.port n).part.get [] v
  let s := (s.accepted n).wrapAdd (portB n) F.PT_RX_BYTES_BYTES f.valid
  if !f.eop then s.modPort n (fun p => { p with part := p.part.put [] v part })
  else
    let s := (s.wrapAdd (portB n) F.PT_PKTS_RX 1).modPort n (fun p => { p with part := p.part.erase v })
    if f.abort then s.returnCredit n v part.length
    else
      let bs := part.reverse.flatMap (fun f => f.payload.take f.valid)
      s.modPort n (fun p => { p with rxPkts := p.rxPkts ++ [{ pkt := packetOf bs, src := some (Fin.ofNat 12 n), vc := v }] })

/-- Symbols that the code of a port corrects in a codeword: 15 in KP mode, 7 in Short mode (R262). -/
def State.fecLimit (s : State) (n : Nat) : Nat := if s.rdB (portB n) F.PORT_CFG_FEC then 15 else 7

/-- A codeword with `k` wrong symbols begins on a lane (R262, R275, R292). One of an active lane that cannot be corrected spoils what lies in it. -/
def State.newCodeword (s : State) (n lane k : Nat) : State :=
  let b := portB n
  let bad := decide (s.fecLimit n < k)
  let here := 1#9 <<< lane
  let s := s.modPort n (fun p => { p with badCw := if bad && s.rd b F.LANE_STATE lane = 3 then p.badCw ||| here else p.badCw &&& ~~~here })
  if bad then s.satAdd b F.PORT_FEC_UNCORRECTABLE 1
  else if k = 0 then s
  else
    let s := (s.satAdd b F.LANE_SYM_ERRS k lane).satAdd b F.PORT_FEC_CORRECTED 1
    s.modPort n (fun p => { p with passErrs := p.passErrs.insert lane (p.passErrs.get 0 lane + k) })

/-- FRAME_RECEIVE: on the lanes of `fresh` a codeword begins with this frame, with as many wrong symbols as `wrong` says; on the others the frame lies in the
lane's present one (R262, R266, R275). -/
def execFrameReceive (n : Fin 12) (fr : Frame) (fresh : BitVec 9) (wrong : List Nat) (s : State) : Out :=
  .next (
    let b := portB n.val
    if !carries (s.pst n.val) || s.boot.fabricDom ≠ .run then s
    else
      let before := (s.port n.val).badCw
      let s := ((List.range 9).filter fresh.getLsbD).foldl (fun s k => s.newCodeword n.val k (wrong.getD k 0)) (s.heard n.val)
      let fail := fun (s : State) (cause : Nat) => (s.satAdd b F.PORT_LINK_CRC_ERRS 1).sendNak n.val cause
      let p := s.port n.val
      if before ||| p.badCw ≠ 0 then fail s 1
      else if !fr.crcOk then fail s 0
      else if bits fr.hdr.toNat 24 8 ≠ 0 then fail s 3
      else if fr.seq ≠ p.rxSeq then s.sendNak n.val 2
      else if !frameOrderOk (p.part.get [] fr.vc) fr then fail s 3
      else s.takeFrame n.val fr)

/-- MARKER: sequenced like a frame, and a failing one is NAKed like one (R262, R269). A marker of a stream in transit goes on behind the stream's frames (R303), one of a stream received here is kept
for its delivery (R49). A gate port carries none (R290). -/
def execMarker (n : Fin 12) (sym : BitVec 128) (s : State) : Out :=
  .next (
    if !carries (s.pst n.val) || (symOk sym && !symIs sym 5) || s.boot.fabricDom ≠ .run || s.rd (portB n.val) F.PORT_CFG_MODE ≠ 1 then s
    else if (s.port n.val).badCw ≠ 0 then s.sendNak n.val 1
    else if !symOk sym then s.sendNak n.val 0
    else
      let s := s.heard n.val
      if sf sym 8 12 ≠ (s.port n.val).rxSeq then s.sendNak n.val 2
      else
        let s := s.accepted n.val
        let m := markerOf sym s.fieldCount n.val
        (s.modPort n.val (fun p => { p with rxMk := p.rxMk ++ s.behind p.rxPkts [m] })).settleRx n.val)

/-! ### Timers of the link layer -/

/-- TIME_SYNC_SEND: every trained port, every 1,024 clk (R33). -/
def execTimeSyncSend (n : Fin 12) (s : State) : Out := .next (if trained (s.pst n.val) then s.sendSym n.val s.syncSym else s)

/-- ACK_TIMER: at least once every 32 clk (R269). -/
def execAckTimer (n : Fin 12) (s : State) : Out :=
  .next (
    if carries (s.pst n.val) && decide (0 < (s.port n.val).unacked) && decide (s.boot.fabricDom = .run) then
      (s.sendSym n.val (ackSym (s.port n.val))).modPort n.val (fun p => { p with unacked := 0 })
    else s)

/-- HELLO_RESEND: until the port is UP (R268), so also while it is FOREIGN. -/
def execHelloResend (n : Fin 12) (s : State) : Out :=
  .next (if trained (s.pst n.val) && s.pst n.val ≠ pUP && s.pst n.val ≠ pDRAINING then s.sendSym n.val (s.helloSym n.val) else s)

/-- LANE_MAP_RESEND: a request not yet granted (R268). -/
def execLaneMapResend (n : Fin 12) (s : State) : Out :=
  .next (match (s.port n.val).swap with | some l => s.sendSym n.val (mkSym 7 [(8, 4, l)]) | none => s)

/-- LINK_TIMEOUT_EXPIRY: nothing has arrived for LINK_TIMEOUT clk while the lanes are locked (R282). -/
def State.onLinkTimeout (s : State) (n : Fin 12) : State :=
    if carries (s.pst n.val) && !(s.port n.val).unlocked && decide ((s.port n.val).lastRx + s.rd (portB n.val) F.PORT_CFG_LINK_TIMEOUT ≤ s.fieldCount) then
      s.goDown n.val 4
    else s

/-! ### Lane sparing (R274 to R277) -/

/-- A receiver declares a lane failing: it asks for a swap, or, with no spare left, the port goes down with reason 5. -/
def State.laneFails (s : State) (n lane : Nat) : State :=
  let b := portB n
  if s.rd b F.LANE_STATE 8 = 3 || s.rdB b F.PORT_STAT_SPARE_FAILED || !s.rdB b F.PORT_CFG_SPARE_EN || (s.port n).swap.any (· ≠ lane) then
    s.goDown n 5
  else if (s.port n).swap.isSome then s
  else ((s.modPort n (fun p => { p with swap := some lane })).wr b F.PORT_STAT_SPARE_PENDING 1).sendSym n (mkSym 7 [(8, 4, lane)])

/-- The swap is recorded: SPARED_LANE and a LANE_SPARED record (R276). -/
def State.spared (s : State) (n lane seq : Nat) : State :=
  (s.wr (portB n) F.PORT_STAT_SPARED_LANE lane).err 0x09 2 ⟨6, n, lane⟩ {} lane seq

/-- LANE_MAP: a request moves the lane of the transmit direction onto LS, is granted and the items from SWITCH_SEQ, the oldest that is not
acknowledged, are sent again on the new map; a grant completes the swap of the receive direction (R259, R275). -/
def execLaneMap (n : Fin 12) (sym : BitVec 128) (s : State) : Out :=
  .next (s.onSym n.val sym 7 (fun s =>
    let b := portB n.val
    let lane := sf sym 8 4
    let p := s.port n.val
    if 7 < lane then s
    else if sf sym 12 1 = 0 then
      if p.txSpare.any (· ≠ lane) then s
      else
        let s := s.sendSym n.val (mkSym 7 [(8, 4, lane), (12, 1, 1), (16, 12, p.ackNext)])
        if p.txSpare = some lane then s
        else
          (s.modPort n.val (fun q => { q with txSpare := some lane, resend := p.replay.filter (fun i => seqLe p.ackNext i.seq) })).spared n.val lane p.ackNext
    else if p.swap = some lane then
      let s := s.modPort n.val (fun p => { p with swap := none, unlocked := false, badCw := p.badCw &&& ~~~(1#9 <<< lane) })
      let s := ((s.wr b F.PORT_STAT_SPARE_PENDING 0).wr b F.LANE_STATE 4 lane).wr b F.LANE_ROLE 0xF lane
      ((s.wr b F.LANE_STATE 3 8).wr b F.LANE_ROLE lane 8).spared n.val lane (sf sym 16 12)
    else s))

/-- LANE_LOCK_LOSS (R275, R277): an active lane is failing; the standby spare becomes unusable. -/
def State.onLaneLockLoss (s : State) (n : Fin 12) (lane : Fin 9) : State :=
    let b := portB n.val
    let st := s.rd b F.LANE_STATE lane.val
    let s := s.satAdd b F.LANE_LOCK_LOSSES 1 lane.val
    if !trained (s.pst n.val) then s
    else if lane.val = 8 then
      if st = 3 then s.goDown n.val 5
      else if st = 2 then (s.wr b F.LANE_STATE 4 8).wr b F.PORT_STAT_SPARE_FAILED 1 else s
    else if st = 3 then
      let s := s.laneFails n.val lane.val
      s.modPort n.val (fun p => { p with unlocked := p.unlocked || p.swap = some lane.val })
    else s

/-- SPARE_NOW: a forced swap, discarded while a lane is spared or the spare has failed (R292). -/
def State.onSpareNow (s : State) (n : Fin 12) (lane : Fin 8) : State :=
    let b := portB n.val
    let s := s.wr b F.PORT_CTL_SPARE_LANE lane.val
    if s.rd b F.PORT_STAT_SPARED_LANE ≠ 0xF || s.rdB b F.PORT_STAT_SPARE_FAILED || !trained (s.pst n.val) || (s.port n.val).swap.isSome ||
      !s.rdB b F.PORT_CFG_SPARE_EN then s
    else s.laneFails n.val lane.val

/-- At each boundary a lane whose corrected symbols of the Pass exceed SPARE_THRESH is failing (R275). -/
def State.laneBoundary (s : State) (n : Nat) : State :=
  let errs := (s.port n).passErrs
  let s := if errs.isEmpty then s else s.modPort n (fun p => { p with passErrs := [] })
  errs.foldl (fun s e =>
    if trained (s.pst n) && s.rd (portB n) F.LANE_STATE e.1 = 3 && decide (s.rd (portB n) F.PORT_CFG_SPARE_THRESH < e.2) then
      if e.1 = 8 then s.goDown n 5 else s.laneFails n e.1
    else s) s

/-! ### Bring-up, drain, enable (R278, R281, R284, R288, R292) -/

/-- Signal on a set of lanes: an enabled port that waits for it starts PMD training once eight lanes have it. -/
def execLaneSignalDetect (n : Fin 12) (lanes : BitVec 9) (s : State) : Out :=
  .next (
    let b := portB n.val
    if s.pst n.val = pWAIT_SIGNAL && decide (8 ≤ popcount 9 lanes.toNat) then
      (List.range 9).foldl (fun s k => s.wr b F.LANE_STATE 1 k) (s.setPst n.val pTRAINING)
    else s)

/-- PMD training has ended on these lanes of each direction, at least eight: the port is aligned, passing through ALIGN, and exchanges HELLO and
TIME_SYNC (R277, R278, log 122). LANE_k shows the receive direction. -/
def execPmdTrainingDone (n : Fin 12) (lanes : LaneSets) (medium : Nat) (s : State) : Out :=
  .next (
    let b := portB n.val
    let ok := lanes.rx.toNat
    if s.pst n.val ≠ pTRAINING ∨ popcount 9 ok < 8 ∨ popcount 9 lanes.tx.toNat < 8 then s
    else
      let bad := (List.range 8).find? (fun k => !tb ok k)
      let txBad := (List.range 8).find? (fun k => !lanes.tx.getLsbD k)
      let s := s.modPort n.val (fun p => { p with txSpare := txBad })
      let s := s.wr b F.PORT_STAT_SPARED_LANE (txBad.getD 0xF)
      let s := (List.range 8).foldl (fun s k =>
        if tb ok k then (s.wr b F.LANE_STATE 3 k).wr b F.LANE_ROLE k k else (s.wr b F.LANE_STATE 4 k).wr b F.LANE_ROLE 0xF k) s
      let s := match bad with
        | some k => ((s.wr b F.LANE_STATE 3 8).wr b F.LANE_ROLE k 8).wr b F.PORT_STAT_SPARED_LANE k
        | none => s.wr b F.LANE_STATE (if !tb ok 8 then 4 else if s.rdB b F.PORT_CFG_SPARE_EN then 2 else 0) 8
      let s := s.wr b F.PORT_STAT_SPARE_FAILED (b2n (popcount 9 ok = 8 || popcount 9 lanes.tx.toNat = 8))
      let s := (s.wr b F.PORT_HOP_MEDIUM_CLK (sat 12 medium)).setPst n.val pHELLO
      (s.sendSym n.val (s.helloSym n.val)).sendSym n.val s.syncSym)

/-- PMD_TRAINING_TIMEOUT: training has exceeded its limit (R281). -/
def execPmdTrainingTimeout (n : Fin 12) (s : State) : Out :=
  .next (
    if s.pst n.val = pTRAINING then (s.setPst n.val pDOWN).modPort n.val (fun p => { p with trainFailed := true }) else s)

/-- AUTO_RETRAIN_TIMER: one second after a training failure, training starts again (R281). -/
def execAutoRetrainTimer (n : Fin 12) (s : State) : Out :=
  .next (
    if s.pst n.val = pDOWN && (s.port n.val).trainFailed && s.rdB (portB n.val) F.PORT_CFG_AUTO_RETRAIN && s.portMayStart n.val then
      (List.range 9).foldl (fun s k => s.wr (portB n.val) F.LANE_STATE 1 k) ((s.waitSignal n.val).setPst n.val pTRAINING)
    else s)

/-- A shut-down starts (R284): LINK_DOWN with reason 0 where the port is trained, and everything retained handed back. While it runs STATE reads DOWN
(log 46). The test block keeps STATE as it is (R491). -/
def State.shutDown (s : State) (n : Nat) : State :=
  if s.pst n = pDISABLED || (s.port n).shutting || s.rdB (portB n) F.PT_TEST_TEST_EN then s
  else
    let s := if trained (s.pst n) then s.sendSym n (mkSym 8 [(8, 4, 0)]) else s
    (s.unlink n pDOWN).modPort n (fun p => { p with shutting := true, trainFailed := false })

/-- PORT_CTL.ENABLE written 1. -/
def execPortEnable (n : Fin 12) (s : State) : Out :=
  .next (
    let s := s.wr (portB n.val) F.PORT_CTL_ENABLE 1
    if (s.port n.val).shutting then s.setPst n.val pENABLE_PENDING
    else if s.pst n.val = pDISABLED && s.rd (portB n.val) F.PORT_CFG_MODE ≠ 0 then s.waitSignal n.val
    else s)

/-- PORT_CFG has been written: a port with MODE 0 is DISABLED, an enabled one that leaves MODE 0 looks for its neighbour (Table 10-7). -/
def State.onPortMode (s : State) (n : Nat) : State :=
  let b := portB n
  let off := decide (s.rd b F.PORT_CFG_MODE = 0)
  if off && s.pst n ≠ pDISABLED then
    (List.range 9).foldl (fun s k => (s.wr b F.LANE_STATE 0 k).wr b F.LANE_ROLE 0xF k) ((s.unlink n pDISABLED).modPort n (fun p => { p with shutting := false }))
  else if !off && s.pst n = pDISABLED && s.rdB b F.PORT_CTL_ENABLE then s.waitSignal n
  else s

/-- PORT_CTL.ENABLE written 0: a shut-down, or the end of a pending enable. -/
def State.onPortDisable (s : State) (n : Fin 12) : State :=
    let s := s.wr (portB n.val) F.PORT_CTL_ENABLE 0
    if (s.port n.val).shutting then s.setPst n.val pDOWN else s.shutDown n.val

/-- The shut-down is complete: DISABLED, or training where an enable is pending. -/
def execPortShutdownComplete (n : Fin 12) (s : State) : Out :=
  .next (
    if (s.port n.val).shutting then
      let pend := decide (s.pst n.val = pENABLE_PENDING)
      let s := s.modPort n.val (fun p => { p with shutting := false })
      let s := (List.range 9).foldl (fun s k => (s.wr (portB n.val) F.LANE_STATE 0 k).wr (portB n.val) F.LANE_ROLE 0xF k) s
      if pend then s.waitSignal n.val else s.setPst n.val pDISABLED
    else s)

/-- PORT_CTL.DRAIN written 1 (R288): no new frame is taken; what the router holds for the port is handled as for a port that is down. A packet already
begun stays in the replay buffer, and is handed back whole when the drain ends. -/
def State.onPortDrain (s : State) (n : Fin 12) : State :=
    let s := s.wr (portB n.val) F.PORT_CTL_DRAIN 1
    if s.pst n.val = pUP ∨ s.pst n.val = pFOREIGN then
      let wasUp := decide (s.pst n.val = pUP)
      let p := s.port n.val
      let txq := s.fab.txq ++ (p.outQ.filter (fun o => o.sent = 0)).map OutPkt.back
      let s := (s.modPort n.val (fun p => { p with outQ := [], outMk := [] })).setDepths n.val
      ({ s.setPst n.val pDRAINING with fab.txq := txq, fab.txMk := s.fab.txMk ++ s.behind txq p.outMk }).noteLost n.val wasUp
    else s

/-- The drain is complete once every item is acknowledged: LINK_DOWN with reason 1, and DRAINED. -/
def State.onPortDrainComplete (s : State) (n : Fin 12) : State :=
    let p := s.port n.val
    if s.pst n.val = pDRAINING && p.resend.isEmpty && decide (p.ackNext = p.txSeq) then
      (s.sendSym n.val (mkSym 8 [(8, 4, 1)])).unlink n.val pDRAINED
    else s

/-- PORT_CTL.DRAIN written 0: a draining or drained port returns to WAIT_SIGNAL. -/
def State.onPortDrainClear (s : State) (n : Fin 12) : State :=
    let s := s.wr (portB n.val) F.PORT_CTL_DRAIN 0
    if s.pst n.val = pDRAINED then s.waitSignal n.val
    else if s.pst n.val = pDRAINING then (s.unlink n.val pDOWN).waitSignal n.val
    else s

/-- PORT_CTL.RETRAIN: DOWN with reason 0, and all nine lanes are trained (R292). -/
def State.onRetrain (s : State) (n : Fin 12) : State :=
    let st := s.pst n.val
    if st = pDISABLED || st = pDRAINED || (s.port n.val).shutting then s
    else
      let s := if trained st then s.sendSym n.val (mkSym 8 [(8, 4, 0)]) else s
      ((s.unlink n.val pDOWN).wr (portB n.val) F.PORT_STAT_LAST_DOWN 0).waitSignal n.val

/-- PORT_CTL.CLEAR: PORT_FEC, PORT_LINK, REPLAYED and the LANE_k counts (R292). -/
def execPortCountClear (n : Fin 12) (s : State) : Out :=
  let b := portB n.val
  let s := (s.wr b F.PORT_FEC_CORRECTED 0).wr b F.PORT_FEC_UNCORRECTABLE 0
  let s := ((s.wr b F.PORT_LINK_CRC_ERRS 0).wr b F.PORT_LINK_NAKS_SENT 0).wr b F.PORT_LINK_DOWN_EVENTS 0
  let s := (s.wr b F.PORT_LINK_BAD_SYMBOLS 0).wr b F.PORT_REPLAY_REPLAYED 0
  .next ((List.range 9).foldl (fun s k => (s.wr b F.LANE_SYM_ERRS 0 k).wr b F.LANE_LOCK_LOSSES 0 k) s)

end Sys2Proof.Machine
end

