-- ==== Sys2Proof/Machine/Routing.lean ====
section
/-! DEFINITION. Routing (chapter 11): slices, injection, the way of a packet, order and duplicates, the transmit order. -/

namespace Sys2Proof.Machine

/-! ### Slices and directions (R297, R314) -/

/-- The entry of a slice, if the module holds one. -/
def State.sliceEntry (s : State) (id : Nat) : Option Nat :=
  (List.range 64).find? (fun i => s.rdB routeB F.SLICE_GEOM1_VALID i && s.rd routeB F.SLICE_GEOM1_SLICE_ID i = id)

/-- LO, LEN and SHAPE (0 single, 1 line, 2 ring) of a slice entry on an axis. -/
def State.sliceGeom (s : State) (i a : Nat) : Nat × Nat × Nat :=
  let r := fun f g h => (s.rd routeB f i, s.rd routeB g i + 1, s.rd routeB h i)
  match a with
  | 0 => r F.SLICE_GEOM0_LO0 F.SLICE_GEOM0_LEN_10 F.SLICE_GEOM0_SHAPE0
  | 1 => r F.SLICE_GEOM0_LO1 F.SLICE_GEOM0_LEN_11 F.SLICE_GEOM0_SHAPE1
  | 2 => r F.SLICE_GEOM0_LO2 F.SLICE_GEOM0_LEN_12 F.SLICE_GEOM0_SHAPE2
  | 3 => r F.SLICE_GEOM0_LO3 F.SLICE_GEOM0_LEN_13 F.SLICE_GEOM0_SHAPE3
  | 4 => r F.SLICE_GEOM1_LO4 F.SLICE_GEOM1_LEN_14 F.SLICE_GEOM1_SHAPE4
  | _ => r F.SLICE_GEOM1_LO5 F.SLICE_GEOM1_LEN_15 F.SLICE_GEOM1_SHAPE5

/-- Geometry of a slice on an axis; the fabric slice takes the axis itself (R297). -/
def State.geomOf (s : State) (slice a : Nat) : Nat × Nat × Nat :=
  if slice = 0 then (0, s.rd routeB F.AXIS_LENGTH a, if s.rdB routeB F.AXIS_WRAP a then 2 else 1)
  else match s.sliceEntry slice with | some i => s.sliceGeom i a | none => (0, 0, 0)

/-- Axes in use. -/
def State.axes (s : State) : List Nat := (List.range 6).filter (fun a => s.rd routeB F.AXIS_WIDTH a ≠ 0)

/-- The sign on an axis from this module to a destination (R297): 0 plus, 1 minus. -/
def State.signTo (s : State) (slice dst a : Nat) : Nat :=
  let g := s.geomOf slice a
  let len := max 1 (s.rd routeB F.AXIS_LENGTH a)
  let rel := fun dev => (s.posOf dev a + len - g.1 % len) % len
  if g.2.2 = 2 then
    let n := max 1 g.2.1
    let d := (rel dst + n - rel s.device % n) % n
    if d ≤ n / 2 then 0 else 1
  else if rel s.device < rel dst then 0 else 1

/-- DIRS for a destination. -/
def State.dirsTo (s : State) (slice dst : Nat) : Nat :=
  s.axes.foldl (fun m a => if s.posOf dst a = s.posOf s.device a then m else setBit m a (s.signTo slice dst a = 1)) 0

/-- A destination that no route reaches: bits outside FIELD_MASK differ, or a position is LENGTH or more (R295). -/
def State.unroutable (s : State) (dst : Nat) : Bool :=
  let m := s.fieldMask
  (dst ||| m) ≠ (s.device ||| m) || s.axes.any (fun a => decide (s.rd routeB F.AXIS_LENGTH a ≤ s.posOf dst a))

/-- A destination outside a slice (R315). -/
def State.outsideSlice (s : State) (slice dst : Nat) : Bool :=
  s.axes.any (fun a =>
    let g := s.geomOf slice a
    let len := max 1 (s.rd routeB F.AXIS_LENGTH a)
    decide (g.2.1 ≤ (s.posOf dst a + len - g.1 % len) % len))

/-- The slice that a partition injects into (R314). -/
def State.sliceOfPart (s : State) (part : Nat) : Option Nat :=
  ((List.range 64).find? (fun i => s.rdB routeB F.SLICE_GEOM1_VALID i && tb (s.rd routeB F.SLICE_PARTS_PARTS i) part)).map
    (fun i => s.rd routeB F.SLICE_GEOM1_SLICE_ID i)

/-! ### The way of a packet (R296, R298, R317 to R321) -/

/-- What the router decides. -/
inductive Way where
  | eject
  | noRoute
  | out (port vc : Nat) (turn : Bool)
deriving DecidableEq, Repr

/-- The members of a direction that take a packet: UP ones, and FOREIGN ones for elastic traffic (Table 10-7, R37). -/
def State.takers (s : State) (a sg : Nat) (sched : Bool) : List Nat :=
  (s.team a sg).filter (fun n => s.pst n = pUP || (!sched && s.pst n = pFOREIGN))

/-- The raw entry of a slot: SLICE, SOURCE, STREAM; none when it is unreserved or the port is a gate port (R304, R290). -/
def State.slotRaw (s : State) (n k : Nat) : Option (Nat × Nat × Nat) :=
  let b := portB n
  let j := k / 2
  let src := if k % 2 = 0 then s.rd b F.SLOT_SOURCE_A j else s.rd b F.SLOT_SOURCE_B j
  if src = 0xF || s.rd b F.PORT_CFG_MODE ≠ 1 || decide (s.passLen / 25 ≤ k) then none
  else if k % 2 = 0 then some (s.rd b F.SLOT_SLICE_A j, src, s.rd b F.SLOT_STREAM_A j)
  else some (s.rd b F.SLOT_SLICE_B j, src, s.rd b F.SLOT_STREAM_B j)

/-- The entry in force: the reservations of members lost at the last boundary move, each, to the lowest-numbered member UP there whose entry for the slot
is unreserved, and come back at a boundary (R318). -/
def State.slotEntry (s : State) (n k : Nat) : Option (Nat × Nat × Nat) :=
  let away := fun m => s.fab.lost.contains m
  match (if away n then none else s.slotRaw n k) with
  | some e => some e
  | none =>
    let team := s.teamOf n
    let free := team.filter (fun m => !away m && (s.slotRaw m k).isNone)
    (free.findIdx? (· = n)).bind (fun i => ((team.filter away).filterMap (fun m => s.slotRaw m k))[i]?)

/-- Does a slot's entry name a packet's slice and source (R304, R305)? -/
def slotMatches (e : Nat × Nat × Nat) (src : Option (Fin 12)) (p : Packet) : Bool :=
  e.1 = p.slice && (match src with | some q => e.2.1 = q.val | none => e.2.1 = 0xC && e.2.2 = p.stream)

/-- The slot now. -/
def State.slotNow (s : State) : Nat := s.phase / 25
/-- Has the port a reservation for the packet? -/
def State.reserved (s : State) (n : Nat) (src : Option (Fin 12)) (p : Packet) : Bool :=
  (List.range (s.passLen / 25)).any (fun j => (s.slotEntry n j).any (fun e => slotMatches e src p))

/-- How a scheduled frame that reaches an output in slot `t`, counted from field count 0, stands to its reserved run: late or not, and the slot with which
the run has passed; none without a reservation (R307). Runs follow one another Pass by Pass. Local data are of the Pass of their furrow; a frame in
transit between two runs belongs to the nearer one (log 123). -/
def State.runAt (s : State) (n t : Nat) (src : Option (Fin 12)) (p : Packet) : Option (Bool × Nat) :=
  let len := s.passLen / 25
  let on := fun k => (s.slotEntry n (k % len)).any (fun e => slotMatches e src p)
  ((List.range len).find? (fun d => on (t + d))).map (fun ahead =>
    let past := ((List.range len).find? (fun d => on (t + len - 1 - d))).getD len
    let late := decide (ahead ≠ 0) && (if src.isNone then decide (len ≤ t % len + ahead) else decide (past < ahead))
    (late, t + ahead + ((List.range len).find? (fun d => !on (t + ahead + d))).getD len))

/-- The member a packet takes (R286): a scheduled one the member that holds its reservation, any other the one with the fewest frames waiting; ties to
the lowest number. -/
def State.member (s : State) (ms : List Nat) (src : Option (Fin 12)) (p : Packet) : Option Nat :=
  let own := if p.scheduled then ms.find? (fun n => s.reserved n src p) else none
  own.or (ms.foldl (fun best n => match best with | none => some n | some b => if s.waitingFrames n < s.waitingFrames b then some n else some b) none)

/-- A packet of a slice may turn on an axis: a ring axis, and a ring in the slice (R321). -/
def State.ringFor (s : State) (slice a : Nat) : Bool := s.rdB routeB F.AXIS_WRAP a && (slice = 0 || (s.geomOf slice a).2.2 = 2)

/-- The way of a packet that arrived on `src` on a VC (R296, R298, R319 to R321). A packet handed back by a lost port has its VC of the axis that it is
to travel. -/
def State.way (s : State) (r : Routable) : Way :=
  let p := r.pkt
  if p.dst = s.device then .eject
  else if s.unroutable p.dst then .noRoute
  else
    match s.axes.find? (fun a => s.posOf p.dst a ≠ s.posOf s.device a) with
    | none => .noRoute
    | some a =>
      let sg := bits p.dirs a 1
      let sameAxis := r.src.any (fun n => s.rd (portB n.val) F.PORT_CFG_MODE = 1 && s.rd (portB n.val) F.PORT_CFG_AXIS = a)
      let onAxis := sameAxis || r.moved
      let turned := onAxis && decide (6 ≤ r.vc)
      let crossed := onAxis && r.vc % 2 = 1
      let pos := s.posOf s.device a
      let wraps := fun g : Nat => s.rdB routeB F.AXIS_WRAP a && decide (if g = 0 then pos + 1 = s.rd routeB F.AXIS_LENGTH a else pos = 0)
      let base := if turned then 6 else p.vcBase
      match s.member (s.takers a sg p.scheduled) r.src p with
      | some n => .out n (base + b2n (crossed || wraps sg)) false
      | none =>
        if turned || !s.ringFor p.slice a then .noRoute
        else
          match s.member (s.takers a (1 - sg) p.scheduled) r.src p with
          | some n => .out n (6 + b2n (wraps (1 - sg))) true
          | none => .noRoute

/-! ### Injection (R310 to R312) -/

/-- The next request tag. -/
def State.newTag (s : State) : Nat × State := (s.fab.nextTag, { s with fab.nextTag := (s.fab.nextTag + 1) % 2 ^ 24 })

/-- Hand a packet to the router; those of re-executed and slipped furrows ride as moved frames (R55). -/
def State.inject (s : State) (p : Packet) (moved : Bool := false) (src : Option (Fin 12) := none) : State :=
  { s with fab.txq := s.fab.txq ++ [{ pkt := p, moved := moved, src := src }] }

/-- Before the packet just injected goes its first result, which the adder ends with ABORT: the same packet with the same SSN (R350). -/
def State.spoilLast (s : State) : State :=
  match s.fab.txq.getLast? with
  | some r => { s with fab.txq := s.fab.txq.dropLast ++ [{ r with spoilt := true }, r] }
  | none => s

/-- No route from here to a destination: unroutable, or the first direction is lost and no turn is allowed (R295, R319 to R321). -/
def State.noWay (s : State) (slice dst : Nat) (sched : Bool) : Bool :=
  decide (dst ≠ s.device) && (s.unroutable dst ||
    match s.axes.find? (fun a => s.posOf dst a ≠ s.posOf s.device a) with
    | none => true
    | some a =>
      let sg := s.signTo slice dst a
      (s.takers a sg sched).isEmpty && (!s.ringFor slice a || (s.takers a (1 - sg) sched).isEmpty))

/-- The peer entry of a device: its index, allocated at first use; none when the table of 4,096 is full (R311). -/
def State.peerOf (s : State) (dev : Nat) : Bool × State :=
  if s.fab.peers.any (fun p => p.dev = dev) then (true, s)
  else if 4096 ≤ s.fab.peers.length then (false, s.satAdd routeB F.PEER_STAT_PEER_FULL 1)
  else (true, { s with fab.peers := s.fab.peers ++ [{ dev := dev }] })

/-- Send an elastic packet from this module: DIRS, and the SSN of the peer unless it is unsequenced. False where it is refused (R295, R311). -/
def State.sendElastic (s : State) (h : Hdr) (data : List Byte) : Bool × State :=
  if s.noWay h.slice h.dst false then (false, s)
  else
    let h := { h with src := s.device, dirs := s.dirsTo h.slice h.dst, length := if h.kind = 2 then h.length else data.length }
    if h.stream = 0xFFE then (true, s.inject (h.packet data))
    else
      let t := s.peerOf h.dst
      if !t.1 then (false, t.2)
      else
        let n := ((t.2.fab.peers.find? (fun p => p.dev = h.dst)).map (·.tx)).getD 0
        let s := { t.2 with fab.peers := modFirst (fun p => p.dev = h.dst) (fun p => { p with tx := (p.tx + 1) % 2 ^ 20 }) t.2.fab.peers }
        (true, s.inject (({ h with stream := 0xFFF, ssn := n } : Hdr).packet data))

/-- Send a packet on a scheduled stream of this module to a device, with the stream's next SSN (R310). DIRS is the caller's; `src` is the input port of a
reduction hop (R335). -/
def State.sendStream (s : State) (h : Hdr) (data : List Byte) (moved : Bool := false) (src : Option (Fin 12) := none) : State :=
  let mine := fun t : StreamTx => t.stream = h.stream && t.dst = h.dst
  let n := ((s.fab.streamsTx.find? mine).map (·.ssn)).getD 0
  let tx := if s.fab.streamsTx.any mine then modFirst mine (fun t => { t with ssn := (t.ssn + 1) % 2 ^ 20 }) s.fab.streamsTx
    else s.fab.streamsTx ++ [{ stream := h.stream, dst := h.dst, slice := h.slice, ssn := 1 }]
  ({ s with fab.streamsTx := tx }).inject (({ h with src := s.device, ssn := n, length := data.length } : Hdr).packet data) moved src

/-- A host header (Table 14-1). -/
def hostHdr (host htype qp : Nat) (down : Bool) (hlen haddr w2 : Nat) : List Byte :=
  wordBytes (pack [(0, 4, host), (4, 4, htype), (8, 13, qp), (21, 1, b2n down), (32, 12, hlen)]) ++ bytesOf 8 haddr ++ bytesOf 8 w2 ++
  List.replicate 8 0

/-- The HTYPE that answers one (Table 14-2). -/
def hostAnswer (ht : Nat) : Option Nat :=
  if ht = 1 then some 5 else if ht = 2 then some 4 else if ht = 6 then some 9 else if ht = 7 then some 0xA else none

/-- Answer a request with a response code and data (R256, R299, R310): KIND 0x7 to scheduled kinds, 0x3 to elastic ones, KIND 0x9 to host requests.
A response to an unsequenced packet is unsequenced too (R312). `down` is PATH_DOWN of a host response. -/
def State.respond (s : State) (q : Packet) (resp : Nat) (data : List Byte) (down : Bool := false) : State :=
  let h : Hdr := { dst := q.src, slice := q.slice, epoch := q.epoch, resp := resp, tag := q.tag }
  if q.kind = 0 ∨ q.kind = 4 ∨ q.kind = 5 then
    if s.noWay q.slice q.src false then s
    else
      let h := { h with kind := 7, src := s.device, dirs := s.dirsTo q.slice q.src, stream := q.stream, ssn := q.ssn }
      s.inject (h.packet [])
  else if q.kind = 1 ∨ q.kind = 2 ∨ q.kind = 6 then
    (s.sendElastic { h with kind := 3, stream := if q.stream = 0xFFE then 0xFFE else 0xFFF } data).2
  else if q.kind = 9 then
    match hostAnswer q.htype with
    | some t => (s.sendElastic { h with kind := 9 } (hostHdr (bits (num q.data 0 8) 0 4) t 0 down 0 0 0 ++ data)).2
    | none => s
  else s

/-! ### Output queues (R302 to R307) -/

/-- A packet enters an output queue (R302, R305, R307). A scheduled one that comes after its run is late and rides as moved; one without a reservation
rides as moved too. -/
def State.enqueueOut (s : State) (n vc : Nat) (turn : Bool) (r : Routable) : State :=
  let p := if turn then { r.pkt with w0 := r.pkt.w0 ||| pack [(50, 1, 1)] } else r.pkt
  let k := p.frames
  let run := if p.scheduled && decide (vc < 2) && !r.moved then s.runAt n (s.fieldCount / 25) r.src p else none
  let late := run.any (·.1)
  let s := if late then s.wrapAdd routeB F.ROUTE_TURN_LATE_FRAMES k else s
  let moved := r.moved || late || (p.scheduled && run.isNone) || decide (6 ≤ vc) || decide (p.kind = 7)
  let o : OutPkt := { pkt := p, vc := vc, src := r.src, moved := moved, arrived := s.fieldCount, due := if moved then none else run.map (·.2), spoilt := r.spoilt }
  let s := s.modPort n (fun q => { q with outQ := q.outQ ++ [o] })
  let d := s.rd (portB n) F.PT_Q_DEPTH vc + k
  let s := ((s.wr (portB n) F.PT_Q_DEPTH d vc).peak (portB n) F.PT_Q_PEAK d vc).throttle n
  if p.scheduled then
    let via := (r.src.map (·.val)).getD 12
    { s with fab.transit := (p.src, p.stream, via, n) :: s.fab.transit.filter (fun t => t.1 ≠ p.src || t.2.1 ≠ p.stream || !s.alike via t.2.2.1) }
  else s

/-! ### Ejection, order and duplicates (R310, R312) -/

/-- The link die of a port (Table 1-7: three ports to a die). -/
def dieOf (port : Option (Fin 12)) : Nat := (port.map (fun n => n.val / 3)).getD 4
/-- Frames that the reorder buffer of a die holds. -/
def State.reorderFrames (s : State) (die : Nat) : Nat :=
  s.fab.reorder.foldl (fun m e => if dieOf e.port = die then m + e.pkt.frames else m) 0

/-- The next SSN expected of a packet's sequence. -/
def State.expected (s : State) (p : Packet) : Nat :=
  if p.streamed then ((s.fab.streamsRx.find? (fun r => r.dev = p.src && r.stream = p.stream)).map (·.rx)).getD 0
  else ((s.fab.peers.find? (fun r => r.dev = p.src)).map (·.rx)).getD 0

/-- Expect the SSN after a packet's. -/
def State.advanceSsn (s : State) (p : Packet) : State :=
  let n := (p.ssn + 1) % 2 ^ 20
  if p.streamed then
    { s with fab.streamsRx := modFirst (fun r => r.dev = p.src && r.stream = p.stream) (fun r => { r with rx := n }) s.fab.streamsRx }
  else { s with fab.peers := modFirst (fun r => r.dev = p.src) (fun r => { r with rx := n }) s.fab.peers }

/-- Is the module the gate of its group (R373), and a host-bound HTYPE (Table 14-2)? -/
def State.isGate (s : State) : Bool := s.device = s.rd hostB F.GATE_CFG_GATE_DEVICE && s.gatePort.isSome
def hostBound (ht : Nat) : Bool := 4 ≤ ht && ht ≤ 8

/-- A host-bound packet at the gate leaves by the gate port (R374). While the port is not UP, HRDATA, HWACK and NOTIFY are dropped, and a request is
answered with PATH_DOWN set (R375, R388). -/
def State.toHost (s : State) (e : Ejected) : State :=
  match s.gatePort with
  | none => s
  | some g =>
    let ht := e.pkt.htype
    if s.pst g = pUP then s.enqueueOut g e.pkt.vcBase false { pkt := e.pkt, src := e.port }
    else if ht = 6 ∨ ht = 7 then s.respond e.pkt rUNMAPPED [] true
    else s.satAdd hostB F.GATE_STAT_DROPPED_TO_HOST 1

/-- A host-bound packet at the gate whose output queue has no free entries waits (R302), and so does a reduction packet that its Harrow stage has no room
for (R333). -/
def State.mayDeliver (s : State) (e : Ejected) : Bool :=
  let p := e.pkt
  s.harrowRoom e &&
  (!(p.kind = 9 && s.isGate && hostBound p.htype) ||
    s.gatePort.all (fun g => s.pst g ≠ pUP || decide (s.rd (portB g) F.PT_Q_DEPTH p.vcBase + p.frames ≤ 128)))

/-- A packet is delivered in its order: to the gate port, or to this module's own end points. -/
def State.deliver (s : State) (e : Ejected) : State :=
  if e.pkt.kind = 9 && s.isGate && hostBound e.pkt.htype then s.toHost e
  else { s with fab.ejected := s.fab.ejected ++ [e] }

/-- Deliver what the reorder buffers hold in order, at most `n` packets. -/
def State.drainReorder (s : State) : Nat → State
  | 0 => s
  | n + 1 =>
    match takeFirst (fun e : Ejected => e.pkt.ssn = s.expected e.pkt && s.mayDeliver e) s.fab.reorder with
    | none => s
    | some (e, rest) => State.drainReorder ((({ s with fab.reorder := rest }).advanceSsn e.pkt).deliver e) n

/-- Allocate the receive entry of a packet's sequence; false when the tables are full (R311). -/
def State.seqEntry (s : State) (p : Packet) : Bool × State :=
  if p.streamed then
    if s.fab.streamsRx.any (fun r => r.dev = p.src && r.stream = p.stream) then (true, s)
    else if 2048 ≤ s.fab.streamsRx.length then (false, s)
    else (true, { s with fab.streamsRx := s.fab.streamsRx ++ [{ dev := p.src, stream := p.stream }] })
  else s.peerOf p.src

/-- A packet for this module (R310): in order it is delivered, with what waited for it; behind, it is a duplicate; ahead, it is held. `none`: the reorder
buffer or the gate port's queue is full and the packet stays where it is. -/
def State.eject (s : State) (e : Ejected) : Option State :=
  let p := e.pkt
  if !(p.streamed || p.sequenced) then (if s.mayDeliver e then some (s.deliver e) else none)
  else
    let t := s.seqEntry p
    if !t.1 then some (if p.kind = 3 ∨ p.kind = 7 then t.2.deliver e else t.2.respond p rUNMAPPED [])
    else
      let s := t.2
      let b := ((s.fab.streamsRx.find? (fun r => r.dev = p.src && r.stream = p.stream)).map (·.batch)).getD 0
      let e := { e with batch := if p.streamed then b else 0 }
      let d := (p.ssn + 2 ^ 20 - s.expected p) % 2 ^ 20
      if d = 0 then (if s.mayDeliver e then some (((s.advanceSsn p).deliver e).drainReorder s.fab.reorder.length) else none)
      else if 2 ^ 19 ≤ d || s.fab.reorder.any (fun o => o.pkt.src = p.src && o.pkt.stream = p.stream && o.pkt.ssn = p.ssn) then
        some (s.satAdd routeB F.ROUTE_ORDER_DUPLICATES 1)
      else if 1024 < s.reorderFrames (dieOf e.port) + p.frames then none
      else
        let s := { s with fab.reorder := s.fab.reorder ++ [e] }
        some (s.peak routeB F.ROUTE_ORDER_REORDER_PEAK (s.reorderFrames (dieOf e.port)))

/-- Route one packet: the new state, or none while it must wait for room or under throttling (R300, R295, R302, R313). -/
def State.routeOne (s : State) (r : Routable) : Option State :=
  let p := r.pkt
  let discard := fun (s : State) (cause : Nat) => s.err 0x13 0 {} {} p.w0.toNat cause
  if !p.headerOk then some (discard (s.satAdd routeB F.ROUTE_DROP_BAD_HEADER 1) 1)
  else
    match s.way r with
    | .eject => s.eject { pkt := p, port := r.src }
    | .noRoute => some ((discard (s.satAdd routeB F.ROUTE_DROP_NO_ROUTE 1) 0).respond p rUNMAPPED [])
    | .out n vc turn =>
      if 128 < s.rd (portB n) F.PT_Q_DEPTH vc + p.frames then none
      else if r.src.isNone && !p.scheduled && tb (s.rd routeB F.THROTTLE_STAT_ACTIVE) n then none
      else
        let s := if turn then s.wrapAdd routeB F.ROUTE_TURN_TURNED_PKTS 1 else s
        let a := s.axes.find? (fun a => s.posOf p.dst a ≠ s.posOf s.device a)
        let r := if turn then { r with pkt := { p with w0 := p.w0 ^^^ pack [(44 + a.getD 0, 1, 1)] } } else r
        some (s.enqueueOut n vc turn r)

/-- Route the first packet of a list that can go: the state, the packet and the rest of the list. -/
def State.routeFirst (s : State) : List Routable → Option (State × Routable × List Routable)
  | [] => none
  | r :: t =>
    match s.routeOne r with
    | some s' => some (s', r, t)
    | none => (s.routeFirst t).map (fun x => (x.1, x.2.1, r :: x.2.2))

/-- Route the oldest packet that can go of those received on a port; a packet waits behind those of its own VC alone (R298, R306). -/
def State.routeByVc (s : State) (held : List Nat) : List Routable → Option (State × Routable × List Routable)
  | [] => none
  | r :: t =>
    match (if held.contains r.vc then none else s.routeOne r) with
    | some s' => some (s', r, t)
    | none => (s.routeByVc (r.vc :: held) t).map (fun x => (x.1, x.2.1, r :: x.2.2))

/-- ROUTE_PACKET: the oldest packet received on a port that can go, which leaves its buffer and gives its credits back; or, with no port named, the first
waiting packet of this module that can go. Packets from the adapter enter by HOST_PACKET_INGRESS (R374). -/
def execRoutePacket (src : Option (Fin 12)) (s : State) : Out :=
  .next (
    match src with
    | some n =>
      if s.rd (portB n.val) F.PORT_CFG_MODE = 2 then s
      else
        match s.routeByVc [] (s.port n.val).rxPkts with
        | some (s', r, rest) => ((s'.modPort n.val (fun p => { p with rxPkts := rest })).returnCredit n.val r.vc r.pkt.frames).rxRouted n.val r
        | none => s
    | none =>
      let q := s.fab.txq
      if s.boot.fabricDom ≠ .run then s else
      match ({ s with fab.txq := [] }).routeFirst q with
      | some (s', r, rest) => State.txRouted { s' with fab.txq := rest ++ s'.fab.txq } r
      | none => s)

/-! ### The transmit order (R305, Table 11-5) -/

/-- Its frames ride as moved ones: so they entered, or their reservation has passed (R305, R307). -/
def State.rides (s : State) (o : OutPkt) : Bool := o.moved || o.due.any (· ≤ s.fieldCount / 25)

/-- The frame a port sends at this position: its index in the queue and its rank. The frames of a packet follow one another on its VC, since they name no
packet (R266, log 124). -/
def State.pick (s : State) (n : Nat) : Option (Nat × Nat) :=
  let p := s.port n
  let q := p.outQ.zipIdx
  let begun := fun v : Nat => (q.find? (fun e => e.1.vc = v && e.1.sent ≠ 0)).map (·.2)
  let ok := fun e : OutPkt × Nat =>
    s.rd (portB n) F.PORT_VC_HELD e.1.vc ≠ 0 && (begun e.1.vc).all (· = e.2)
  let entry := s.slotEntry n s.slotNow
  let r2 := entry.bind (fun t => q.find? (fun e : OutPkt × Nat => ok e && !s.rides e.1 && decide (e.1.vc < 2) && slotMatches t e.1.src e.1.pkt))
  let r34 := match entry with
    | some t => (q.find? (fun e : OutPkt × Nat => ok e && s.rides e.1 && e.1.pkt.slice = t.1)).map (fun e : OutPkt × Nat => (e.2, 3))
    | none => (q.find? (fun e : OutPkt × Nat => ok e && s.rides e.1)).map (fun e : OutPkt × Nat => (e.2, 4))
  let vcs := (List.range 4).map (fun i => 2 + (p.lastVc - 2 + 1 + i) % 4)
  let r5 := vcs.findSome? (fun v =>
    let c := q.filter (fun e => ok e && !s.rides e.1 && e.1.vc = v)
    ((c.find? (fun e => e.1.src.isSome)).or c.head?).map (fun e : OutPkt × Nat => (e.2, 5)))
  (r2.map (fun e : OutPkt × Nat => (e.2, 2))).or (r34.or r5)

/-- A frame of a packet: header, payload and CRC (R265). -/
def frameOf (seq vc : Nat) (p : Packet) (i : Nat) (spoilt : Bool := false) : Frame :=
  let bs := (p.bytes.drop (256 * i)).take 256
  let words := max 1 (cdiv bs.length 8)
  let hdr := packN [(0, 12, seq), (12, 3, vc), (15, 1, b2n (i = 0)), (16, 1, b2n (i + 1 = p.frames)), (17, 1, b2n p.scheduled), (18, 5, words - 1),
    (23, 1, b2n (spoilt && decide (i + 1 = p.frames)))]
  let pay := sub bs 0 256
  ⟨BitVec.ofNat 32 hdr, pay, BitVec.ofNat 32 (crc32c (bytesOf 4 hdr ++ pay))⟩

/-- An item takes the next SEQ and stays in the replay buffer until it is acknowledged (R269, R270). -/
def State.sendItem (s : State) (n : Nat) (mk : Nat → TxItem) : State :=
  let p := s.port n
  let s := s.setPort n { p with replay := p.replay ++ [mk p.txSeq], txSeq := (p.txSeq + 1) % 4096 }
  let k := (s.port n).replay.length
  (s.wr (portB n) F.PORT_REPLAY_OCCUPANCY k).peak (portB n) F.PORT_REPLAY_PEAK k

/-- The MARKER symbol with a SEQ (Table 10-5). -/
def markerSym (m : Marker) (seq : Nat) : BitVec 128 :=
  mkSym 5 [(8, 12, seq), (20, 12, m.stream), (32, 16, m.dev), (48, 16, m.pass), (64, 6, m.count), (72, 40, m.fail.toNat)]

/-- Markers go behind the last frame of their stream (R303). -/
def State.sendMarkers (s : State) (n : Nat) : State :=
  (s.port n).outMk.foldl (fun s m =>
    let p := s.port n
    if p.outQ.any (fun o => o.pkt.src = m.dev && o.pkt.stream = m.stream && o.pkt.scheduled) || decide (1024 ≤ p.replay.length) then s
    else
      let y := markerSym m p.txSeq
      let s := s.sendItem n (fun q => { seq := q, frame := none, sym := y, mark := some m })
      (s.sendSym n y).modPort n (fun p => { p with outMk := p.outMk.erase m })) s

/-- Send the next frame of a queued packet at a rank. -/
def State.sendFrame (s : State) (n i rank : Nat) : State :=
  let b := portB n
  match (s.port n).outQ[i]? with
  | none => s
  | some o =>
    let lastFrame := decide (o.pkt.frames ≤ o.sent + 1)
    let v := (frameOf 0 o.vc o.pkt o.sent).valid
    let s := s.sendItem n (fun q => { seq := q, frame := some (frameOf q o.vc o.pkt o.sent o.spoilt), pkt := some o.pkt, vc := o.vc, src := o.src })
    let s := s.modPort n (fun p => { p with
      outQ := if lastFrame then p.outQ.eraseIdx i else upd p.outQ i { o with sent := o.sent + 1 }
      lastVc := if rank = 5 then o.vc else p.lastVc })
    let s := (s.wr b F.PORT_VC_HELD (s.rd b F.PORT_VC_HELD o.vc - 1) o.vc).wr b F.PT_Q_DEPTH (s.rd b F.PT_Q_DEPTH o.vc - 1) o.vc
    let s := (s.wrapAdd b F.PT_TX_BYTES_BYTES v).wrapAdd b F.PT_VC_BYTES_BYTES v o.vc
    let s := if rank = 2 then s.wrapAdd b F.PT_TX_SCHED_BYTES v else s
    let s := if o.src.isSome then s.wrapAdd b F.PT_TX_TRANSIT_BYTES v else s
    let s := if lastFrame then s.wrapAdd b F.PT_PKTS_TX 1 else s
    let s := if rank = 3 ∨ rank = 4 then s.wrapAdd b F.PT_POSITIONS_MOVED 1 else s
    let s := s.throttle n
    if s.gatePort = some n then s.drainReorder s.fab.reorder.length else s

/-- FRAME_TRANSMIT: a frame position, of which a slot has thirteen (R267): a replay first, else markers that are due and the first frame in the order of
Table 11-5 (R270, R271, R305). -/
def State.onTransmit (s : State) (n : Fin 12) : State :=
    let b := portB n.val
    let p := s.port n.val
    let now := s.fieldCount / 25
    if !carries (s.pst n.val) || (decide (p.frSlot = now) && decide (13 ≤ p.frCount)) then s
    else
      let p := { p with frSlot := now, frCount := if p.frSlot = now then p.frCount + 1 else 1 }
      let s := s.setPort n.val p
      let reserved := (s.slotEntry n.val s.slotNow).isSome
      let idle := fun s : State => if reserved then s.wrapAdd b F.PT_POSITIONS_RES_IDLE 1 else s
      match p.resend with
      | i :: rest =>
        let count := fun j : TxItem => if j.seq = i.seq then { j with again := i.again + 1 } else j
        let s := (s.setPort n.val { p with resend := rest, replay := p.replay.map count }).wrapAdd b F.PORT_REPLAY_REPLAYED 1
        let s := idle (if i.frame.isNone then s.sendSym n.val i.sym else s)
        if s.rd b F.PORT_CFG_REPLAY_LIMIT ≤ i.again + 1 then s.goDown n.val 3 else s
      | [] =>
        let s := s.sendMarkers n.val
        if 1024 ≤ (s.port n.val).replay.length then idle s
        else
          match s.pick n.val with
          | none => idle s
          | some (i, rank) => if rank = 2 then s.sendFrame n.val i rank else (idle s).sendFrame n.val i rank

end Sys2Proof.Machine
end

