-- ==== Sys2Proof/Machine/Host.lean ====
section
/-! DEFINITION. Gate ports, hosts and queues (chapter 14): the host window, queue pairs, host extents, posted transfers, the host path. A copy moves one
piece of at most 4,032 bytes for each command of its row (log 50). -/

namespace Sys2Proof

/-- Everything a sender fills in, read back from a packet. -/
def Packet.hdr (p : Packet) : Hdr :=
  { dst := p.dst, src := p.src, kind := p.kind, slice := p.slice, dirs := p.dirs, epoch := p.epoch, resp := p.resp, addr := p.addr
    length := p.length, stream := p.stream, ssn := p.ssn, fidx := p.fidx, last := p.last, sigEn := p.sigEn, sigTok := p.sigTok
    sigCluster := p.sigCluster, sigCount := p.sigCount, closeEpoch := p.closeEpoch, owner := p.owner, tag := p.tag }

/-! ### The host header (Table 14-1) -/

def Packet.hostNo (p : Packet) : Nat := Machine.bits (Machine.num p.data 0 8) 0 4
def Packet.hostQp (p : Packet) : Nat := Machine.bits (Machine.num p.data 0 8) 8 13
def Packet.pathDown (p : Packet) : Bool := Machine.tb (Machine.num p.data 0 8) 21
def Packet.hlen (p : Packet) : Nat := Machine.bits (Machine.num p.data 0 8) 32 12
/-- The bytes after the host header. -/
def Packet.hostData (p : Packet) : List Byte := p.data.drop 32

/-- The host header is well formed: its reserved bits are zero, HTYPE is one a host sends, LENGTH counts header and data (R374, R375). -/
def Packet.hostOk (p : Packet) : Bool :=
  let w0 := Machine.num p.data 0 8
  decide (p.length = p.data.length) && decide (32 ≤ p.data.length) && decide (p.data.length ≤ 4064) &&
  decide (Machine.bits w0 22 10 = 0) && decide (Machine.bits w0 44 20 = 0) && decide (Machine.bits (Machine.num p.data 16 8) 34 30 = 0) &&
  decide (Machine.num p.data 24 8 = 0) &&
  (p.htype = 1 || p.htype = 3 || p.htype = 9 || p.htype = 0xA ||
    (p.htype = 2 && decide (8 ≤ p.hlen) && decide (p.hlen ≤ 4032) && decide (p.hlen % 8 = 0)))

end Sys2Proof

namespace Sys2Proof.Machine

/-- Packets ejected here that a command takes up: the first of those selected that can be served leaves, the others stay. -/
def State.tryEjected (s : State) (sel : Ejected → Bool) (f : State → Ejected → Option State) : List Ejected → List Ejected → State
  | _, [] => s
  | pre, e :: t =>
    if sel e then
      match f { s with fab.ejected := pre ++ t } e with
      | some s' => s'
      | none => s.tryEjected sel f (pre ++ [e]) t
    else s.tryEjected sel f (pre ++ [e]) t

/-- The same over all ejected packets. -/
def State.takeEjected (s : State) (sel : Ejected → Bool) (f : State → Ejected → Option State) : State := s.tryEjected sel f [] s.fab.ejected

/-- A host packet of an HTYPE. -/
def isHost (ht : Nat) (e : Ejected) : Bool := e.pkt.kind = 9 && e.pkt.htype = ht

/-! ### The host window (R378) -/

/-- The host and physical address of a range of the window, for a partition and a direction. -/
def State.translate (s : State) (part win n : Nat) (write : Bool) : Option (Nat × Nat) :=
  let off := win - 0x8000_0000_0000
  let base := fun i => s.rd hostB F.XLAT_WIN_BASE i * 0x20_0000
  let top := fun i => (s.rd hostB F.XLAT_WIN_BASE i + s.rd hostB F.XLAT_WIN_PAGES i) * 0x20_0000
  match (List.range 1024).find? (fun i => s.rdB hostB F.XLAT_RIGHTS_VALID i && decide (base i ≤ off) && decide (off < top i)) with
  | some i =>
    if regionOf win = .window ∧ s.rd hostB F.XLAT_RIGHTS_PART i = part ∧ off + n ≤ top i ∧
        (if write then s.rdB hostB F.XLAT_RIGHTS_WRITE i else s.rdB hostB F.XLAT_RIGHTS_READ i) then
      some (s.rd hostB F.XLAT_HOST_HOST i, s.rd hostB F.XLAT_HOST_HBASE i * 0x20_0000 + (off - base i))
    else none
  | none => none

/-! ### Requests to host memory (R382, R388) -/

/-- GATE_STAT.PATH. -/
def State.pathUp (s : State) : Bool := s.rdB hostB F.GATE_STAT_PATH
/-- The host path is lost. -/
def State.pathLost (s : State) : State :=
  if s.pathUp then (s.wr hostB F.GATE_STAT_PATH 0).satAdd hostB F.GATE_STAT_PATH_DOWNS 1 else s

/-- Send a request of the queue manager on its way to the gate; one that this module's own router refuses loses the path. -/
def State.putReq (s : State) (r : HostReq) : State :=
  let t := s.sendElastic { dst := s.rd hostB F.GATE_CFG_GATE_DEVICE, kind := 9, tag := r.tag }
    (hostHdr r.host (if r.write then 7 else 6) 0 false (if r.write then 0 else r.len) r.haddr 0 ++ r.data)
  if t.1 then (if r.write then t.2.wrapAdd telB F.WIN_WR_BYTES r.len else t.2) else t.2.pathLost

/-- A new MREAD or MWRITE: outstanding from now on, and sent unless the path is DOWN, when it is held. -/
def State.hostReq (s : State) (write : Bool) (dest : Nat × Nat) (win : Nat) (data : List Byte) (len : Nat) (use : HostUse) : State :=
  let t := s.newTag
  let r : HostReq :=
    { tag := t.1, write := write, host := dest.1, haddr := dest.2, win := win, data := data, len := len, use := use, pass := t.2.passIdx }
  let s := { t.2 with host.reqs := t.2.host.reqs ++ [r] }
  if s.pathUp then s.putReq r else s

/-- MREADs outstanding. -/
def State.mreads (s : State) : Nat := (s.host.reqs.filter (fun r => !r.write)).length

/-- A request is over. -/
def State.dropReq (s : State) (tag : Nat) : State := { s with host.reqs := s.host.reqs.filter (fun r => r.tag ≠ tag) }

/-! ### Host extents (R385) -/

/-- The parts of a range by memory controller: first byte and length. -/
def controllerParts (a n : Nat) : List (Nat × Nat) :=
  match regionOf a with
  | .granary _ =>
    (plotsTouched a n).map (fun p =>
      let lo := max a (p * 0x0800_0000)
      (lo, min (a + n) ((p + 1) * 0x0800_0000) - lo))
  | _ => [(a, n)]

/-- An extent of the same owner and controller that touches or adjoins a range. -/
def Extent.near (o : Owner) (a n : Nat) (e : Extent) : Bool :=
  e.owner = o && decide (e.lo ≤ a + n) && decide (a ≤ e.lo + e.len) && decide (regionOf e.lo = regionOf a)

/-- Has the controller of a range room for a host extent of this owner: sixteen at most? -/
def State.hostRoom (s : State) (o : Owner) (r : Nat × Nat) : Bool :=
  s.mx.hostExtents.any (Extent.near o r.1 r.2) ||
    decide ((s.mx.hostExtents.filter (fun e => regionOf e.lo = regionOf r.1)).length < 16)

/-- List a range in a host extent. -/
def State.openHost (s : State) (o : Owner) (r : Nat × Nat) : State :=
  let a := r.1
  let n := r.2
  let es :=
    if s.mx.hostExtents.any (Extent.near o a n) then
      modFirst (Extent.near o a n) (fun e => { e with lo := min e.lo a, len := max (e.lo + e.len) (a + n) - min e.lo a }) s.mx.hostExtents
    else s.mx.hostExtents ++ [{ owner := o, lo := a, len := n }]
  { s with mx.hostExtents := es }

/-- A host write of some bytes: none while it touches a furrow's open extent or a seventeenth host extent would be needed. -/
def State.writeHost (s : State) (id a : Nat) (bs : List Byte) : Option (Nat × State) :=
  let o := Owner.host id
  let rs := controllerParts a bs.length
  if s.mx.extents.any (fun e => overlap e.lo e.len a bs.length) || !rs.all (s.hostRoom o) then none
  else
    let r := s.memWrite false true 26 a bs
    some (r.1, rs.foldl (fun s x => s.openHost o x) r.2)

/-- The write that a number names is complete: its extents close at the next boundary. -/
def State.hostWritten (s : State) (id : Nat) : State :=
  { s with mx.hostExtents := s.mx.hostExtents.map (fun e => if e.owner = Owner.host id then { e with closing := true } else e) }

/-! ### Queue pairs (R379 to R384) -/

def State.qp (s : State) (q : Nat) : Qp := s.host.qps.get {} q
def State.modQp (s : State) (q : Nat) (g : Qp → Qp) : State := { s with host.qps := s.host.qps.put {} q (g (s.qp q)) }
def State.qpState (s : State) (q : Nat) : Nat := s.rd hostB F.QP_STAT_STATE q
def State.qpPart (s : State) (q : Nat) : Nat := s.rd hostB F.QP_OWNER_PART q
def State.sqSize (s : State) (q : Nat) : Nat := 2 ^ s.rd hostB F.QP_SQ_SIZE_LOG2 q
def State.cqSize (s : State) (q : Nat) : Nat := 2 ^ s.rd hostB F.QP_CQ_SIZE_LOG2 q
/-- Entries in flight over all pairs. -/
def State.entriesInFlight (s : State) : Nat := s.host.qps.foldl (fun n e => n + e.2.entries.length) 0
/-- Count a refusal with DENIED. -/
def State.hostDenied (s : State) : State := s.satAdd hostB F.QM_ERRS_DENIED 1

/-! #### Fields of an SQ entry (Table 14-4) -/

def Desc.sqOp (d : Desc) : Nat := fld d.w0 0 8
def Desc.sqFence (d : Desc) : Bool := Machine.tb d.w0.toNat 8
def Desc.sqLocal (d : Desc) : Nat := fld d.w1 0 48
def Desc.sqWin (d : Desc) : Nat := fld d.w2 0 48
def Desc.sqLen (d : Desc) : Nat := fld d.w3 0 32
def Desc.sqCluster (d : Desc) : Nat := fld d.w4 16 9
def Desc.sqCount (d : Desc) : Nat := fld d.w4 32 16
/-- An entry that copies. -/
def Desc.sqCopy (d : Desc) : Bool := d.sqOp = 1 || d.sqOp = 2

/-- The format rules of R380. -/
def Desc.sqOk (d : Desc) : Bool :=
  decide (1 ≤ d.sqOp) && decide (d.sqOp ≤ 4) && onlyFields d.w0 [(0, 9), (16, 16)] && onlyFields d.w1 [(0, 48)] && onlyFields d.w2 [(0, 48)] &&
  onlyFields d.w3 [(0, 32)] && onlyFields d.w4 [(0, 6), (16, 9), (32, 16)] && d.w5 = 0 && d.w6 = 0 && d.w7 = 0 &&
  (!d.sqCopy || (d.sqLen ≠ 0 && d.sqLen % 64 = 0 && d.sqLocal % 64 = 0 && d.sqWin % 64 = 0)) && (d.sqOp ≠ 3 || d.sqCount ≠ 0)

/-- The rights of R380 and R386. -/
def State.sqAllowed (s : State) (q : Nat) (d : Desc) : Bool :=
  let part := s.qpPart q
  if d.sqCopy then s.inPart part d.sqLocal d.sqLen && (s.translate part d.sqWin d.sqLen (d.sqOp = 2)).isSome
  else if d.sqOp = 3 then s.rdB hayB F.PART_VALID part && tb (s.rd hayB F.PART_PLOTS part) (d.sqCluster / 16) && (s.physOf d.sqCluster).isSome
  else true

/-- A completion (Table 14-6). -/
def cqEntry (e : QpEntry) (sqSize phase : Nat) : List Byte :=
  wordBytes (pack [(0, 16, fld e.desc.w0 16 16), (16, 16, (e.idx + 1) % sqSize), (32, 4, e.resp), (36, 3, e.qstatus), (40, 1, phase)]) ++
  wordBytes (BitVec.ofNat 64 e.tDone)

/-- Write the completions of the entries at the front that are done, as far as the CQ has room before its end (R382, R383). -/
def State.retireSome (s : State) (q : Nat) : State :=
  let x := s.qp q
  let size := s.cqSize q
  let done := x.entries.takeWhile (·.done)
  let tail := s.rd hostB F.QP_IDX_CQ_TAIL q
  let n := min done.length (min (size - x.cqUsed) (size - tail))
  if n = 0 then s
  else
    let phase := s.rd hostB F.QP_STAT_PHASE q
    let data := (done.take n).flatMap (fun e => cqEntry e (s.sqSize q) phase)
    let win := 64 * s.rd hostB F.QP_CQ_BASE q + 16 * tail
    let s := s.modQp q (fun x => { x with entries := x.entries.drop n, cqUsed := x.cqUsed + n })
    let s := s.wr hostB F.QP_IDX_CQ_TAIL ((tail + n) % size) q
    let s := if tail + n = size then s.wr hostB F.QP_STAT_PHASE (1 - phase) q else s
    match s.translate (s.qpPart q) win (16 * n) true with
    | some h => s.hostReq true h win data (16 * n) (.completion q)
    | none => s.hostDenied

/-- Completions in ring order; a second turn goes on past the ring's end. -/
def State.retireEntries (s : State) (q : Nat) : State := (s.retireSome q).retireSome q

/-- A request belongs to an entry's data. -/
def HostReq.ofEntry (q idx : Nat) (r : HostReq) : Bool :=
  match r.use with
  | .dataIn p i _ => p = q && i = idx
  | .dataOut p i => p = q && i = idx
  | _ => false

/-- An entry completes: its requests are forgotten, its host extents close at the next boundary, completions follow in ring order. -/
def State.endEntry (s : State) (q idx resp qstatus : Nat) : State :=
  let id := (((s.qp q).entries.find? (fun e => e.idx = idx)).map (·.id)).getD 0
  let s := { s with host.reqs := s.host.reqs.filter (fun r => !r.ofEntry q idx) }
  let s := (s.modQp q (fun x => { x with
    entries := modFirst (fun e => e.idx = idx && !e.done)
      (fun e => { e with fetched := true, done := true, resp := resp, qstatus := qstatus, tDone := s.stamp, heldOn := none }) x.entries })).hostWritten id
  let s := if resp = rDENIED then s.hostDenied else s
  s.retireEntries q

/-- Entries that may run, in ring order up to the first copy that has not started: a FENCE asks that every earlier entry has completed (R382). -/
def runnable : Bool → List QpEntry → List QpEntry
  | _, [] => []
  | allDone, e :: t =>
    if !e.fetched || (e.desc.sqFence && !e.done && !allDone) then []
    else if e.desc.sqCopy && !e.done && !e.started then [e]
    else e :: runnable (allDone && e.done) t

/-- May an unstarted entry of the pair start: the path is UP and the CQ not full (R382)? -/
def State.qpMayStart (s : State) (q : Nat) : Bool := s.pathUp && decide ((s.qp q).cqUsed < s.cqSize q)

/-- The oldest copy of an opcode with bytes left to request or send. -/
def State.nextCopy (s : State) (q op : Nat) : Option QpEntry :=
  (runnable true (s.qp q).entries).find? (fun e => !e.done && e.desc.sqOp = op && decide (e.next < e.desc.sqLen) && (e.started || s.qpMayStart q))

def State.modEntry (s : State) (q idx : Nat) (g : QpEntry → QpEntry) : State :=
  s.modQp q (fun x => { x with entries := modFirst (fun e => e.idx = idx && !e.done) g x.entries })

/-- An entry has no request outstanding and nothing left to move. -/
def State.entryOver (s : State) (q idx : Nat) : Bool :=
  (s.qp q).entries.any (fun e => e.idx = idx && !e.done && decide (e.desc.sqLen ≤ e.next)) && !s.host.reqs.any (HostReq.ofEntry q idx)

/-- SQ_ENTRY_FETCH: an MREAD of the next entries up to the ring's end, at most 8 in flight per pair and 256 per module (R382). -/
def execSqEntryFetch (q : Fin 8192) (s : State) : Out :=
  .next (
    let p := q.val
    let head := s.rd hostB F.QP_IDX_SQ_HEAD p
    let tail := s.rd hostB F.QP_IDX_SQ_TAIL p
    let size := s.sqSize p
    let have_ := (s.qp p).entries.length
    let n := min (min (8 - have_) (256 - s.entriesInFlight)) (if head ≤ tail then tail - head else size - head)
    if s.qpState p ≠ 1 || !s.pathUp || n = 0 || decide (64 ≤ s.mreads) then s
    else
      let win := 64 * s.rd hostB F.QP_SQ_BASE p + 64 * head
      let new := (List.range n).map (fun i => ({ idx := head + i, id := s.host.nextId + i } : QpEntry))
      let s := { s with host.nextId := s.host.nextId + n }
      let s := (s.modQp p (fun x => { x with entries := x.entries ++ new })).wr hostB F.QP_IDX_SQ_HEAD ((head + n) % size) p
      match s.translate (s.qpPart p) win (64 * n) false with
      | some h => s.hostReq false h win [] (64 * n) (.fetch p head)
      | none => new.foldl (fun s e => s.endEntry p e.idx rDENIED 0) s)

/-- Entries arrive: each is checked, and one that breaks a rule completes at once (R380). -/
def State.entriesArrive (s : State) (q idx : Nat) (bs : List Byte) : State :=
  (List.range (bs.length / 64)).foldl (fun s i =>
    let w := fun j => BitVec.ofNat 64 (num bs (64 * i + 8 * j) 8)
    let d : Desc := ⟨w 0, w 1, w 2, w 3, w 4, w 5, w 6, w 7⟩
    let s := s.modEntry q (idx + i) (fun e => { e with fetched := true, desc := d })
    if !d.sqOk then s.endEntry q (idx + i) rOK 1
    else if !s.sqAllowed q d then s.endEntry q (idx + i) rDENIED 0
    else s) s

/-- QCOPY_IN: an MREAD for the next piece of the oldest copy that has bytes left (R380, R382). -/
def execQcopyIn (q : Fin 8192) (s : State) : Out :=
  .next (
    match s.nextCopy q.val 1 with
    | none => s
    | some e =>
      let n := min 4032 (e.desc.sqLen - e.next)
      if !s.pathUp || decide (64 ≤ s.mreads) then s
      else
        match s.translate (s.qpPart q.val) (e.desc.sqWin + e.next) n false with
        | none => s.endEntry q.val e.idx rDENIED 0
        | some h =>
          (s.hostReq false h (e.desc.sqWin + e.next) [] n (.dataIn q.val e.idx (e.desc.sqLocal + e.next))).modEntry q.val e.idx
            (fun e => { e with started := true, next := e.next + n }))

/-- QCOPY_OUT: committed bytes of the next piece leave by an MWRITE; a read that touches an open extent is held (R57, R385). -/
def execQcopyOut (q : Fin 8192) (s : State) : Out :=
  .next (
    match s.nextCopy q.val 2 with
    | none => s
    | some e =>
      let n := min 4032 (e.desc.sqLen - e.next)
      let a := e.desc.sqLocal + e.next
      if !s.pathUp then s
      else if e.denied then s.endEntry q.val e.idx rNOT_COMMITTED 0
      else if s.blocked none a n then
        (if e.heldOn.isSome then s else s.countHeld).modEntry q.val e.idx (fun e => { e with started := true, heldOn := some (a, n) })
      else
        let r := s.memRead false true 26 a n
        if r.1 ≠ rOK then r.2.2.endEntry q.val e.idx r.1 0
        else
          match s.translate (s.qpPart q.val) (e.desc.sqWin + e.next) n true with
          | none => s.endEntry q.val e.idx rDENIED 0
          | some h =>
            (r.2.2.hostReq true h (e.desc.sqWin + e.next) r.2.1 n (.dataOut q.val e.idx)).modEntry q.val e.idx
              (fun e => { e with started := true, next := e.next + n, heldOn := none }))

/-- The oldest entry not completed, if it has an opcode and may start. -/
def State.headEntry (s : State) (q op : Nat) : Option QpEntry :=
  ((s.qp q).entries.find? (fun e => !e.done)).filter (fun e => e.fetched && e.desc.sqOp = op && s.qpMayStart q)

/-- QSIGNAL: a signal held for the first boundary after completion (R386). -/
def execQsignal (q : Fin 8192) (s : State) : Out :=
  .next (
    match s.headEntry q.val 3 with
    | none => s
    | some e =>
      match s.physOf e.desc.sqCluster with
      | none => s.endEntry q.val e.idx rDENIED 0
      | some k =>
        let h : Held :=
          { owner := .host e.id, tok := fld e.desc.w4 0 6, count := e.desc.sqCount, epoch := (s.slot k).cur
            sender := senderWord s.device 0x1FF 0 5 q.val, ready := true }
        if !s.heldRoom k h then s else (s.hold k h).endEntry q.val e.idx rOK 0)

/-- QNOP: complete after every earlier entry of the pair. -/
def execQnop (q : Fin 8192) (s : State) : Out :=
  .next (match s.headEntry q.val 4 with | some e => s.endEntry q.val e.idx rOK 0 | none => s)

/-! ### Doorbells, enable, disable (R379, R381, R384) -/

/-- A doorbell from a host, or from another requester of registers. -/
def State.doorbell (s : State) (q : Nat) (host : Option Nat) (sq cq : Option Nat) : State :=
  if host.any (fun h => h ≠ s.rd hostB F.QP_OWNER_HOST q) then s.hostDenied
  else if s.qpState q ≠ 1 then s.satAdd hostB F.QP_STAT_BAD_DB 1 q
  else
    let s := match sq with
      | some v => if v < s.sqSize q then s.wr hostB F.QP_IDX_SQ_TAIL v q else s.satAdd hostB F.QP_STAT_BAD_DB 1 q
      | none => s
    match cq with
    | some v =>
      let size := s.cqSize q
      if size ≤ v then s.satAdd hostB F.QP_STAT_BAD_DB 1 q
      else
        let eaten := (v + size - s.rd hostB F.QP_IDX_CQ_HEAD q) % size
        ((s.wr hostB F.QP_IDX_CQ_HEAD v q).modQp q (fun x => { x with cqUsed := x.cqUsed - eaten })).retireEntries q
    | none => s

/-- DOORBELL packet. -/
def execDoorbell (s : State) : Out :=
  .next (s.takeEjected (isHost 3) (fun s e =>
    let w2 := num e.pkt.data 16 8
    let opt := fun lo b => if tb w2 b then some (bits w2 lo 16) else none
    some (s.doorbell e.pkt.hostQp (some e.pkt.hostNo) (opt 0 32) (opt 16 33))))

/-- May a pair be enabled (R379)? -/
def State.qpReady (s : State) (q : Nat) : Bool :=
  let ring := fun (bf sf : Field) (unit : Nat) (w : Bool) =>
    let sz := s.rd hostB sf q
    decide (4 ≤ sz) && decide (sz ≤ 16) && (s.translate (s.qpPart q) (64 * s.rd hostB bf q) (unit * 2 ^ sz) w).isSome
  s.rdB hostB F.QP_OWNER_VALID q && ring F.QP_SQ_BASE F.QP_SQ_SIZE_LOG2 64 false && ring F.QP_CQ_BASE F.QP_CQ_SIZE_LOG2 16 true

/-- Enable a pair whose conditions hold: every index 0, PHASE 1. -/
def State.qpOn (s : State) (q : Nat) : State :=
  if s.qpReady q then
    let s := ((s.wr hostB F.QP_STAT_STATE 1 q).wr hostB F.QP_STAT_ENABLE 1 q).wr hostB F.QP_STAT_PHASE 1 q
    let s := ((s.wr hostB F.QP_IDX_SQ_HEAD 0 q).wr hostB F.QP_IDX_SQ_TAIL 0 q).wr hostB F.QP_IDX_CQ_TAIL 0 q
    (s.wr hostB F.QP_IDX_CQ_HEAD 0 q).modQp q (fun _ => {})
  else ((s.wr hostB F.QP_STAT_STATE 0 q).wr hostB F.QP_STAT_ENABLE 0 q).satAdd hostB F.QP_STAT_BAD_DB 1 q

/-- QP_STAT.ENABLE written 1; during DRAINING it is latched. -/
def execQpEnable (q : Fin 8192) (s : State) : Out :=
  .next (
    match s.qpState q.val with
    | 0 => s.qpOn q.val
    | 2 => (s.wr hostB F.QP_STAT_STATE 3 q.val).wr hostB F.QP_STAT_ENABLE 1 q.val
    | _ => s)

/-- QP_STAT.ENABLE written 0. -/
def execQpDisable (q : Fin 8192) (s : State) : Out :=
  .next (
    match s.qpState q.val with
    | 0 => s
    | _ => (s.wr hostB F.QP_STAT_STATE 2 q.val).wr hostB F.QP_STAT_ENABLE 0 q.val)

/-- A completion of the pair is on its way. -/
def State.completing (s : State) (q : Nat) : Bool := s.host.reqs.any (fun r => r.use = HostUse.completion q)

/-- QP_DRAIN_COMPLETE: the entries fetched have completed and their completions are written. -/
def execQpDrainComplete (q : Fin 8192) (s : State) : Out :=
  .next (
    let p := q.val
    if (s.qpState p = 2 ∨ s.qpState p = 3) ∧ (s.qp p).entries = [] ∧ !s.completing p then
      if s.qpState p = 3 then s.qpOn p else s.wr hostB F.QP_STAT_STATE 0 p
    else s)

/-- Send a pair's NOTIFY to its host. -/
def State.sendNotify (s : State) (q : Nat) : State :=
  let w2 := packN [(0, 16, s.rd hostB F.QP_IDX_SQ_HEAD q), (16, 16, s.rd hostB F.QP_IDX_CQ_TAIL q), (32, 2, 3)]
  let t := s.newTag
  let u := t.2.sendElastic { dst := s.rd hostB F.GATE_CFG_GATE_DEVICE, kind := 9, tag := t.1 }
    (hostHdr (s.rd hostB F.QP_OWNER_HOST q) 8 q false 0 0 w2)
  if u.1 then u.2.modQp q (fun x => { x with notifyDue := false, notified := some s.passIdx }) else u.2.pathLost

/-- The NOTIFY that is due: one per pair and Pass, after the completions have been acknowledged (R383). -/
def State.notify (s : State) (q : Nat) : State :=
  let x := s.qp q
  if x.notifyDue && s.pathUp && !s.completing q && x.notified ≠ some s.passIdx then s.sendNotify q else s

/-! ### Posted transfers (R387) -/

/-- The rows of a posted transfer lie end to end: what the piece at an offset copies, as source, destination and length. -/
def piece (d : Desc) (off : Nat) : Nat × Nat × Nat :=
  let row := off / d.rowBytes
  let at_ := off % d.rowBytes
  (rowAt d.src d.srcStride row + at_, rowAt d.dst d.dstStride row + at_, min 4032 (d.rowBytes - at_))

/-- A transfer moves bytes out of this module. -/
def Desc.toHost (d : Desc) : Bool := regionOf d.dst = .window

def HostReq.ofPosted (no : Nat) (r : HostReq) : Bool :=
  match r.use with
  | .postIn n _ => n = no
  | .postOut n => n = no
  | _ => false

/-- A posted transfer ends: its requests are forgotten and its host extents close. -/
def State.postEnd (s : State) (no : Nat) : State :=
  ({ s with host.reqs := s.host.reqs.filter (fun r => !r.ofPosted no), host.posted := s.host.posted.filter (fun x => x.no ≠ no) }).hostWritten no

/-- A failed one: no signal, an error record, EXPORT_FAILS. -/
def State.postFail (s : State) (no win resp : Nat) : State :=
  match s.host.posted.find? (fun x => x.no = no) with
  | none => s
  | some x => ((s.postEnd no).satAdd hostB F.QM_ERRS_EXPORT_FAILS 1).err 0x15 0 {} (causeOf x.q.desc 0) win resp

/-- Nothing is left to move of a transfer, and nothing of it is outstanding. -/
def State.postMoved (s : State) (x : PostedXfer) : Bool := decide (x.q.desc.total ≤ x.next) && !s.host.reqs.any (HostReq.ofPosted x.no)

/-- The signal of a posted transfer, which is applied at the next boundary. -/
def State.postHeld (s : State) (x : PostedXfer) : Held := { sigOf x.q.desc (.host x.no) (s.clusterSender x.issuer 0 5) with ready := true }

/-- A transfer with nothing left to move and nothing outstanding completes and signals, unless the table is full (R196). -/
def State.postCheck (s : State) (no : Nat) : State :=
  match s.host.posted.find? (fun x => x.no = no) with
  | none => s
  | some x =>
    if !s.postMoved x || s.sigWaits x.issuer x.q.desc (s.postHeld x) then s
    else (s.postEnd no).holdFor x.issuer x.q.desc (s.postHeld x)

/-- POSTED_TRANSFER: the next piece of the oldest released transfer that can move one, or the completion of one that waited for a place for its signal. -/
def execPostedTransfer (s : State) : Out :=
  .next (
    match s.host.posted.find? (fun x => x.released && decide (x.next < x.q.desc.total)) with
    | none =>
      match s.host.posted.find? (fun x => x.released && s.postMoved x && !s.sigWaits x.issuer x.q.desc (s.postHeld x)) with
      | some x => s.postCheck x.no
      | none => s
    | some x =>
      let d := x.q.desc
      let p := piece d x.next
      let n := p.2.2
      let set := fun (s : State) (g : PostedXfer → PostedXfer) => { s with host.posted := modFirst (fun y => y.no = x.no) g s.host.posted }
      let moved := fun (s : State) => set s (fun y => { y with next := y.next + n, heldOn := none })
      if !s.pathUp then s
      else if d.toHost then
        if x.denied then s.postFail x.no p.2.1 rNOT_COMMITTED
        else if s.blocked none p.1 n then set (if x.heldOn.isSome then s else s.countHeld) (fun y => { y with heldOn := some (p.1, n) })
        else
          let r := s.memRead false true 26 p.1 n
          match r.1, s.translate x.part p.2.1 n true with
          | 0, some h => moved (r.2.2.hostReq true h p.2.1 r.2.1 n (.postOut x.no))
          | 0, none => r.2.2.postFail x.no p.2.1 rDENIED
          | e, _ => r.2.2.postFail x.no p.2.1 e
      else if 64 ≤ s.mreads then s
      else
        match s.translate x.part p.1 n false with
        | some h => moved (s.hostReq false h p.1 [] n (.postIn x.no p.2.1))
        | none => s.postFail x.no p.1 rDENIED)

/-! ### Answers of the host (R376, R382, R388) -/

/-- A request has failed: what it was for ends with a response code and a QSTATUS. A completion that cannot be written is lost with its request. The CID
of an entry that was never read is open, and a free value (log 51). -/
def State.reqFails (s : State) (r : HostReq) (resp qstatus : Nat) : State :=
  match r.use with
  | .fetch q idx =>
    (List.range (r.len / 64)).foldl (fun s i =>
      let t := s.draw
      (t.2.modEntry q (idx + i) (fun e => { e with desc := { w0 := t.1 &&& 0xFFFF0000 } })).endEntry q (idx + i) resp qstatus) s
  | .dataIn q i _ => s.endEntry q i resp qstatus
  | .dataOut q i => s.endEntry q i resp qstatus
  | .completion _ => s
  | .postIn n _ => s.postFail n r.win resp
  | .postOut n => s.postFail n r.win resp
  | .report => s

/-- A response says that the path is gone: PATH_DOWN is set, or a transit module had no route (R388). -/
def State.saysDown (s : State) (p : Packet) : Bool := p.pathDown || (p.resp = rUNMAPPED && decide (p.src ≠ s.rd hostB F.GATE_CFG_GATE_DEVICE))

/-- MRDATA: the data of an MREAD, or its refusal. -/
def State.onMrdata (s : State) (e : Ejected) : Option State :=
  let p := e.pkt
  match s.host.reqs.find? (fun r => r.tag = p.tag && !r.write) with
  | none => some s
  | some r =>
    if s.saysDown p then some s.pathLost
    else
      let bs := p.hostData
      let t := (s.dropReq r.tag).wrapAdd telB F.WIN_RD_BYTES bs.length
      if p.resp ≠ rOK ∨ bs.length ≠ r.len then some (t.reqFails r p.resp 2)
      else
        match r.use with
        | .fetch q idx => some (t.entriesArrive q idx bs)
        | .dataIn q idx a =>
          match (s.qp q).entries.find? (fun e => e.idx = idx && !e.done) with
          | none => some t
          | some x =>
            (t.writeHost x.id a bs).map (fun w =>
              if w.1 ≠ rOK then w.2.endEntry q idx w.1 0 else if w.2.entryOver q idx then w.2.endEntry q idx rOK 0 else w.2)
        | .postIn n a => (t.writeHost n a bs).map (fun w => if w.1 ≠ rOK then w.2.postFail n r.win w.1 else w.2.postCheck n)
        | _ => some t

def execMrdata (s : State) : Out := .next (s.takeEjected (isHost 9) State.onMrdata)

/-- MWACK: the bytes are visible to the host. -/
def State.onMwack (s : State) (e : Ejected) : Option State :=
  let p := e.pkt
  match s.host.reqs.find? (fun r => r.tag = p.tag && r.write) with
  | none => some s
  | some r =>
    if s.saysDown p then some s.pathLost
    else
      let t := s.dropReq r.tag
      if p.resp ≠ rOK then some (t.reqFails r p.resp 2)
      else
        match r.use with
        | .completion q =>
          let t := t.wrapAdd hostB F.QP_STAT_COMPLETED (r.len / 16) q
          let t := if t.rdB hostB F.QP_CQ_NOTIFY q then t.modQp q (fun x => { x with notifyDue := true }) else t
          some (t.notify q)
        | .dataOut q idx => some (if t.entryOver q idx then t.endEntry q idx rOK 0 else t)
        | .postOut n => some (t.postCheck n)
        | _ => some t

def execMwack (s : State) : Out := .next (s.takeEjected (isHost 0xA) State.onMwack)

/-- HOST_TIMEOUT_EXPIRY: HOST_TIMEOUT Passes without an answer while the path is UP (R382). -/
def execHostTimeoutExpiry (tag : BitVec 24) (s : State) : Out :=
  .next (
    match s.host.reqs.find? (fun r => r.tag = tag.toNat) with
    | none => s
    | some r =>
      if s.pathUp && decide (r.pass + s.rd hostB F.QM_CFG_HOST_TIMEOUT ≤ s.passIdx) then
        let t := ((s.dropReq r.tag).satAdd hostB F.QM_ERRS_TIMEOUTS 1).draw
        t.2.reqFails r (match r.use with | .postIn _ _ => fld t.1 0 4 | .postOut _ => fld t.1 0 4 | _ => rOK) 3
      else s)

/-! ### The host path (R388) -/

/-- PATH becomes UP: the held requests go again, and pairs whose CQ holds entries not consumed send a NOTIFY. -/
def State.pathRestored (s : State) : State :=
  let s := s.wr hostB F.GATE_STAT_PATH 1
  let now := s.passIdx
  let s := { s with host.reqs := s.host.reqs.map (fun r : HostReq => { r with pass := now }) }
  let s := s.host.reqs.foldl State.putReq s
  s.host.qps.foldl (fun s e => if e.2.cqUsed ≠ 0 then s.sendNotify e.1 else s) s

/-- PROBE: at the gate a member's is answered; at a member the gate's answer tells how the path stands. -/
def execProbe (s : State) : Out :=
  .next (s.takeEjected (isHost 0xB) (fun s e =>
    let p := e.pkt
    let up := s.gatePort.any (fun g => s.pst g = pUP)
    if s.isGate && decide (p.src ≠ s.device) then
      some (s.sendElastic { dst := p.src, kind := 9, tag := p.tag } (hostHdr p.hostNo 0xB 0 (!up) 0 0 0)).2
    else
      let down := if s.isGate then !up else p.pathDown
      let s := { s with host.probeOut := false }
      some (if down then s.pathLost else if s.pathUp then s else s.pathRestored)))

/-- PROBE_TIMER: every PROBE_PASSES Passes; a PROBE still unanswered then loses the path. -/
def execProbeTimer (s : State) : Out :=
  .next (
    if s.host.probePass + s.rd hostB F.QM_CFG_PROBE_PASSES ≤ s.passIdx then
      let s := if s.host.probeOut then s.pathLost else s
      let t := s.newTag
      let u := t.2.sendElastic { dst := s.rd hostB F.GATE_CFG_GATE_DEVICE, kind := 9, tag := t.1 } (hostHdr 0 0xB 0 false 0 0 0)
      { u.2 with host.probeOut := true, host.probePass := s.passIdx }
    else s)

/-! ### The gate (R374) -/

/-- A refused packet from the adapter: counted, and a request is answered through the gate port. -/
def State.gateRefuse (s : State) (g : Nat) (p : Packet) (resp : Nat) : State :=
  let s := if resp = rDENIED then s.satAdd hostB F.QM_ERRS_BAD_PKTS 1 else s
  let h : Hdr := { dst := p.src, src := s.device, resp := resp, tag := p.tag, epoch := p.epoch }
  let send := fun (q : Packet) => s.enqueueOut g q.vcBase false { pkt := q }
  if p.kind = 0 ∨ p.kind = 4 ∨ p.kind = 5 then send (({ h with kind := 7, stream := p.stream, ssn := p.ssn } : Hdr).packet [])
  else if p.kind = 1 ∨ p.kind = 2 ∨ p.kind = 6 then send (({ h with kind := 3 } : Hdr).packet [])
  else if p.kind = 9 then
    match hostAnswer p.htype with
    | some t => send (({ h with kind := 9, length := 32 } : Hdr).packet (hostHdr p.hostNo t 0 false 0 0 0))
    | none => s
  else s

/-- HOST_PACKET_INGRESS: the oldest packet that the adapter has sent. -/
def execHostPacketIngress (s : State) : Out :=
  .next (
    match s.gatePort with
    | none => s
    | some g =>
      match (s.port g).rxPkts with
      | [] => s
      | r :: rest =>
        let p := r.pkt
        let gate := s.rd hostB F.GATE_CFG_GATE_DEVICE
        let inGroup := decide ((p.dst ^^^ gate) >>> s.rd hostB F.GATE_CFG_GROUP_BITS = 0)
        let s := (s.modPort g (fun q => { q with rxPkts := rest })).returnCredit g r.vc p.frames
        if p.headerOk && p.kind = 9 && p.slice = 0 && decide (p.src = gate) && inGroup && p.hostOk then
          let t := s.sendElastic { p.hdr with stream := 0xFFF } p.data
          if t.1 then t.2 else t.2.gateRefuse g p rUNMAPPED
        else s.gateRefuse g p rDENIED)

end Sys2Proof.Machine
end

