-- ==== Sys2Proof/Machine/Collectives.lean ====
section
/-! DEFINITION. Collectives and the Harrow adders (chapter 12): channels, acceptance, the reduction packets, masks, line mode, order, verdicts. -/

namespace Sys2Proof.Machine

/-! ### The Harrow arithmetic (R92, R345) -/

/-- Bytes of an element: FP32, BF16, A40 in its container, INT32. -/
def redBytesOf (t : Nat) : Nat := if t = 1 then 2 else if t = 2 then 8 else 4
def redFmt (t : Nat) : Fmt := if t = 1 then fmtBF16 else if t = 2 then fmtA40 else fmtFP32

/-- One element of a sum, minimum or maximum: value and whether an INT32 sum wrapped. -/
def redElem (t oper a b : Nat) : Nat × Bool :=
  if t = 3 then
    let x := sx a 32
    let y := sx b 32
    let z := if oper = 0 then x + y else if oper = 1 then min x y else max x y
    ((BitVec.ofInt 32 z).toNat, decide (z < -(2 ^ 31) ∨ 2 ^ 31 ≤ z))
  else
    let f := redFmt t
    let x := f.decode (a % 2 ^ f.width)
    let y := f.decode (b % 2 ^ f.width)
    let v := if oper = 0 then (FVal.add false x y).1 else if oper = 1 then FVal.minimum x y else FVal.maximum x y
    ((f.round 0 0 v).1, false)

/-- Is an element finite? INT32 elements always are. -/
def redFinite (t x : Nat) : Bool :=
  t = 3 || (match (redFmt t).decode (x % 2 ^ (redFmt t).width) with | .fin _ _ _ => true | _ => false)

/-- Is every element of a chunk finite? -/
def redAllFinite (t : Nat) (bs : List Byte) : Bool :=
  (List.range (bs.length / redBytesOf t)).all (fun i => redFinite t (num bs (i * redBytesOf t) (redBytesOf t)))

/-- A chunk of two chunks, and whether a sum wrapped. -/
def redCombine (t oper : Nat) (a b : List Byte) : List Byte × Bool :=
  let w := redBytesOf t
  let es := (List.range (a.length / w)).map (fun i => redElem t oper (num a (i * w) w) (num b (i * w) w))
  (es.flatMap (fun e => bytesOf w e.1), es.any (·.2))

/-! ### Chunks (R338, R339) -/

/-- A chunk of an operation: number, offset and length in the member's bytes, and for a segmented one the half and the segment. -/
structure ChunkAt where
  seq : Nat
  off : Nat
  len : Nat
  seg : Option (Nat × Nat) := none
deriving DecidableEq, Repr

def cutChunks (c total base off : Nat) (seg : Option (Nat × Nat)) : List ChunkAt :=
  (List.range (cdiv total (max 1 c))).map (fun i => ⟨base + i, off + i * c, min c (total - i * c), seg⟩)

/-- Ring algorithm: CREDSC and CALLRED with ALG 1 (R339). -/
def CollOp.segmented (o : CollOp) : Bool := o.code = 0x19 || (o.code = 0x18 && o.desc.cAlg = 1)
/-- The command carries partials. -/
def CollOp.reduces (o : CollOp) : Bool := o.code = 0x18 || o.code = 0x19 || o.code = 0x1D
/-- Bytes of a segment. -/
def CollOp.segBytes (o : CollOp) : Nat := o.desc.cBytes / (2 * max 1 o.n)

/-- The chunks that each member's bytes are cut into. Chunk numbers run through the segments of the plus half, then of the minus half (log 48). -/
def CollOp.chunks (o : CollOp) : List ChunkAt :=
  let b := o.desc.cBytes
  let c := o.desc.cChunk
  if o.code = 0x1D then [⟨0, 0, 0, none⟩]
  else if o.segmented then
    let g := o.segBytes
    let cs := cdiv g (max 1 c)
    (List.range (2 * o.n)).flatMap (fun i => cutChunks c g (i * cs) ((i / o.n) * (b / 2) + (i % o.n) * g) (some (i / o.n, i % o.n)))
  else cutChunks c b 0 0 none

/-- The mask of every position (R337). -/
def CollOp.full (o : CollOp) : W64 := BitVec.ofNat 64 (2 ^ o.n - 1)
def CollOp.bit (o : CollOp) : W64 := BitVec.ofNat 64 (2 ^ o.pos)
/-- A position moved by a number of steps. -/
def CollOp.step (o : CollOp) (p k sg : Nat) : Nat := if sg = 0 then (p + k) % o.n else (p + o.n * (k + 1) - k) % o.n
/-- Place on the line of a position (R340). -/
def CollOp.onLine (o : CollOp) (p : Nat) : Nat := (p + o.n - o.l0.getD 0 % o.n) % o.n

/-- Positions at which a chunk's sum is needed. -/
def CollOp.owners (o : CollOp) (c : ChunkAt) : List Nat :=
  match c.seg with
  | some (_, j) => if o.code = 0x19 || !o.line then [j] else List.range o.n
  | none => List.range o.n

/-- The partials that this member originates for a chunk: direction and target (R338 to R340). -/
def CollOp.origins (o : CollOp) (c : ChunkAt) : List (Nat × Nat) :=
  if o.n ≤ 1 then []
  else if o.line then
    let l := o.onLine o.pos
    let ts := (o.owners c).filter (· ≠ o.pos)
    (if l = 0 then ts.map (fun t => (0, t)) else []) ++ (if l + 1 = o.n then ts.map (fun t => (1, t)) else [])
  else
    match c.seg with
    | some (0, j) => if o.pos = o.step j 1 0 then [(0, j)] else []
    | some (_, j) => if o.pos = o.step j 1 1 then [(1, j)] else []
    | none =>
      let hp := o.n / 2
      let hm := (o.n - 1) / 2
      (if hp = 0 then [] else [(0, o.step o.pos hp 0)]) ++ (if hm = 0 then [] else [(1, o.step o.pos hm 1)])

/-- Where the distributing forms' data of this member ends: direction and target (R338 to R340). -/
def CollOp.spread (o : CollOp) : List (Nat × Nat) :=
  if o.n ≤ 1 then []
  else if o.line then
    let l := o.onLine o.pos
    (if l + 1 = o.n then [] else [(0, (o.l0.getD 0 + o.n - 1) % o.n)]) ++ (if l = 0 then [] else [(1, o.l0.getD 0 % o.n)])
  else
    let hp := o.n / 2
    let hm := (o.n - 1) / 2
    [(0, o.step o.pos hp 0)] ++ (if hm = 0 then [] else [(1, o.step o.pos hm 1)])

/-- Key of a written part: block and chunk. -/
def gotKey (block seq : Nat) : Nat := block * 2 ^ 20 + seq

/-- The parts of the result that this member must have (Table 12-1). -/
def CollOp.needed (o : CollOp) : List Nat :=
  let cs := o.chunks
  match o.code with
  | 0x19 => (cs.filter (fun c => c.seg.any (fun g => g.2 = o.pos))).map (·.seq)
  | 0x1A => (List.range o.n).flatMap (fun r => cs.map (fun c => gotKey r c.seq))
  | 0x1C => if o.pos = o.desc.cRoot then (List.range o.n).flatMap (fun r => cs.map (fun c => gotKey r c.seq)) else []
  | _ => cs.map (·.seq)

/-! ### Access to channels and operations -/

def State.modChan (s : State) (c : Nat) (f : Chan → Chan) : State := s.setChan c (f (s.chan c))
/-- Change an operation, named by its acceptance. -/
def State.modOp (s : State) (c accNo : Nat) (f : CollOp → CollOp) : State :=
  s.modChan c (fun x => { x with ops := x.ops.map (fun o => if o.accNo = accNo then f o else o) })
def State.op? (s : State) (c accNo : Nat) : Option CollOp := (s.chan c).ops.find? (fun o => o.accNo = accNo)
/-- The device at a ring position of an operation (R324). -/
def State.memberDev (s : State) (o : CollOp) (p : Nat) : Nat :=
  s.withPos s.device o.axis ((o.lo + p) % max 1 (s.rd routeB F.AXIS_LENGTH o.axis))

/-! ### The Harrow stages (R333, R349, R350, R447, R448) -/

/-- Is a port's Harrow on one pipe, or bypassed? -/
def State.harrowSingle (s : State) (n : Nat) : Bool := tb (s.rd telB F.FLT_PORTS_HARROW_SINGLE) n
def State.harrowGood (s : State) (n : Nat) : Bool := !s.rdB collB F.HARROW_FAILED n || s.harrowSingle n
/-- The port whose Harrow makes a port's adds: its own, or, when that is failed or bypassed, another of the link die that is not single. -/
def State.harrowFor (s : State) (n : Nat) : Option Nat :=
  if s.harrowGood n then some n
  else (List.range 12).find? (fun m => m / 3 = n / 3 && m ≠ n && !s.rdB collB F.HARROW_FAILED m)

/-- One add at a port: sampled chunks are computed in both pipes and compared; a forced difference is handled as a real one, and the second computation
agrees (R349, R350, R355; that it ends a run of mismatches is DEDUCED, log 133). The result is whether the chunk was CHECKED, and whether its first result differed. -/
def State.harrowAdd (s : State) (n : Nat) (chan : Nat) (r : Red) : Bool × Bool × State :=
  match s.harrowFor n with
  | none => (false, false, s)
  | some h =>
    if s.harrowSingle h || (r.chunk + 13 * r.seq) % 2 ^ s.coll.checkLog2 ≠ 0 then (false, false, s)
    else
      let s := s.wrapAdd collB F.HARROW_SAMPLED 1 h
      if s.coll.inject.contains h then
        let s := { s with coll.inject := s.coll.inject.filter (· ≠ h) }
        let s := (s.satAdd collB F.HARROW_MISMATCHES 1 h).wr collB F.HARROW_RUN (sat 4 (s.rd collB F.HARROW_RUN h + 1)) h
        let s := s.err 0x0C 1 ⟨5, 0, h⟩ {} chan (r.seq + r.chunk * 2 ^ 32)
        if s.rd collB F.COLL_CFG_HARROW_LIMIT ≤ s.rd collB F.HARROW_RUN h then
          (true, true, (s.wr collB F.HARROW_FAILED 1 h).wantCheck (harrowCheckKey h))
        else (true, true, s.wr collB F.HARROW_RUN 0 h)
      else (true, false, s.wr collB F.HARROW_RUN 0 h)

/-! ### Sending -/

/-- The packet fields that an operation's packets share (R336). -/
def CollOp.red (o : CollOp) (rtype dir : Nat) : Red :=
  let d := o.desc
  { bucket := d.cBucket, seq := d.cSeq, chan := d.cChan, rtype := rtype, gen := o.gen % 4, dir := dir, dtype := d.cType, oper := d.cOper,
    step := d.cStep, vslot := d.cVslot, ven := d.cVen, origin := o.pos }

/-- The header of a reduction packet: to the next member in a direction, or straight to a position (CGATHER, CROT, GRANT), along the line in line mode. -/
def State.redHdr (s : State) (o : CollOp) (dir : Nat) (toPos : Option Nat) : Nat × Hdr :=
  let dst := s.memberDev o (toPos.getD (o.step o.pos 1 dir))
  let along := fun p : Nat => if o.line && o.l0.isSome then (if o.onLine o.pos < o.onLine p then 0 else 1) else s.signTo o.slice dst o.axis
  let dir := (toPos.map along).getD dir
  (dir, { dst := dst, kind := 8, slice := o.slice, dirs := setBit 0 o.axis (dir = 1), epoch := o.desc.epoch,
          stream := if dir = 0 then o.desc.cStreamP else o.desc.cStreamM })

/-- Send a reduction packet; `src` is the input port of one that goes on (R335). -/
def State.sendRed (s : State) (o : CollOp) (r : Red) (toPos : Option Nat) (data : List Byte) (src : Option (Fin 12) := none) : State :=
  let h := s.redHdr o r.dir toPos
  s.sendStream h.2 (({ r with dir := h.1 } : Red).bytes ++ data) false src

/-- The port by which a partial leaves for its next hop, where the egress adder sits (R334). -/
def State.egress (s : State) (o : CollOp) (r : Red) (src : Option (Fin 12)) (data : List Byte) : Nat :=
  let h := (s.redHdr o r.dir none).2
  match s.way { pkt := ({ h with src := s.device } : Hdr).packet (r.bytes ++ data), src := src } with
  | .out n _ _ => n
  | _ => o.home

/-! ### Results -/

/-- The operation's result is complete once every part of it is there (R328). -/
def State.checkComplete (s : State) (c accNo : Nat) : State :=
  match s.op? c accNo with
  | none => s
  | some o =>
    let sender := o.code = 0x1C && o.pos ≠ o.desc.cRoot
    let done := o.started && (if sender then o.sentChunks = o.chunks.length else o.needed.all (fun k => o.got.contains k))
    if done && o.complete.isNone then s.modOp c accNo (fun o => { o with complete := some s.fieldCount }) else s

/-- Write a part of the result as an open region, once (R328). -/
def State.putResult (s : State) (c accNo key off : Nat) (data : List Byte) : State :=
  match s.op? c accNo with
  | none => s
  | some o =>
    if o.got.contains key then s
    else
      let s := if data.isEmpty then s else (s.writeOpen (.coll c accNo) 26 (o.desc.cDst + off) data).2
      (s.modOp c accNo (fun o => { o with got := key :: o.got })).checkComplete c accNo

/-- A chunk's sum is complete here (R337): it is written, its flags are kept (R345), and a ring CALLRED sends it on as data (R339). -/
def State.finishChunk (s : State) (c accNo : Nat) (ch : ChunkAt) (a : AccChunk) : State :=
  match s.op? c accNo with
  | none => s
  | some o =>
    let off := match o.code, ch.seg with
      | 0x19, some (h, j) => h * o.segBytes + (ch.off - (h * (o.desc.cBytes / 2) + j * o.segBytes))
      | _, _ => ch.off
    let s := s.modOp c accNo (fun o => { o with fin := o.fin && a.fin, wrap := o.wrap || a.wrap, nf := o.nf.or a.nf })
    let s := s.putResult c accNo ch.seq off a.data
    match o.code, ch.seg, o.line with
    | 0x18, some (h, j), false =>
      if o.n ≤ 1 then s
      else
        let r := { o.red 1 h with chunk := ch.seq, mask := o.full, target := o.step j 1 (1 - h), fin := a.fin, wrap := a.wrap, nf := a.nf }
        s.sendRed o r none a.data
    | _, _, _ => s

/-- This member's own chunk, as a contribution. -/
def ownChunk (s : State) (o : CollOp) (ch : ChunkAt) : AccChunk :=
  let data := sub o.src ch.off ch.len
  let fin := if o.code = 0x1D then o.ownFin else redAllFinite o.desc.cType data
  { seq := ch.seq, mask := o.bit, data := data, fin := fin, wrap := false, nf := if fin then none else some s.device }

/-- Two contributions added (R92, R345). -/
def addChunks (s : State) (o : CollOp) (a b : AccChunk) : AccChunk :=
  if o.code = 0x1D then { a with mask := a.mask ||| b.mask, fin := a.fin && b.fin, nf := a.nf.or b.nf }
  else
    let t := redCombine o.desc.cType o.desc.cOper a.data b.data
    let fin := a.fin && b.fin && redAllFinite o.desc.cType t.1
    let nf := (a.nf.or b.nf).or (if fin then none else some s.device)
    { a with mask := a.mask ||| b.mask, data := t.1, fin := fin, wrap := a.wrap || b.wrap || t.2, nf := nf }

/-- Put an accumulated chunk back. -/
def CollOp.putAcc (o : CollOp) (a : AccChunk) : CollOp :=
  { o with acc := if o.acc.any (fun x => x.seq = a.seq) then modFirst (fun x : AccChunk => x.seq = a.seq) (fun _ => a) o.acc else o.acc ++ [a] }

/-- The combine stage (R337): a partial is added when its mask and ACC share no bit, else discarded and counted. -/
def State.combine (s : State) (c accNo : Nat) (ch : ChunkAt) (p : AccChunk) : State :=
  match s.op? c accNo with
  | none => s
  | some o =>
    let a := (o.acc.find? (fun x => x.seq = ch.seq)).getD (ownChunk s o ch)
    if a.mask &&& p.mask ≠ 0 then
      let s := s.satAdd collB F.COLL_RECOVER_DUP_PARTIALS 1
      if p.mask &&& ~~~ a.mask = 0 then s else s.err 0x17 3 {} {} c (a.mask &&& p.mask).toNat
    else
      let a := addChunks s o a p
      let s := (s.harrowAdd o.home c { o.red 0 0 with chunk := ch.seq }).2.2
      if a.mask = o.full then
        (s.modOp c accNo (fun o => o.putAcc { a with full := true })).finishChunk c accNo ch a
      else s.modOp c accNo (fun o => o.putAcc a)

/-- The partials that this member originates, and chunks that are whole with its own contribution alone. -/
def State.originate (s : State) (c accNo : Nat) : State :=
  match s.op? c accNo with
  | none => s
  | some o =>
    o.chunks.foldl (fun s ch =>
      let a := ownChunk s o ch
      let s := (o.origins ch).foldl (fun s e =>
        s.sendRed o { o.red (if o.code = 0x1D then 5 else 0) e.1 with chunk := ch.seq, mask := o.bit, target := e.2, fin := a.fin, nf := a.nf } none a.data) s
      if o.n ≤ 1 then (s.modOp c accNo (fun o => o.putAcc { a with full := true })).finishChunk c accNo ch a else s) s

/-- The data that this member distributes: its block for CALLGAT, ROOT's for CBCAST (R338). -/
def State.distribute (s : State) (c accNo : Nat) : State :=
  match s.op? c accNo with
  | none => s
  | some o =>
    o.spread.foldl (fun s e =>
      o.chunks.foldl (fun s ch => s.sendRed o { o.red 1 e.1 with chunk := ch.seq, target := e.2 } none (sub o.src ch.off ch.len)) s) s

/-- The sender to which the collector grants next, in ring-position order after the last (R341). -/
def CollOp.nextGrant (o : CollOp) : Option Nat :=
  ((List.range o.n).map (fun i => (o.lastGrant + 1 + i) % o.n)).find? (fun p => p ≠ o.pos && decide (o.grants.get 0 p < o.chunks.length))

/-- The collector has every chunk of a sender's block. -/
def CollOp.hasBlock (o : CollOp) (p : Nat) : Bool := o.chunks.all (fun c => o.got.contains (gotKey p c.seq))

/-- Senders with ungranted chunks at this collector (GATHER_STAT.PENDING). -/
def State.gatherPending (s : State) : State :=
  let n := s.allOps.foldl (fun m e =>
    let o := e.2
    if o.code = 0x1C && o.started && o.pos = o.desc.cRoot then
      m + ((List.range o.n).filter (fun p => p ≠ o.pos && decide (o.grants.get 0 p < o.chunks.length))).length
    else m) 0
  (s.wr collB F.GATHER_STAT_PENDING n).peak collB F.GATHER_STAT_PEAK n

/-- The collector grants one chunk to the next sender while a combine entry is free for it; the next grant follows its arrival (DESIGN CHOICE, log 49). -/
def State.grantNext (s : State) (c accNo : Nat) : State :=
  match s.op? c accNo with
  | none => s
  | some o =>
    match (if o.granted.isNone && decide (s.combineUsed o.home < 64) then o.nextGrant else none) with
    | none => s.gatherPending
    | some p =>
      let s := s.modOp c accNo (fun o => { o with grants := o.grants.insert p (o.grants.get 0 p + 1), lastGrant := p, granted := some p })
      (s.sendRed o { o.red 2 0 with auxPos := p, auxCount := 1, target := p } (some p) []).gatherPending

/-! ### Starting operations (R330, R334, R354) -/

/-- A CROT accepted before an operation names its buffer descriptor and has not committed (R354). -/
def State.rotBefore (s : State) (o : CollOp) : Bool :=
  s.allOps.any (fun e => e.2.code = 0x1E && e.2.desc.cBuf = o.desc.cBuf && decide (e.2.accNo < o.accNo))

/-- Key of an operation's verdict accumulator, and the accumulator's FINITE for a STEP: 1 for a new one (R346). -/
def CollOp.vkey (o : CollOp) : Nat := 8 * o.part + o.desc.cVslot
def State.verdict (s : State) (key step : Nat) : Bool :=
  match s.coll.verdicts.find? key with
  | some v => if v.step = step then v.finite else true
  | none => true

/-- May an operation start: it is no CBIND, CVERD or CROT, which start by rows of their own, and no CROT accepted before it on its buffer runs or waits. -/
def State.mayStart (s : State) (o : CollOp) : Bool :=
  !(o.code = 0x1D || o.code = 0x1E || o.code = 0x1F) && !s.rotBefore o

/-- The member contributes bytes: all but CVERD, and CBCAST at another member than ROOT. -/
def CollOp.contributes (o : CollOp) : Bool := !(o.code = 0x1D || (o.code = 0x1B && o.pos ≠ o.desc.cRoot))

/-- The contribution's read is held on an open extent (R57, R328). -/
def State.srcHeld (s : State) (o : CollOp) : Bool := o.contributes && !o.denied && s.blocked none o.desc.cSrc o.desc.cBytes

/-- A CROT's data goes to the member SHIFT positions ahead (R342). -/
def State.rotate (s : State) (c accNo : Nat) : State :=
  match s.op? c accNo with
  | none => s
  | some o =>
    let toward := o.step o.pos o.desc.cShift 0
    o.chunks.foldl (fun s ch => s.sendRed o { o.red 1 0 with chunk := ch.seq, target := toward } (some toward) (sub o.src ch.off ch.len)) s

/-- Start an operation: its contribution is staged, and its first packets leave. It does not start while an open extent holds the contribution's read;
a read answered NOT_COMMITTED stages zeros. -/
def State.startOp (s : State) (c accNo : Nat) : State :=
  match s.op? c accNo with
  | none => s
  | some o =>
    let d := o.desc
    if s.srcHeld o then
      (if o.heldOn.isSome then s else s.countHeld).modOp c accNo (fun o => { o with heldOn := some (d.cSrc, d.cBytes) })
    else
    let r := if !o.contributes then ([], s) else if o.denied then (List.replicate d.cBytes 0, s) else (s.memRead false false 26 d.cSrc d.cBytes).2
    let s := r.2.modOp c accNo (fun o => { o with started := true, src := r.1, heldOn := none })
    let o := { o with started := true, src := r.1, heldOn := none }
    let own := fun (s : State) (block base : Nat) =>
      o.chunks.foldl (fun s ch => s.putResult c accNo (gotKey block ch.seq) (base + ch.off) (sub o.src ch.off ch.len)) s
    if o.line && o.l0.isNone then s
    else
      match o.code with
      | 0x1A => (own s o.pos (o.pos * d.cBytes)).distribute c accNo
      | 0x1B => if o.pos = d.cRoot then (own s 0 0).distribute c accNo else s
      | 0x1C => if o.pos = d.cRoot then (own s o.pos (o.pos * d.cBytes)).grantNext c accNo else s
      | 0x1E => s.rotate c accNo
      | _ => s.originate c accNo

/-- Start what may start on a channel, in OP_SEQ order, up to the first that must wait (R330). -/
def State.startReady (s : State) (c : Nat) : State :=
  let rec go : State → List CollOp → State
    | s, [] => s
    | s, o :: t =>
      if o.started then go s t
      else if !s.mayStart o then s
      else if s.srcHeld o then s.startOp c o.accNo
      else go (s.startOp c o.accNo) t
  go s (s.chan c).ops

/-! ### Line mode (R351) -/

/-- The direction of a team carries collectives: an UP member whose adds some Harrow makes (R319, R447). -/
def State.collUp (s : State) (a sg : Nat) : Bool := (s.upMembers a sg).any (fun n => (s.harrowFor n).isSome)
/-- The direction is LOST for collectives. -/
def State.collLost (s : State) (a sg : Nat) : Bool := !(s.team a sg).isEmpty && !s.collUp a sg

/-- One operation enters line mode: its generation rises, chunks not complete here start again, the line begins at the member on the plus side of the lost
link (`base`: its position on the axis, once known). -/
def State.opEnterLine (s : State) (c : Nat) (o : CollOp) (base : Option Nat) : State :=
  let len := max 1 (s.rd routeB F.AXIS_LENGTH o.axis)
  let l0 := (base.map (fun b => let x := (b + len - o.lo % len) % len; if x < o.n then x else 0)).or o.l0
  if o.complete.isSome || !o.ring || (o.line && (o.l0.isSome || l0.isNone)) then s
  else
    let o' := { o with line := true, l0 := l0, gen := if o.line then o.gen else (o.gen + 1) % 4, acc := o.acc.filter (·.full) }
    let s := s.modOp c o.accNo (fun _ => o')
    if !o.started || l0.isNone then s
    else
      match o.code with
      | 0x1A => s.distribute c o.accNo
      | 0x1B => if o.pos = o.desc.cRoot then s.distribute c o.accNo else s
      | 0x1C =>
        let s := s.modOp c o.accNo (fun o => { o with sentChunks := 0, granted := none, grants := o.grants.filter (fun g => decide (o.chunks.length ≤ g.2) && o.hasBlock g.1) })
        if o.pos = o.desc.cRoot then s.grantNext c o.accNo else s
      | 0x1E => s.rotate c o.accNo
      | _ => s.originate c o.accNo

/-- Every channel bound to an axis enters line mode. -/
def State.enterLine (s : State) (axis : Nat) (base : Option Nat) : State :=
  s.coll.chans.foldl (fun s e =>
    let x := e.2
    if !x.bound || x.axis ≠ axis || x.aborted then s
    else
      let s := if x.ops.any (fun o => o.complete.isNone && o.ring && !o.line) then s.satAdd collB F.COLL_RECOVER_BREAKS 1 else s
      x.ops.foldl (fun s o => s.opEnterLine e.1 o base) s) s

/-- A member beside a lost link sends a BREAK in its remaining direction for each channel with an operation that has just entered line mode. -/
def State.lineWatchDir (s : State) (a sg : Nat) : State :=
  if !s.collLost a sg then s
  else
    let len := max 1 (s.rd routeB F.AXIS_LENGTH a)
    let pos := s.posOf s.device a
    let new := s.coll.chans.filter (fun e => e.2.bound && e.2.axis = a && !e.2.aborted && e.2.ops.any (fun o => o.complete.isNone && o.ring && o.l0.isNone))
    let s := s.enterLine a (some (if sg = 0 then (pos + 1) % len else pos))
    new.foldl (fun s e =>
      match (s.chan e.1).ops.find? (fun o => o.complete.isNone && o.line) with
      | some o => s.sendRed o { o.red 3 (1 - sg) with auxPos := o.pos } none []
      | none => s) s

/-- Channels whose own direction has become LOST enter line mode. -/
def State.lineWatch (s : State) : State :=
  (List.range 6).foldl (fun s a => (s.lineWatchDir a 0).lineWatchDir a 1) s

/-! ### Acceptance (R326 to R328, R325) -/

/-- The home port of an axis (R334). -/
def State.homePort (s : State) (a : Nat) : Nat :=
  ((s.upMembers a 0).head?).getD (((s.upMembers a 1).head?).getD ((s.team a 0).headD 0))

/-- An aborted operation's or a refused command's core halts with code 0x0A, source collective channel (R327, R344). -/
def State.collHalt (s : State) (k : CoreId) (pc : Nat) (bank : Bool) (d : Desc) (fid : Nat) : State :=
  s.halt k 0x0A 5 bank pc d.code (causeOf d fid)

/-- An ABORT goes on from this member in a direction: there is a neighbour there, and the line does not end here (R340, R344). -/
def State.goesOn (s : State) (o : CollOp) (g : Nat) : Bool :=
  decide (1 < o.n) && !(o.line && o.l0.isSome && (if g = 0 then decide (o.onLine o.pos + 1 = o.n) else decide (o.onLine o.pos = 0))) && !s.collLost o.axis g

/-- The rotation flags of a buffer descriptor once operations have been aborted (R354). -/
def State.rotFlags (s : State) (gone : List CollOp) (b : Nat) : State :=
  let s := s.wr collB F.BUF_ROT_WAIT (b2n (s.allOps.any (fun e => e.2.code = 0x1E && e.2.desc.cBuf = b && !e.2.started))) b
  if gone.any (fun o => o.code = 0x1E && o.desc.cBuf = b && o.started) then s.wr collB F.BUF_ROT_ACTIVE 0 b else s

/-- Abort the operations of a channel from an OP_SEQ on (R344). `ctx` gives the ring for the ABORT packets when no operation is left to give it. -/
def State.abortFrom (s : State) (c seq : Nat) (ctx : Option CollOp) (dirs : List Nat) : State :=
  let x := s.chan c
  if x.aborted then s
  else
    let hit := fun o : CollOp => decide ((o.desc.cSeq + 0x10000 - seq) % 0x10000 < 0x8000)
    let gone := x.ops.filter hit
    let s := s.modChan c (fun x => { x with ops := x.ops.filter (fun o => !hit o), aborted := true })
    let s := { s with
      mx.extents := s.mx.extents.map (fun e : Extent => if gone.any (fun o => e.owner = Owner.coll c o.accNo) then { e with closing := true } else e)
      coll.early := s.coll.early.filter (fun e => (Red.of e.pkt.data).chan ≠ c) }
    let s := (gone.filter (fun o => o.code = 0x1E)).foldl (fun s o => s.rotFlags gone o.desc.cBuf) s
    let s := gone.foldl (fun s o => s.collHalt o.issuer o.pc o.bank o.desc o.furrowId) s
    let s := match gone.getLast? with | some o => s.wr collB F.CHAN_STAT_LAST_SEQ o.desc.cSeq c | none => s
    let s := (s.wr collB F.CHAN_STAT_ORDER 1 c).err 0x0D 4 {} {} c seq
    match gone.head?.or ctx with
    | some o => (dirs.filter (s.goesOn o)).foldl (fun s g => s.sendRed o { o.red 4 g with seq := seq } none []) s
    | none => s

/-- Packets of an operation that waited in an early buffer go to the adders, or show ORDER (R343). -/
def State.takeEarly (s : State) (c : Nat) (o : CollOp) : State :=
  let mine := fun e : Early => let r := Red.of e.pkt.data; r.chan = c && r.seq = o.desc.cSeq
  let es := s.coll.early.filter mine
  let live := es.filter (fun e => e.pkt.epoch = o.desc.epoch)
  let s := { s with
    coll.early := s.coll.early.filter (fun e => !mine e)
    fab.ejected := es.map (fun e => { pkt := e.pkt, port := e.port }) ++ s.fab.ejected }
  let bad := live.any (fun e => let r := Red.of e.pkt.data; r.bucket ≠ o.desc.cBucket || r.dtype ≠ o.desc.cType || r.oper ≠ o.desc.cOper)
  if bad then s.abortFrom c o.desc.cSeq none [0, 1] else s

/-- The ring of an issuing slot's partition on an axis: partition, slice, N, own position, LO, ring shape (R324). -/
def State.ringOf (s : State) (k : CoreId) (axis : Nat) : Nat × Nat × Nat × Nat × Nat × Bool :=
  let part := (s.partOf k.plot.val).getD 32
  let slice := (s.sliceOfPart part).getD 0
  let g := s.geomOf slice axis
  let len := max 1 (s.rd routeB F.AXIS_LENGTH axis)
  (part, slice, max 1 g.2.1, (s.posOf s.device axis + len - g.1 % len) % len, g.1, g.2.2 = 2)

/-- A collective command completes at its acceptance; its own completion signals nothing (R327 to R329). -/
def State.collDone (s : State) (k : CoreId) (f : Flight) : State :=
  (s.modFlight k .dataMover (fun g => g.seq = f.seq) (fun g => { g with mute := true })).dmDone k f 0

/-- The channel accepts an operation (R327, R328). -/
def State.acceptOp (s : State) (k : CoreId) (f : Flight) : State :=
  let d := f.q.desc
  let c := d.cChan
  let x := s.chan c
  let axis := if d.code = 0x1F then d.cAxis else x.axis
  let g := s.ringOf k axis
  let no := s.coll.accepts
  let fid := ((s.furrow? k f.q.serial).map (·.id)).getD (s.core k).furrowId
  let line := !g.2.2.2.2.2
  let o : CollOp :=
    { desc := d, issuer := k, serial := f.q.serial, furrowId := fid, pc := f.q.pc, bank := f.q.bank, part := g.1, slice := g.2.1, axis := axis,
      n := g.2.2.1, pos := g.2.2.2.1, lo := g.2.2.2.2.1, ring := !line, accNo := no, home := s.homePort axis, line := line, l0 := if line then some 0 else none }
  let s := { s with coll.accepts := no + 1 }
  let same := x.bound && x.axis = d.cAxis && !x.ops.any (fun o => o.code = 0x1F)
  let s := s.modChan c (fun x => { x with
    cleared := false, next := (d.cSeq + 1) % 0x10000, hist := ((d.cSeq, fid) :: x.hist).take 16
    ops := if d.code = 0x1F && same then x.ops else x.ops ++ [o] })
  let s := if d.code = 0x1E then s.wr collB F.BUF_ROT_WAIT 1 d.cBuf else s
  let s := (s.takeEarly c o).startReady c
  (if d.code = 0x1F then s else s.lineWatch).collDone k f

/-- A collective command meets its channel (R326, R327, R344). -/
def State.offerOp (s : State) (k : CoreId) (f : Flight) : State :=
  let d := f.q.desc
  let x := s.chan d.cChan
  let fid := ((s.furrow? k f.q.serial).map (·.id)).getD (s.core k).furrowId
  let refuse := fun s : State =>
    ((s.modSlot k (fun y => { y with dmPipe := y.dmPipe.filter (fun g => g.seq ≠ f.seq) })).cmdDone k f.q.serial).collHalt k f.q.pc f.q.bank d fid
  if x.aborted then refuse s
  else if f.q.reexec && x.hist.contains (d.cSeq, fid) then
    s.collDone k f
  else if d.cSeq ≠ x.next then refuse s
  else if 8 ≤ x.ops.length || 1024 ≤ s.allOps.length then s.dmWaits k f
  else s.acceptOp k f

/-- The oldest collective command of a slot past dequeue with a code, not yet accepted, whose turn has come. -/
def State.collNext (s : State) (k : CoreId) (code : Nat) : Option Flight :=
  (s.slot k).moverTurn.find? (fun f => f.q.desc.code = code)

/-- A collective command of a code is offered to its channel. -/
def State.collCommand (s : State) (k : CoreId) (code : Nat) : State :=
  match s.collNext k code with | some f => s.offerOp k f | none => s

def execCallred (k : CoreId) (s : State) : Out := .next (s.collCommand k 0x18)
def execCredsc (k : CoreId) (s : State) : Out := .next (s.collCommand k 0x19)
def execCallgat (k : CoreId) (s : State) : Out := .next (s.collCommand k 0x1A)
def execCbcast (k : CoreId) (s : State) : Out := .next (s.collCommand k 0x1B)
def execCgather (k : CoreId) (s : State) : Out := .next (s.collCommand k 0x1C)
def execCverd (k : CoreId) (s : State) : Out := .next (s.collCommand k 0x1D)
def execCrot (k : CoreId) (s : State) : Out := .next (s.collCommand k 0x1E)
def execCbind (k : CoreId) (s : State) : Out := .next (s.collCommand k 0x1F)

/-- COLLECTIVE_ROOM_ACCEPT: a command that waits for room is offered again (R326). -/
def execCollectiveRoomAccept (k : CoreId) (s : State) : Out :=
  .next (
    match (s.slot k).dmPipe.find? (fun f => !f.done && f.waiting && decide (0x18 ≤ f.q.desc.code) && decide (f.q.desc.code ≤ 0x1F)) with
    | some f => s.offerOp k f
    | none => s)

/-- The signal of an operation, applied at the boundary of its commit (R329): it takes no entry for longer, so a full table does not stall it. -/
def State.collSignal (s : State) (o : CollOp) : State :=
  s.holdFor o.issuer o.desc { sigOf o.desc (.coll o.desc.cChan o.accNo) (s.clusterSender o.issuer 0 4) with ready := true }

/-- An operation that waited behind a bind runs along the new axis. -/
def State.rebind (s : State) (axis : Nat) (o : CollOp) : CollOp :=
  if o.code = 0x1F then o
  else
    let g := s.ringOf o.issuer axis
    let line := !g.2.2.2.2.2
    { o with
      axis := axis, n := g.2.2.1, pos := g.2.2.2.1, lo := g.2.2.2.2.1, ring := !line, line := line, l0 := if line then some 0 else none
      home := s.homePort axis }

/-- CBIND_TAKES_EFFECT: every earlier operation of the channel has committed (R325). -/
def execCbindTakesEffect (c : Fin 512) (s : State) : Out :=
  .next (
    match (s.chan c.val).ops with
    | o :: rest =>
      if o.code = 0x1F && !s.rotBefore o then
        ((s.modChan c.val (fun x => { x with axis := o.desc.cAxis, bound := true, ops := rest.map (fun p => s.rebind o.desc.cAxis p) })).collSignal o).startReady c.val
      else s
    | [] => s)
/-- CVERD_CONTRIBUTE: every operation of the same verdict accepted before the CVERD has committed, and it contributes the accumulator (R347). -/
def execCverdContribute (c : Fin 512) (s : State) : Out :=
  .next (
    match (s.chan c.val).ops.find? (fun o => !o.started) with
    | some o =>
      let d := o.desc
      let before := s.allOps.any (fun e =>
        e.2.accNo < o.accNo && e.2.part = o.part && e.2.desc.cVslot = d.cVslot && e.2.desc.cStep = d.cStep && e.2.code ≠ 0x1F)
      if o.code ≠ 0x1D || before || s.rotBefore o then s
      else ((s.modOp c.val o.accNo (fun o => { o with ownFin := s.verdict o.vkey o.desc.cStep })).startOp c.val o.accNo).startReady c.val
    | none => s)

/-- CROT_START: no earlier operation names the rotation's buffer (R354). -/
def execCrotStart (c : Fin 512) (s : State) : Out :=
  .next (
    match (s.chan c.val).ops.find? (fun o => !o.started) with
    | some o =>
      if o.code ≠ 0x1E || s.allOps.any (fun e => e.2.desc.cBuf = o.desc.cBuf && decide (e.2.accNo < o.accNo)) then s
      else if s.srcHeld o then s.startOp c.val o.accNo
      else
        let others := s.allOps.any (fun e => e.2.code = 0x1E && e.2.desc.cBuf = o.desc.cBuf && !e.2.started && e.2.accNo ≠ o.accNo)
        let s := (s.wr collB F.BUF_ROT_WAIT (b2n others) o.desc.cBuf).wr collB F.BUF_ROT_ACTIVE 1 o.desc.cBuf
        (s.startOp c.val o.accNo).startReady c.val
    | none => s)

/-! ### Received reduction packets (R336, R337, R343) -/

/-- A packet shows that the ring has broken: its generation is later than the operation's, or it has turned (R351). A later partial names the end of the
line by its origin. -/
def State.redLine (s : State) (o : CollOp) (p : Packet) (r : Red) : State :=
  let turned := fld p.w0 50 1 = 1
  let later := (r.gen + 4 - o.gen % 4) % 4 = 1 || (r.gen + 4 - o.gen % 4) % 4 = 2
  if !o.ring || !(turned || later) then s
  else
    let len := max 1 (s.rd routeB F.AXIS_LENGTH o.axis)
    let base := if later && r.rtype = 0 then some ((o.lo + r.origin + (if r.dir = 0 then 0 else 1)) % len) else none
    s.enterLine o.axis base

/-- Use a reduction packet with its operation; `none` while it must wait where it is. One of an operation not yet accepted waits in the early buffer of its
port, unless that is full. `s` no longer lists the packet. -/
def State.redOne (s : State) (e : Ejected) (use : CollOp → Ejected → Red → State → Option State) : Option State :=
  let r := Red.of e.pkt.data
  if s.staleRed e.pkt then some (s.satAdd collB F.COLL_RECOVER_STALE_EPOCH 1)
  else
    match s.redMatch r with
    | .drop => some s
    | .order => some (s.abortFrom r.chan r.seq none [0, 1])
    | .wait =>
      if 16 ≤ (s.coll.early.filter (fun y => y.port = e.port)).length then none
      else some { s with coll.early := s.coll.early ++ [{ port := e.port, pkt := e.pkt, pass := s.passIdx }] }
    | .op o =>
      let s2 := s.redLine o e.pkt r
      match s2.op? r.chan o.accNo with
      | none => some s2
      | some o =>
        let age := (o.gen % 4 + 4 - r.gen) % 4
        if o.ring && (fld e.pkt.w0 50 1 = 1 || age = 1 || age = 2) then some (s2.satAdd collB F.COLL_RECOVER_STALE_GEN 1)
        else use o e r s2

/-- Use the first of a row's packets that can go: one that waits holds back those of its own channel alone, for channels are independent (R330). `front` has passed,
in reverse, and `held` lists the channels that wait. -/
def State.redFirst (s : State) (sel : Ejected → Bool) (use : CollOp → Ejected → Red → State → Option State) (front : List Ejected) (held : List Nat) :
    List Ejected → State
  | [] => s
  | e :: t =>
    let c := (Red.of e.pkt.data).chan
    if sel e && !held.contains c then
      match State.redOne { s with fab.ejected := front.reverse ++ t } e use with
      | some s' => s'
      | none => s.redFirst sel use (e :: front) (c :: held) t
    else s.redFirst sel use (e :: front) held t

/-- Take an ejected reduction packet of a type (and port) and use it with its operation. -/
def State.redRow (s : State) (rtype : Nat) (port : Option (Fin 12)) (use : CollOp → Ejected → Red → State → Option State) : State :=
  s.redFirst (fun e => e.pkt.kind = 8 && (Red.of e.pkt.data).rtype = rtype && (port.isNone || e.port = port)) use [] [] s.fab.ejected

/-- The chunk of an operation with a number. -/
def CollOp.chunkNo (o : CollOp) (n : Nat) : Option ChunkAt := o.chunks.find? (fun c => c.seq = n)

/-- A partial or verdict frame: combined at its target, else added to at the egress port and sent on (R334, R337). It waits while this member's
contribution is not staged, or the Combine buffer has no entry for its sum (R333). -/
def State.onPartial (o : CollOp) (e : Ejected) (r : Red) (s : State) : Option State :=
  match o.chunkNo r.chunk with
  | none => some s
  | some ch =>
    let a : AccChunk := { seq := ch.seq, mask := r.mask, data := sub e.pkt.data 32 ch.len, fin := r.fin, wrap := r.wrap, nf := r.nf }
    if !o.started then none
    else if r.target = o.pos then
      if s.opensSum o.home e.pkt && decide (64 ≤ s.combineUsed o.home) then none else some (s.combine r.chan o.accNo ch a)
    else if r.mask &&& o.bit ≠ 0 then some (s.sendRed o r none a.data e.port)
    else
      let t := s.harrowAdd (s.egress o r e.port a.data) r.chan r
      let b := addChunks t.2.2 o a (ownChunk t.2.2 o ch)
      let s := t.2.2.sendRed o { r with mask := b.mask, fin := b.fin, wrap := b.wrap, nf := b.nf, checked := t.1, gen := o.gen % 4 } none b.data e.port
      some (if t.2.1 then s.spoilLast else s)

/-- REDUCTION_PARTIAL. -/
def execReductionPartial (n : Fin 12) (s : State) : Out := .next (s.redRow 0 (some n) State.onPartial)

/-- REDUCTION_VERDICT (R347): a fold without data. -/
def execReductionVerdict (s : State) : Out := .next (s.redRow 5 none State.onPartial)

/-- Data: copied to DST at its block, and forwarded up to its target (R338, R339, R341, R342). -/
def State.onData (o : CollOp) (e : Ejected) (r : Red) (s : State) : Option State :=
  match o.chunkNo r.chunk with
  | none => some s
  | some ch =>
    let data := sub e.pkt.data 32 ch.len
    let blocks := o.code = 0x1A || o.code = 0x1C
    let key := if blocks then gotKey r.origin ch.seq else ch.seq
    let off := (if blocks then r.origin * o.desc.cBytes else 0) + ch.off
    if !o.started then none
    else
      let s := s.modOp r.chan o.accNo (fun o => { o with fin := o.fin && r.fin, wrap := o.wrap || r.wrap, nf := o.nf.or r.nf })
      let s := s.putResult r.chan o.accNo key off data
      if o.code = 0x1C then
        some ((s.modOp r.chan o.accNo (fun o => { o with granted := o.granted.filter (· ≠ r.origin) })).grantNext r.chan o.accNo)
      else if r.target = o.pos || o.code = 0x1E then some s
      else some (s.sendRed o r none data e.port)

/-- REDUCTION_DATA. -/
def execReductionData (s : State) : Out := .next (s.redRow 1 none State.onData)

/-- GRANT (R341): the sender sends the granted chunks in chunk order. -/
def execGrant (s : State) : Out :=
  .next (s.redRow 2 none (fun o _ r s =>
    if !o.started then none
    else
      let cs := (o.chunks.drop o.sentChunks).take r.auxCount
      let toward := o.desc.cRoot
      let s := cs.foldl (fun s ch => s.sendRed o { o.red 1 0 with chunk := ch.seq, target := toward } (some toward) (sub o.src ch.off ch.len)) s
      some ((s.modOp r.chan o.accNo (fun o => { o with sentChunks := o.sentChunks + cs.length })).checkComplete r.chan o.accNo)))

/-- BREAK (R351): the channels of the axis enter line mode, and the packet goes on once, up to the other end of the line. -/
def execRingBreak (s : State) : Out :=
  .next (
    match takeFirst (fun e : Ejected => e.pkt.kind = 8 && (Red.of e.pkt.data).rtype = 3) s.fab.ejected with
    | none => s
    | some (e, rest) =>
      let r := Red.of e.pkt.data
      let stale := s.staleRed e.pkt
      let s := { s with fab.ejected := rest }
      if stale then s.satAdd collB F.COLL_RECOVER_STALE_EPOCH 1
      else
      match (s.chan r.chan).ops.find? (fun o => o.ring && o.complete.isNone) with
      | none => s
      | some o =>
        let len := max 1 (s.rd routeB F.AXIS_LENGTH o.axis)
        let plusSide := if r.dir = 0 then r.auxPos else (r.auxPos + 1) % o.n
        let known := o.l0 = some plusSide
        let s := s.enterLine o.axis (some ((o.lo + plusSide) % len))
        let l := (o.pos + o.n - plusSide) % o.n
        if known || (r.dir = 0 && l + 1 = o.n) || (r.dir = 1 && l = 0) then s
        else s.sendRed { o with gen := r.gen } r none [])

/-- The ring of a packet's slice, for a channel that holds no operation to give it. -/
def State.ctxOf (s : State) (c : Nat) (p : Packet) (r : Red) : CollOp :=
  let a := (s.chan c).axis
  let g := s.geomOf p.slice a
  let len := max 1 (s.rd routeB F.AXIS_LENGTH a)
  { desc := { w0 := pack [(16, 8, p.epoch)], w2 := pack [(0, 9, c), (24, 16, r.seq)], w6 := pack [(0, 32, r.bucket), (32, 12, p.stream), (44, 12, p.stream)] }
    issuer := coreAt 0 0, serial := 0, furrowId := 0, pc := 0, bank := false, part := 32, slice := p.slice, axis := a, n := max 1 g.2.1,
    pos := (s.posOf s.device a + len - g.1 % len) % len, lo := g.1, ring := g.2.2 = 2, accNo := 0, home := 0
    line := g.2.2 ≠ 2, l0 := if g.2.2 = 2 then none else some 0 }

/-- ABORT (R344): the channel is aborted here too, and the packet goes on once. -/
def execRingAbort (s : State) : Out :=
  .next (
    match takeFirst (fun e : Ejected => e.pkt.kind = 8 && (Red.of e.pkt.data).rtype = 4) s.fab.ejected with
    | none => s
    | some (e, rest) =>
      let r := Red.of e.pkt.data
      let stale := s.staleRed e.pkt
      let s := { s with fab.ejected := rest }
      if stale then s.satAdd collB F.COLL_RECOVER_STALE_EPOCH 1
      else s.abortFrom r.chan r.seq (some (s.ctxOf r.chan e.pkt r)) [r.dir])

/-- EARLY_PACKET_HOLD_EXPIRY: the operation has not been accepted after HOLD_LIMIT Passes: ORDER (R343). -/
def execEarlyPacketHoldExpiry (n : Fin 12) (c : Fin 512) (opSeq : BitVec 16) (s : State) : Out :=
  .next (
    let old := fun e : Early =>
      let r := Red.of e.pkt.data
      e.port = some n && r.chan = c.val && r.seq = opSeq.toNat && decide (e.pass + s.rd collB F.COLL_CFG_HOLD_LIMIT ≤ s.passIdx)
    match s.coll.early.find? old with
    | some e => s.abortFrom c.val opSeq.toNat (some (s.ctxOf c.val e.pkt (Red.of e.pkt.data))) [0, 1]
    | none => s)

/-! ### Commit at the boundary (R328, R345 to R348) -/

/-- One operation commits: its regions close, its status is taken, its signal is made. -/
def State.collCommit (s : State) (c : Nat) (o : CollOp) : State :=
  let d := o.desc
  let s := s.modChan c (fun x => { x with ops := x.ops.filter (fun p => p.accNo ≠ o.accNo) })
  let s := s.closeExtents (fun e => e.owner = .coll c o.accNo)
  let s := ((s.wr collB F.CHAN_STAT_LAST_SEQ d.cSeq c).wr collB F.CHAN_STAT_NONFINITE (b2n !o.fin) c).wr collB F.CHAN_STAT_WRAP (b2n o.wrap) c
  let s := ((s.wr collB F.CHAN_STAT_LINE (b2n (o.line && o.ring)) c).wr collB F.CHAN_STAT_NF_DEVICE (o.nf.getD 0) c).wr collB F.CHAN_STAT_NF_VALID (b2n o.nf.isSome) c
  let s := s.wr collB F.CHAN_STAT_ORDER 0 c
  let s := if o.nf.isSome && !s.rdB collB F.COLL_NF_VALID then
      let s := ((s.wr collB F.COLL_NF_DEVICE (o.nf.getD 0)).wr collB F.COLL_NF_VALID 1).wr collB F.COLL_NF_CHANNEL c
      ((s.wr collB F.COLL_NF_OP_SEQ d.cSeq).wr collB F.COLL_NF_STEP d.cStep).wr collB F.COLL_NF_TIME_STAMP s.stamp
    else s
  let s := if o.code = 0x1E then (s.wr collB F.BUF_ROT_ACTIVE 0 d.cBuf).wrapAdd collB F.BUF_ROTATIONS 1 d.cBuf else s
  s.collSignal o

/-- The operation contributes to a verdict (R346, R347). -/
def CollOp.votes (o : CollOp) : Bool := o.desc.cVen = 1 || o.code = 0x1D
/-- Two operations name the same verdict. -/
def CollOp.sameVerdict (o q : CollOp) : Bool := o.vkey = q.vkey && o.desc.cStep = q.desc.cStep

/-- A verdict is closed (R348): with what the accumulator holds and every operation of the verdict that commits at this boundary, it is written in the plots of the
partition, and the accumulator is cleared. -/
def State.closeVerdict (s : State) (batch : List CollOp) (o : CollOp) : State :=
  let d := o.desc
  let fin := s.verdict o.vkey d.cStep && (batch.filter (fun q => q.votes && q.sameVerdict o)).all (·.fin)
  let ps := (List.range 32).filter (fun p => s.partOf p = some o.part && !s.fallowPlot p)
  let s := ps.foldl (fun s p =>
    ((s.wr (plotB p) F.VERDICT_STEP d.cStep d.cVslot).wr (plotB p) F.VERDICT_VALID 1 d.cVslot).wr (plotB p) F.VERDICT_FINITE (b2n fin) d.cVslot) s
  { s with coll.verdicts := s.coll.verdicts.erase o.vkey }

/-- An operation's FINITE is ANDed into its accumulator, which a new STEP sets to 1 first (R346). -/
def State.vote (s : State) (o : CollOp) : State :=
  { s with coll.verdicts := s.coll.verdicts.insert o.vkey { step := o.desc.cStep, finite := s.verdict o.vkey o.desc.cStep && o.fin } }

/-- The operations of a channel that commit, in OP_SEQ order: up to the first whose result was not complete by the marker deadline of the last Pass (R328, R330). -/
def Chan.due (x : Chan) (deadline : Nat) : List CollOp := x.ops.takeWhile (fun o => o.complete.any (fun m => decide (m ≤ deadline)))

/-- The collectives' part of a boundary; `deadline` is the last marker deadline. All commits of a boundary are one: a verdict that closes takes every operation of its
step that commits with it, on any channel. -/
def State.collBoundary (s : State) (deadline : Nat) : State :=
  let s := { s with coll.checkLog2 := s.rd collB F.COLL_CFG_CHECK_LOG2 }
  let due := s.coll.chans.flatMap (fun e => (e.2.due deadline).map (fun o => (e.1, o)))
  let batch := due.map (·.2)
  let closes := batch.filter (fun o => o.desc.cVclose)
  let s := due.foldl (fun s e => s.collCommit e.1 e.2) s
  let s := closes.foldl (fun s o => s.closeVerdict batch o) s
  (batch.filter (fun o => o.votes && !closes.any (fun q => q.sameVerdict o))).foldl State.vote s

/-- After the boundary's commits and closed extents, operations that waited for them start. -/
def State.collStarts (s : State) : State :=
  let s := s.coll.chans.foldl (fun s e => s.startReady e.1) s
  (s.allOps.foldl (fun s e => if e.2.code = 0x1C && e.2.started && e.2.pos = e.2.desc.cRoot then s.grantNext e.1 e.2.accNo else s) s).gatherPending

/-! ### Register commands (R355, R344) -/

/-- COLL_CHECK_CTL.CLEAR: COLL_RECOVER and every HARROW_n count. -/
def execCollCheckClear (s : State) : Out :=
  let s := (s.wr collB F.COLL_RECOVER_DUP_PARTIALS 0).wr collB F.COLL_RECOVER_STALE_GEN 0
  let s := (s.wr collB F.COLL_RECOVER_BREAKS 0).wr collB F.COLL_RECOVER_STALE_EPOCH 0
  .next ((List.range 12).foldl (fun s n => ((s.wr collB F.HARROW_SAMPLED 0 n).wr collB F.HARROW_MISMATCHES 0 n).wr collB F.HARROW_RUN 0 n) s)

/-- COLL_CHECK_CTL.INJECT: the next sampled chunk at INJ_PORT differs in pipe B; discarded where the Harrow runs on one pipe or is bypassed (R447). -/
def execCollInject (n : Fin 12) (s : State) : Out :=
  let s := s.wr collB F.COLL_CHECK_CTL_INJ_PORT n.val
  .next (
    if s.harrowSingle n.val || tb (s.rd telB F.FLT_PORTS_HARROW_BYPASS) n.val || s.coll.inject.contains n.val then s
    else { s with coll.inject := s.coll.inject ++ [n.val] })

/-- CHAN_CFG_c.CLEAR: an ABORTED channel returns to IDLE, unbound, with NEXT_SEQ 0 (R344). Operations before the aborted ones run on; the channel reads IDLE until it
accepts another (log 130). -/
def execChannelClear (c : Fin 512) (s : State) : Out :=
  .next (if (s.chan c.val).aborted then s.modChan c.val (fun x => { x with aborted := false, cleared := true, bound := false, axis := 0, next := 0, hist := [] }) else s)

end Sys2Proof.Machine
end

