-- ==== Sys2Proof/Machine/LinkRows.lean ====
section
/-! DEFINITION. The port commands that can take a direction down: each, and then the collective channels' watch over lost directions (R351). -/

namespace Sys2Proof.Machine

/-- TIME_SYNC (R33, R37): a port that turns FOREIGN may be the last of its direction. -/
def execTimeSync (n : Fin 12) (sym : BitVec 128) (delay : Nat) (s : State) : Out := .next (s.onTimeSync n sym delay).lineWatch
/-- LINK_DOWN (R282, R283). -/
def execLinkDown (n : Fin 12) (sym : BitVec 128) (s : State) : Out := .next (s.onLinkDown n sym).lineWatch
/-- LINK_TIMEOUT_EXPIRY (R282). -/
def execLinkTimeoutExpiry (n : Fin 12) (s : State) : Out := .next (s.onLinkTimeout n).lineWatch
/-- LANE_LOCK_LOSS (R275, R277). -/
def execLaneLockLoss (n : Fin 12) (lane : Fin 9) (s : State) : Out := .next (s.onLaneLockLoss n lane).lineWatch
/-- SPARE_NOW (R275). -/
def execSpareNow (n : Fin 12) (lane : Fin 8) (s : State) : Out := .next (s.onSpareNow n lane).lineWatch
/-- PORT_DISABLE (R284). -/
def execPortDisable (n : Fin 12) (s : State) : Out := .next (s.onPortDisable n).lineWatch
/-- PORT_DRAIN (R288). -/
def execPortDrain (n : Fin 12) (s : State) : Out := .next (s.onPortDrain n).lineWatch
/-- PORT_DRAIN_COMPLETE (R288). -/
def execPortDrainComplete (n : Fin 12) (s : State) : Out := .next (s.onPortDrainComplete n).lineWatch
/-- PORT_DRAIN_CLEAR (R288). -/
def execPortDrainClear (n : Fin 12) (s : State) : Out := .next (s.onPortDrainClear n).lineWatch
/-- RETRAIN (R292). -/
def execRetrain (n : Fin 12) (s : State) : Out := .next (s.onRetrain n).lineWatch
/-- FRAME_TRANSMIT (R305); the replay limit takes a port down (R271). -/
def execFrameTransmit (n : Fin 12) (s : State) : Out := .next (s.onTransmit n).lineWatch

end Sys2Proof.Machine
end

