-- ==== Sys2Proof/Machine/Reset.lean ====
section
/-! DEFINITION. Reset (chapter 16): the domains, their isolation, clearing and release, and the sources of a reset. A reset's rows do what a clk of it does
at once; the release of a plot, cluster or core domain is the boundary's. -/

namespace Sys2Proof.Machine

/-! ### Domains -/

def RstTarget.code (t : RstTarget) : Nat := t.domain.toNat
def RstTarget.slotNo (t : RstTarget) : Nat := t.slot.toNat
def RstTarget.plotNo (t : RstTarget) : Nat := t.plot.toNat
/-- The physical slot of a cluster or core target. -/
def RstTarget.core (t : RstTarget) : CoreId := coreAt t.plot.toNat t.slot.toNat

/-- The state of a target's domain; the module domain is never found in reset. -/
def State.dom (s : State) (t : RstTarget) : Dom :=
  match RstTarget.code t with
  | 1 => (s.slot (RstTarget.core t)).coreDom
  | 2 => (s.slot (RstTarget.core t)).clusterDom
  | 3 => s.boot.plotDoms.get Dom.run (RstTarget.plotNo t)
  | 4 => s.boot.fabricDom
  | 5 => s.boot.stewardDom
  | _ => .run

def State.setDom (s : State) (t : RstTarget) (d : Dom) : State :=
  match RstTarget.code t with
  | 1 => s.modSlot (RstTarget.core t) (fun x => { x with coreDom := d })
  | 2 => s.modSlot (RstTarget.core t) (fun x => { x with clusterDom := d })
  | 3 => { s with boot.plotDoms := s.boot.plotDoms.put Dom.run (RstTarget.plotNo t) d }
  | 4 => { s with boot.fabricDom := d }
  | 5 => { s with boot.stewardDom := d }
  | _ => s

/-- The state as RST_STAT, RST_PLOT and RST_SLOT encode it (R420). A domain that is clear and waits for its boundary reads CLEARING (log 52). -/
def Dom.stateCode : Dom → Nat
  | .run => 0
  | .isolating _ _ r => if r then 4 else 1
  | .clearing _ r => if r then 4 else 2
  | .held => 3
  | .cleared => 2

/-- A retired slot: a standard or wide slot taken out of use, or a retired spare (R24). -/
def State.retiredSlot (s : State) (k : CoreId) : Bool :=
  if k.slot.val < 16 then tb (s.rd 0 F.PLOT_MAP_RETIRED k.plot.val) k.slot.val || decide (s.rd 0 F.PLOT_MAP_STANDIN k.plot.val = k.slot.val)
  else s.rdB 0 F.PLOT_MAP_SPARE_RETIRED k.plot.val

/-- The target exists: its code is not reserved, and it is neither fallow nor retired (R414). -/
def State.targetOk (s : State) (t : RstTarget) : Bool :=
  match RstTarget.code t with
  | 1 | 2 => !s.fallowPlot (RstTarget.plotNo t) && decide (RstTarget.slotNo t < 17) && !s.retiredSlot (RstTarget.core t)
  | 3 => !s.fallowPlot (RstTarget.plotNo t)
  | 4 | 5 | 6 => true
  | _ => false

/-- The target lies inside another domain that is in reset (R414), or is a plot that Hayward holds for its fill (R435). -/
def State.insideReset (s : State) (t : RstTarget) : Bool :=
  match RstTarget.code t with
  | 1 => !s.slotOpen (RstTarget.core t)
  | 2 => !s.plotOpen (RstTarget.plotNo t)
  | 3 => s.hay.fillPlots.contains (RstTarget.plotNo t)
  | _ => false

def State.refused (s : State) : State := s.satAdd rstB F.RST_COUNT_REFUSED 1

/-! ### Stopping the work of a domain (R409, R410) -/

/-- The core's furrows of this Pass and those it owes are not committed and not re-executed; their tokens are corrected, their lines dropped, and descriptors
not dequeued are discarded. The serial numbers go on. -/
def State.stopCore (s : State) (k : CoreId) : State :=
  let c := s.core k
  let fs := c.furrows ++ c.kept
  let s := (s.branchFlush k)
  let s := (fs ++ c.owed).foldl (fun s f => s.dropFurrow k f.serial) s
  s.modSlot k (fun x =>
    let x := fs.foldl Slot.undoTok x
    { x with work := [], tags := [], matQ := [], vecQ := [], dmQ := [], core := { halted := true, serial := c.serial } })

/-- A cluster's engines stop too; what they have asked of other modules may still be answered (R415). -/
def State.stopCluster (s : State) (k : CoreId) : State :=
  (s.stopCore k).modSlot k (fun x => { x with
    matPipe := [], vrun := none, vtail := [], dmPipe := x.dmPipe.filter (fun f => f.tags ≠ []) })

/-- A Bin furrow of a domain in reset is not committed, and not re-executed (R410). -/
def BinFurrow.abandon (f : BinFurrow) : BinFurrow := { f with halted := true, vote := .dropped }

/-- A plot's Bin units, Drill and Glean request stop; reads and host writes held there are answered FALLOW (R415). -/
def State.stopPlot (s : State) (p : Nat) : State :=
  let s := (slotsOf p).foldl State.stopCluster s
  let stop := fun x : BinUnit => { x with run := none, queue := [], furrows := x.furrows.map BinFurrow.abandon }
  let s := { s with bins := (List.range 8).foldl (fun m u => m.insert (p * 8 + u) (stop (m.get {} (p * 8 + u)))) s.bins }
  let s := { s with drills := s.drills.erase p, mx.glean := s.mx.glean.erase p }
  let here := fun h : HeldAccess => (plotsTouched h.lo h.len).contains p && h.lo < 0x0001_0000_0000
  let gone := s.mx.heldAccess.filter here
  let s := { s with mx.heldAccess := s.mx.heldAccess.filter (fun h => !here h) }
  gone.foldl (fun s h => (s.wrapped).respond h.pkt rFALLOW []) s

/-- Nothing that the domain sent outward is still to be answered. -/
def Slot.quiet (x : Slot) : Bool := x.dmPipe.all (fun f => f.tags = [])

def State.domQuiet (s : State) (t : RstTarget) : Bool :=
  match RstTarget.code t with
  | 3 => (slotsOf (RstTarget.plotNo t)).all (fun k => (s.slot k).quiet)
  | _ => (s.slot (RstTarget.core t)).quiet

/-! ### Clearing (R409, R411) -/

/-- CORE_* registers of a slot return to their reset values. -/
def State.clearCoreCsr (s : State) (k : CoreId) : State := (s.clearCsr (slotB k) (slotB k + 0x28)).clearCsr (slotB k + 0x38) (slotB k + 0x88)

def State.clearCore (s : State) (k : CoreId) : State :=
  (s.stopCore k).clearCoreCsr k

/-- A cluster's state returns to its value at reset; its own domain and its core's stay as they are. -/
def State.clearCluster (s : State) (k : CoreId) : State :=
  let s := (s.stopCore k).clearCsr (slotB k) (slotB k + 0x100000)
  s.modSlot k (fun x => { core := { serial := x.core.serial }, clusterDom := x.clusterDom })

/-- Journals of Bin furrows that have not committed are replayed first (R411). -/
def State.plotReplay (s : State) (p : Nat) : State :=
  (List.range 8).foldl (fun s u =>
    let b : BinId := ⟨Fin.ofNat 32 p, Fin.ofNat 8 u⟩
    ((s.bin b).furrows.filter (fun f => f.vote ≠ .commit)).foldl (fun s f => s.replay b f) s) s

def State.clearPlot (s : State) (p : Nat) : State :=
  let s := (s.plotReplay p).clearCsr (plotB p) (plotB p + 0x100000)
  let serials := fun u : Nat => (s.bins.get {} (p * 8 + u)).serial
  let bins := (List.range 8).foldl (fun (m : SMap BinUnit) u => m.insert (p * 8 + u) { serial := serials u }) s.bins
  let mx := s.mx
  let s := { s with
    bins := bins, drills := s.drills.erase p
    mx := { mx with
      glean := mx.glean.erase p, repairQ := mx.repairQ.erase p, granInj := mx.granInj.erase p
      extents := mx.extents.filter (fun e => regionOf e.lo ≠ .granary p), hostExtents := mx.hostExtents.filter (fun e => regionOf e.lo ≠ .granary p) } }
  (slotsOf p).foldl (fun s k => (s.clearCluster k).modSlot k (fun x => { x with clusterDom := .run })) s

/-! ### The fabric domain (R416, R417) -/

/-- Every port sends LINK_DOWN with reason 2 where it can, and stops. -/
def State.allLinksDown (s : State) : State :=
  (List.range 12).foldl (fun s n => if trained (s.pst n) then s.sendSym n (mkSym 8 [(8, 4, 2)]) else s) s

/-- Frames that a port holds to be sent or acknowledged. -/
def State.heldFrames (s : State) (n : Nat) : Nat := s.waitingFrames n + (s.port n).replay.length

/-- The stop of a fabric reset: the ports are down, collective operations are abandoned, the host path is lost (R416, R417). -/
def State.fabricStop (s : State) (hold release : Bool) : State :=
  let s := s.allLinksDown
  let s := (List.range 12).foldl (fun s n =>
    let s := s.parentLost n
    ((s.wr seqB F.TIME_STAT_FOREIGN_PORTS 0).setPst n pDOWN).setPort n { sent := (s.port n).sent }) s
  let ofColl := fun o : Owner => match o with | .coll _ _ => true | _ => false
  let shut := fun e : Extent => if ofColl e.owner then { e with closing := true } else e
  let drop := fun x : Slot => { x with held := x.held.filter (fun h => !ofColl h.owner) }
  let s := { s with mx.extents := s.mx.extents.map shut, slots := s.slots.map (fun e : Nat × Slot => (e.1, drop e.2)) }
  let s := { s with coll := { checkLog2 := s.coll.checkLog2, accepts := s.coll.accepts } }
  let fab := s.fab
  let s := { s with
    fab := { fab with reorder := [], txq := fab.txq.filter (fun r => r.src.isNone), transit := [], lost := [] }
    boot.fabricDom := .clearing hold release }
  if s.isGate then s.pathLost else s

/-- Register fields of the port, routing and collective blocks that a fabric reset clears: those that software does not write (R409). -/
def fabricCleared (key : Nat) : Bool :=
  let off := key / 64
  0x100000 ≤ off && off < 0x400000 && (fieldAtKey key).any (fun f => f.acc = .ro || f.acc = .w1c || f.acc = .wo)

/-- The self-check of a port's Harrow, each pipe alone (R447, R448): what it finds is the hardware's own condition (log 41). A Harrow both of whose pipes pass
is whole again (log 53). -/
def State.harrowCheck (s : State) (n : Nat) : State :=
  let r := Config.selfCheck s.draws % 4
  let s := { s with draws := s.draws + 1 }
  let single := s.rd telB F.FLT_PORTS_HARROW_SINGLE
  let bypass := s.rd telB F.FLT_PORTS_HARROW_BYPASS
  let s := (s.wr telB F.FLT_PORTS_HARROW_SINGLE (setBit single n (r = 1 ∨ r = 2))).wr telB F.FLT_PORTS_HARROW_BYPASS (setBit bypass n (r = 3))
  let s := s.wr collB F.HARROW_FAILED (b2n (r ≠ 0)) n
  if r = 1 ∨ r = 2 then s.err 0x08 2 ⟨5, 0, n⟩ {} (r - 1) 0 else s

/-- Enabled ports look for their neighbours (R278, Table 15-1). -/
def State.startPorts (s : State) : State :=
  (List.range 12).foldl (fun s n =>
    if s.pst n = pDISABLED && s.rdB (portB n) F.PORT_CTL_ENABLE && s.rd (portB n) F.PORT_CFG_MODE ≠ 0 then s.waitSignal n else s) s

def State.fabricRelease (s : State) : State := ({ s with boot.fabricDom := .run }).startPorts

/-! ### Starting a reset (R412, R414, R415) -/

/-- What a DOMAIN_RESET record says of the place. -/
def RstTarget.loc (t : RstTarget) : Loc :=
  match RstTarget.code t with
  | 1 | 2 => locSlot (RstTarget.core t)
  | 3 => ⟨4, RstTarget.plotNo t, 0⟩
  | 5 => ⟨10, 0, 0⟩
  | _ => ⟨0, 0, 0⟩

/-- The source of a reset by its bit of RST_CAUSE. -/
structure Source where
  bit : Nat
  field : Field

def srcSoftware : Source := ⟨2, F.RST_CAUSE_SOFTWARE⟩
def srcRemote : Source := ⟨6, F.RST_CAUSE_REMOTE⟩
def srcWatchdog : Source := ⟨3, F.RST_CAUSE_WATCHDOG⟩

/-- A new nonce of the hardware generator (R428). -/
def State.newNonce (s : State) : State :=
  let s := { s with hay.seq := s.hay.seq + 1 }
  (List.range 4).foldl (fun s i => s.wr hayB F.HW_NONCE_NONCE (bits (Config.nonce s.hay.seq).toNat (64 * i) 64) i) s

/-- RST_CAUSE and RST_COUNT (R408). -/
def keptByModule (key : Nat) : Bool := key / 64 = rstB || key / 64 = rstB + 0x28

/-- A module reset (R409, R419): everything but RST_CAUSE and RST_COUNT; the fuses are read again. The bytes of the memories wait for the start-up fills. RESET_L
is driven low until the start-up sequence begins. `keep` tells which registers stay. -/
def State.resetAll (s : State) (keep : Nat → Bool) : State :=
  let t := s.allLinksDown
  let said := fun p : PortSt => ({ sent := p.sent } : PortSt)
  let fresh : State := State.reset
  ({ fresh with
    pending := s.pending, draws := s.draws, fuses := s.fuses, mem := s.mem
    csr := s.csr.keep keep
    fab := { ports := t.fab.ports.map (fun e : Nat × PortSt => (e.1, said e.2)) }
    hay := { seq := s.hay.seq, burn := s.hay.burn }
    boot := { pinReset := false, pinPwrGood := s.boot.pinPwrGood, pinTherm := s.boot.pinTherm, thermalHold := s.boot.thermalHold, powerOn := s.boot.powerOn }
    obs := { jtag := s.obs.jtag, scanCells := s.obs.scanCells, i3cAddr := s.obs.i3cAddr } }).newNonce

def State.moduleReset (s : State) (cause : Field) : State := (s.resetAll keptByModule).wr rstB cause 1

/-- Power-on reset: RST_CAUSE and RST_COUNT too take their reset values (R408, R412), and of the state only the fuses outlive the power (R2, R483). A burn that
the power cuts short programs nothing (log 131). -/
def State.powerReset (s : State) : State :=
  let said := fun p : PortSt => ({ sent := p.sent } : PortSt)
  let fresh : State := State.reset
  ({ fresh with
    pending := s.pending, draws := s.draws, fuses := s.fuses
    fab := { ports := s.fab.ports.map (fun e : Nat × PortSt => (e.1, said e.2)) }
    hay := { seq := s.hay.seq }
    boot := { pinReset := false, pinPwrGood := s.boot.pinPwrGood, powerOn := true } }).newNonce

/-- A Steward reset: the request in hand is lost, and the boot slot is read again (R409). -/
def State.stewardReset (s : State) (hold : Bool) : State :=
  let s := { s with boot.stewardDom := .clearing hold false, boot.wdogCount := 0, boot.unload := none }
  s.wr rstB F.LOADER_STAT_BUSY 0

/-- Start a reset of a target. A contained reset is absorbed. -/
def State.startReset (s : State) (t : RstTarget) (src : Source) (hold : Bool) : State :=
  let note := fun s : State => s.err 0x12 0 (RstTarget.loc t) {} (RstTarget.code t) (2 ^ src.bit)
  let now := Dom.isolating s.fieldCount hold false
  match RstTarget.code t with
  | 1 => (note (s.stopCore (RstTarget.core t))).setDom t now
  | 2 => ((note (s.stopCluster (RstTarget.core t))).setDom t now).modSlot (RstTarget.core t) (fun x => { x with coreDom := .run })
  | 3 =>
    let p := RstTarget.plotNo t
    (slotsOf p).foldl (fun s k => s.modSlot k (fun x => { x with coreDom := .run, clusterDom := .run })) ((note (s.stopPlot p)).setDom t now)
  | 4 =>
    if s.rdB rstB F.RST_CFG_FABRIC_DRAIN then { note s with boot.fabricDom := now } else (note s).fabricStop hold false
  | 5 => (note s).stewardReset hold
  | _ => s.moduleReset src.field

/-- Who may reach RST_CTL, and as which source (R412, R414): the Steward, a fabric-manager host, the management path, another module's Steward. -/
def State.rstSource (s : State) (who : Requester) : Option Source :=
  match who with
  | .steward => some srcSoftware
  | .peerSteward => some srcRemote
  | .management => some srcRemote
  | .host h => if tb (s.rd hostB F.GATE_CFG_FM_HOSTS) h.val then some srcRemote else none
  | .dataMover _ => none
  | .core _ => none

/-- The DOMAIN, PLOT and SLOT fields of an RST_CTL write. -/
def State.rstFields (s : State) (t : RstTarget) : State :=
  ((s.wr rstB F.RST_CTL_DOMAIN (RstTarget.code t)).wr rstB F.RST_CTL_PLOT (RstTarget.plotNo t)).wr rstB F.RST_CTL_SLOT (RstTarget.slotNo t)

/-- An RST_CTL write of someone without the right to it changes nothing; a host's is counted as refused (R377). -/
def State.rstAs (s : State) (who : Requester) (f : Source → State → State) : State :=
  match s.rstSource who, who with
  | some src, _ => f src s
  | none, .host _ => s.hostDenied
  | none, _ => s

/-- A request to reset, with or without HOLD (R414, R418). -/
def State.rstRequest (s : State) (t : RstTarget) (src : Source) (confirm : BitVec 8) (hold : Bool) : State :=
  let d := s.dom t
  if !s.targetOk t || s.insideReset t || (RstTarget.code t = 6 && confirm ≠ 0xA5) then s.refused
  else
    match d, hold with
    | .run, _ => (s.rstFields t).startReset t src hold
    | .isolating a _ true, true => (s.rstFields t).setDom t (.isolating a true false)
    | .clearing _ true, true => (s.rstFields t).setDom t (.clearing true false)
    | _, _ => s.refused

/-- RST_CTL.GO. -/
def execRstGo (who : Requester) (target : RstTarget) (confirm : BitVec 8) (s : State) : Out :=
  .next (s.rstAs who (fun src s => s.rstRequest target src confirm false))

/-- RST_CTL.HOLD. -/
def execRstHold (who : Requester) (target : RstTarget) (confirm : BitVec 8) (s : State) : Out :=
  .next (s.rstAs who (fun src s => s.rstRequest target src confirm true))

/-- RST_CTL.RELEASE (R418): a held domain is released at the next boundary, the fabric domain at once; a hold under way latches the release. A module
request carries no CONFIRM here and is refused. -/
def execRstRelease (who : Requester) (target : RstTarget) (s : State) : Out :=
  .next (s.rstAs who (fun _ s =>
    if !s.targetOk target || s.insideReset target || RstTarget.code target = 6 then s.refused
    else
      let s := s.rstFields target
      match s.dom target with
      | .held =>
        if RstTarget.code target = 4 then s.fabricRelease
        else s.setDom target .cleared
      | .isolating a true _ => s.setDom target (.isolating a true true)
      | .clearing true _ => s.setDom target (.clearing true true)
      | _ => s))

/-! ### The steps of a plot, cluster or core reset (R415, R418) -/

/-- After 4,096 clk of ISOLATING, or once nothing is outstanding, clearing begins; what is outstanding then is abandoned. -/
def execIsolationTimeout (target : RstTarget) (s : State) : Out :=
  .next (
    match s.dom target with
    | .isolating since hold release =>
      if (RstTarget.code target = 1 || RstTarget.code target = 2 || RstTarget.code target = 3) && (since + 4096 ≤ s.fieldCount || s.domQuiet target) then
        s.setDom target (.clearing hold release)
      else s
    | _ => s)

/-- Where a domain stands once it is clear. -/
def Dom.afterClear (hold release : Bool) : Dom := if release then .run else if hold then .held else .cleared

/-- DOMAIN_CLEAR_DONE. -/
def execDomainClearDone (target : RstTarget) (s : State) : Out :=
  .next (
    match s.dom target with
    | .clearing hold release =>
      let count := fun s : State => s.wrapAdd rstB F.RST_COUNT_DOMAIN_RESETS 1
      match RstTarget.code target with
      | 1 => count ((s.clearCore (RstTarget.core target)).setDom target (Dom.afterClear hold release))
      | 2 => count ((s.clearCluster (RstTarget.core target)).setDom target (Dom.afterClear hold release))
      | 3 => count ((s.clearPlot (RstTarget.plotNo target)).setDom target (Dom.afterClear hold release))
      | _ => s
    | _ => s)

/-! ### The steps of a fabric reset (R416) -/

/-- Every port is empty: the stop. -/
def execFabricDrainDone (s : State) : Out :=
  .next (
    match s.boot.fabricDom with
    | .isolating _ hold release => if (List.range 12).all (fun n => s.heldFrames n = 0) then s.fabricStop hold release else s
    | _ => s)

/-- DRAIN_LIMIT clk have passed: frames still held are discarded, each counted, and an error record is written. -/
def execFabricDrainLimit (s : State) : Out :=
  .next (
    match s.boot.fabricDom with
    | .isolating since hold release =>
      if since + s.rd rstB F.RST_CFG_DRAIN_LIMIT ≤ s.fieldCount then
        let held := (List.range 12).foldl (fun n p => n + s.heldFrames p) 0
        let s := if held = 0 then s else (s.satAdd rstB F.RST_COUNT_WRAPPED held).err 0x12 0 {} {} 4 0
        s.fabricStop hold release
      else s
    | _ => s)

/-- Clearing ends: the ports start again from WAIT_SIGNAL, unless the domain is held. -/
def execFabricClearDone (s : State) : Out :=
  .next (
    match s.boot.fabricDom with
    | .clearing hold release =>
      let failed := (List.range 12).filter (fun n => s.rdB collB F.HARROW_FAILED n)
      let s := { s with csr := s.csr.keep (fun k => !fabricCleared k) }
      let s := failed.foldl State.harrowCheck s
      let s := (List.range 12).foldl (fun s n => s.wr (portB n) F.PT_TEST_TEST_EN 0 ) s
      let s := s.wrapAdd rstB F.RST_COUNT_DOMAIN_RESETS 1
      if hold && !release then { s with boot.fabricDom := .held } else s.fabricRelease
    | _ => s)

/-! ### Sources outside RST_CTL (R412, R413, R419, R483, R487) -/

/-- RESET_L low from outside: a pulse of 100 ns or more. -/
def execResetLPulse (ns : Nat) (s : State) : Out := .next (if 100 ≤ ns then s.moduleReset F.RST_CAUSE_RESET_L else s)

/-- PWR_GOOD low. -/
def execPwrGoodLow (s : State) : Out := .next { s.powerReset with boot.pinPwrGood := false }

/-- The input has been below 44 V too long: the rails stop, with the effect of PWR_GOOD low. -/
def execRailsStop (s : State) : Out := .next s.powerReset

/-- The reference clock is lost, with the effect of PWR_GOOD low. -/
def execRefclkLoss (s : State) : Out := .next s.powerReset

/-- Power-on reset ends; RESET_L stays low until the start-up sequence begins (R419, R483). -/
def execPwrGoodHigh (s : State) : Out := .next { s with boot.pinPwrGood := true, boot.powerOn := false }

/-- The watchdog count has reached PASSES (R413): the Steward domain is reset, or the module where ESCALATE is 1 and the first expiry is near. -/
def execWatchdogExpiry (s : State) : Out :=
  .next (
    let n := s.rd rstB F.WDOG_CFG_PASSES
    if n = 0 || s.boot.wdogCount < n || !s.firstPass || s.boot.stewardDom ≠ .run then s
    else
      let s := s.satAdd rstB F.RST_COUNT_WDOG_EXPIRIES 1
      let near := s.boot.wdogFirst.any (fun p => decide (s.passIdx ≤ p + 4 * n))
      if s.rdB rstB F.WDOG_CFG_ESCALATE && near then s.moduleReset F.RST_CAUSE_WATCHDOG
      else
        let now := s.passIdx
        ({ s with boot.wdogFirst := some now }).startReset ⟨5, 0, 0⟩ srcWatchdog false)

/-- WDOG_KICK.KICK; discarded from anyone but the Steward. -/
def execWdogKick (who : Requester) (s : State) : Out := .next (if who = .steward then { s with boot.wdogCount := 0 } else s)

/-- A double-bit error in critical state (R412): a record, and a module reset with CRIT_UNIT. -/
def State.critical (s : State) (unit word : Nat) : State :=
  ((s.err 0x18 3 {} {} unit word).moduleReset F.RST_CAUSE_CRITICAL).wr rstB F.RST_CAUSE_CRIT_UNIT unit
def execCriticalError (unit : BitVec 8) (word : BitVec 32) (s : State) : Out := .next (s.critical unit.toNat word.toNat)

end Sys2Proof.Machine
end

