-- ==== Sys2Proof/Machine/Boot.lean ====
section
/-! DEFINITION. Start-up (R391 to R400): the option block and its checks, the fills, the boot image, the Steward's initialisation, and how the module becomes a root
or reports a long holdover. -/

namespace Sys2Proof.Machine

/-- BOOT_STAT.STATE. -/
def State.bootState (s : State) : Nat := s.rd rstB F.BOOT_STAT_STATE
def State.setBoot (s : State) (v : Nat) : State := s.wr rstB F.BOOT_STAT_STATE v

/-- Start-up stops in FAILED: every port stays DISABLED, no core is released and the Steward is halted (R397). -/
def State.bootFail (s : State) (code : Nat) : State :=
  let s := ({ s.setBoot 0xF with boot.stewardOk := false }).wr rstB F.BOOT_STAT_FAIL_CODE code
  (List.range 12).foldl (fun s n => (s.setPst n pDISABLED).setPort n { sent := (s.port n).sent }) s

/-! ### The option block (R398, R400) -/

/-- `w` bits from bit `lo` of the byte at `a` of a block. -/
def optField (bs : List Byte) (a lo w : Nat) : Nat := bits (num bs a 8) lo w

/-- PASS_LEN keeps R39. -/
def passLenOk (v : Nat) : Bool := 750 ≤ v && v ≤ 24000 && v % 250 = 0

/-- Reserved bytes and bits that are not zero: their offsets (Table 15-5, Table 15-6). -/
def optReserved (bs : List Byte) : List Nat :=
  let bytes := [6, 7, 0x0D, 0x0E, 0x0F, 0x1A, 0x1B, 0x1F, 0x24, 0x25, 0x26, 0x27] ++ (List.range 152).map (· + 0x68)
  let part : List (Nat × Nat × Nat) := [(0x17, 1, 7), (0x19, 4, 3)] ++ (List.range 12).map (fun n => (0x29 + 2 * n, 2, 6)) ++
    (List.range 6).flatMap (fun a => [(0x41 + 4 * a, 7, 1), (0x42 + 4 * a, 0, 8), (0x43 + 4 * a, 3, 5)])
  bytes.filter (fun a => num bs a 1 ≠ 0) ++ (part.filter (fun f => optField bs f.1 f.2.1 f.2.2 ≠ 0)).map (·.1)

/-- PORT_n of a block: mode, FEC, PMD, axis, sign. -/
structure OptPort where
  mode : Nat
  fec : Nat
  pmd : Nat
  axis : Nat
  sign : Nat
deriving DecidableEq, Repr

def optPortOf (bs : List Byte) (n : Nat) : OptPort :=
  let f := fun lo w => optField bs (0x28 + 2 * n) lo w
  { mode := f 0 2, fec := f 2 1, pmd := f 3 2, axis := f 5 3, sign := f 8 1 }

/-- AXIS_a of a block or a register: LSB, WIDTH, WRAP, LENGTH, ROLE. -/
structure AxisCfg where
  lsb : Nat
  width : Nat
  length : Nat
  role : Nat
deriving DecidableEq, Repr

def axisOf (bs : List Byte) (a : Nat) : AxisCfg :=
  let f := fun lo w => optField bs (0x40 + 4 * a) lo w
  { lsb := f 0 4, width := f 4 3, length := f 8 7, role := f 24 3 }

/-- One axis by itself (Table 15-7); an axis with WIDTH 0 is unused. -/
def axisOk (x : AxisCfg) : Bool :=
  x.width ≤ 6 && x.role ≠ 5 && x.role ≠ 6 &&
  (x.width = 0 || (1 ≤ x.length && x.length ≤ 64 && x.length ≤ 2 ^ x.width && x.lsb + x.width ≤ 16))

/-- Two used axes share a bit (R294). -/
def axesClash (x y : AxisCfg) : Bool := x.width ≠ 0 && y.width ≠ 0 && decide (x.lsb < y.lsb + y.width) && decide (y.lsb < x.lsb + x.width)

/-- Axes of a list that break R294, by index: by themselves, or with a later one. -/
def badAxes (xs : List AxisCfg) : List Nat :=
  let ix := xs.zipIdx
  (ix.filter (fun e => !axisOk e.1 || ix.any (fun f => decide (e.2 < f.2) && axesClash e.1 f.1))).map (·.2)

/-- One port by itself (Table 15-7). -/
def optPortOk (p : OptPort) : Bool := p.mode ≠ 3 && p.pmd ≠ 3 && !(p.fec = 0 && p.pmd = 2) && p.axis < 6

/-- Ports of a list that break R285 or name an unused axis, by index. -/
def badTeams (ps : List OptPort) (xs : List AxisCfg) : List Nat :=
  let ix := ps.zipIdx
  let fab := ix.filter (fun e => e.1.mode = 1)
  let gates := ix.filter (fun e => e.1.mode = 2)
  let crowded := fun e : OptPort × Nat => 4 < (fab.filter (fun f => f.1.axis = e.1.axis && f.1.sign = e.1.sign)).length
  let unused := fun e : OptPort × Nat => (xs.getD e.1.axis ⟨0, 0, 0, 0⟩).width = 0
  (fab.filter (fun e => crowded e || unused e)).map (·.2) ++ (if 1 < gates.length then gates.map (·.2) else [])

/-- Offsets of the fields that fail a check of Table 15-7, the lowest one of each check included. -/
def optFails (bs : List Byte) : List Nat :=
  let one := fun (a lo w low high : Nat) => if optField bs a lo w < low ∨ high < optField bs a lo w then [a] else []
  let ps := (List.range 12).map (optPortOf bs)
  let xs := (List.range 6).map (axisOf bs)
  let credits := (List.range 8).map (fun v => optField bs (0x58 + 2 * v) 0 16)
  optReserved bs ++ (if passLenOk (optField bs 0x12 0 16) then [] else [0x12]) ++
  one 0x14 0 8 12 63 ++ one 0x15 0 8 1 15 ++ one 0x16 0 8 1 0x20 ++ one 0x22 0 8 1 64 ++ one 0x23 0 8 12 24 ++ one 0x1E 0 8 0 8 ++
  (if ps.any (fun p => p.mode = 2) && optField bs 0x10 0 16 ≠ optField bs 0x1C 0 16 then [0x10] else []) ++
  (ps.zipIdx.filter (fun e => !optPortOk e.1)).map (fun e => 0x28 + 2 * e.2) ++ (badTeams ps xs).map (fun n => 0x28 + 2 * n) ++
  (badAxes xs).map (fun a => 0x40 + 4 * a) ++
  (credits.zipIdx.filter (fun e => 0x1000 < e.1)).map (fun e => 0x58 + 2 * e.2) ++ (if 4096 < credits.foldl (· + ·) 0 then [0x58] else [])

/-- Hayward accepts the key of an option block (R422). -/
def State.optKeyOk (s : State) (h : BitVec 384) : Bool :=
  let site := s.fuses.siteOptHash ≠ 0 && h = s.fuses.siteOptHash
  if s.fuses.siteOnly then site else h = s.fuses.rootHash || site

/-- The option signature record verifies (R394). -/
def State.optSigOk (s : State) (block rec : List Byte) : Bool :=
  let key := sub rec 0 97
  (sub rec 0x61 7).all (· = 0) && s.optKeyOk (sha384 key) && ecdsaVerify key (sha384 block) (sub rec 0x68 96)

/-- Only the bytes that differ from the shipped block are listed. -/
def optTable (block : List Byte) : SMap Byte :=
  block.zipIdx.foldl (fun m e => if e.1 = shipOpt e.2 then m else m.insert e.2 e.1) []

/-- BOOT_START: RESET_L is released with PWR_GOOD and the reference clock; the fuses are read. A thermal hold keeps the module in reset (R412). -/
def execBootStart (s : State) : Out :=
  .next (
    if s.bootState = 0 && !s.boot.powerOn && s.boot.pinPwrGood && !s.boot.thermalHold then { s.setBoot 1 with boot.pinReset := true } else s)

/-- OPTION_BLOCK_VERIFIED: the block with its signature record, as read from the flash; `flashOk` says that the flash answered. -/
def execOptionBlockVerified (flashOk : Bool) (block : List Byte) (sig : List Byte) (s : State) : Out :=
  .next (
    let bs := sub block 0 256
    if s.bootState ≠ 1 then s
    else if !flashOk then s.bootFail 1
    else if num bs 0 4 ≠ 0x5450_4F4B ∨ num bs 4 2 ≠ 1 then s.bootFail 2
    else if !s.optSigOk bs sig then s.bootFail 3
    else
      match optFails bs with
      | a :: t => (s.bootFail 4).wr rstB F.BOOT_STAT_OPT_OFFSET (t.foldl min a)
      | [] =>
        let s := { s with opt := optTable bs, boot.optOk := true, boot.optKey := sha384 (sub sig 0 97) }
        ((s.setBoot 2).wr barnB F.BARN_STAT_STATE 1).startPorts)

/-! ### Fills, image, Steward (R214, R246, R395 to R397) -/

/-- Once the Steward is initialised and both fills are complete, the time state leaves FREE (R392). -/
def State.bootAdvance (s : State) : State :=
  if s.bootState = 4 && s.timeFree then ((s.setBoot 5).chooseRoot).judgeAll else s

/-- GRANARY_FILL_DONE: zero data and valid checks in every active plot; `spareFails` names the plots whose idle spare failed its self-test, which is then retired
(R445). -/
def execGranaryFillDone (spareFails : BitVec 32) (s : State) : Out :=
  .next (
    if s.bootState < 2 || s.bootState = 0xF || s.boot.granFilled then s
    else
      let s := { s with mem := s.mem.keep (fun a => 0x0001_0000_0000 ≤ a), mx.granBad := [], boot.granFilled := true }
      let s := (List.range 32).foldl (fun s p =>
        if spareFails.getLsbD p && !s.fallowPlot p then (s.wr 0 F.PLOT_MAP_SPARE_RETIRED 1 p).err 0x06 2 ⟨1, p, 16⟩ {} 0xFF 1 else s) s
      s.bootAdvance)

/-- The slot to be read: the one that BOOT_SLOT names, or the other once that one was found invalid (R396). -/
def State.slotDue (s : State) : Bool :=
  let first := decide (s.optBits 0x0C 0 8 = 1)
  let bad := fun b : Bool => if b then s.rdB rstB F.BOOT_STAT_SLOT_B_BAD else s.rdB rstB F.BOOT_STAT_SLOT_A_BAD
  if bad first then !first else first

/-- A boot image is valid (R395, R422). -/
def State.imageOk (s : State) (img : List Byte) : Bool :=
  let n := num img 8 4
  let key := sub img 0x80 97
  num img 0 4 = 0x4254_5550 && num img 4 2 = 1 && n ≤ 0x01F0_0000 - 512 && 512 + n ≤ img.length &&
  (sha384 (sub img 512 n)).toNat = num img 0x20 48 &&
  sha384 key = s.fuses.rootHash && ecdsaVerify key (sha384 (sub img 0 256)) (sub img 0x100 96) &&
  s.fuses.svnFloor ≤ num img 0x0C 4

/-- BOOT_IMAGE_VERIFIED: the slot read and its bytes. A valid image releases the Steward, at start-up or at the end of a Steward reset; two invalid ones end
start-up in FAILED. -/
def execBootImageVerified (slotB : Bool) (image : List Byte) (s : State) : Out :=
  .next (
    let again := match s.boot.stewardDom with | .clearing _ _ => true | _ => false
    if (s.bootState ≠ 2 && !again) || s.bootState = 0xF || slotB ≠ s.slotDue then s
    else if s.imageOk image then
      let s := (s.wr rstB F.BOOT_STAT_SLOT (b2n slotB))
      let s := { s with boot.imageSvn := num image 0x0C 4, boot.imageHdr := sub image 0 256 }
      match s.boot.stewardDom with
      | .clearing hold release =>
        let d := if hold && !release then Dom.held else Dom.run
        ({ s with boot.stewardDom := d }).wrapAdd rstB F.RST_COUNT_DOMAIN_RESETS 1
      | _ => s.setBoot 3
    else
      let s := if slotB then s.wr rstB F.BOOT_STAT_SLOT_B_BAD 1 else s.wr rstB F.BOOT_STAT_SLOT_A_BAD 1
      if s.rdB rstB F.BOOT_STAT_SLOT_A_BAD && s.rdB rstB F.BOOT_STAT_SLOT_B_BAD then s.bootFail 5 else s)

/-- BARN_FILL_DONE: `failed` names the packages that failed training; a single one is retired (R246). The end of the training and that of the fill are this one
row, so FILLING shows nowhere (log 129). -/
def execBarnFillDone (failed : BitVec 18) (s : State) : Out :=
  .next (
    if s.bootState < 2 || s.bootState = 0xF || s.boot.barnFilled then s
    else
      let ks := (List.range 18).filter (fun k => failed.getLsbD k)
      if 2 ≤ ks.length then s.bootFail 6
      else
        let s := { s with mem := s.mem.keep (fun a => a < 0x0080_0000_0000 || 0x0100_0000_0000 ≤ a), mx.barnBad := [], boot.barnFilled := true }
        let s := match ks with
          | k :: _ => s.retirePkg k
          | [] => s.wr barnB F.BARN_STAT_STATE 3
        s.bootAdvance)

/-- STEWARD_INIT_DONE: the firmware's initialisation has ended, or has reported a failure. -/
def execStewardInitDone (ok : Bool) (s : State) : Out :=
  .next (
    if s.bootState ≠ 3 then s
    else if !ok then s.bootFail 7
    else ({ s.setBoot 4 with boot.stewardOk := true }).bootAdvance)

/-- STEWARD_INIT_TIMEOUT: 400 ms after the Steward's release. -/
def execStewardInitTimeout (s : State) : Out := .next (if s.bootState = 3 then s.bootFail 7 else s)

/-! ### The time state at start-up and in holdover (R32, R35, R392) -/

/-- NO_NEIGHBOUR_TIMEOUT: 600 ms after release no port has heard a HELLO; the module becomes ROOT once it may leave FREE. -/
def execNoNeighbourTimeout (s : State) : Out :=
  .next (
    if s.timeFree && decide (s.rd seqB F.TIME_STAT_STATE = 0) && (List.range 12).all (fun n => !s.rdB (portB n) F.PORT_NBR_VALID) then
      s.becomeRoot.judgeAll
    else s)

/-- HOLDOVER_EXPIRY: more than 1,024 Passes at PASS_LEN 1,500 without a parent; the module stays in HOLDOVER. -/
def execHoldoverExpiry (s : State) : Out :=
  .next (
    match s.obs.holdoverSince with
    | some t =>
      if s.rd seqB F.TIME_STAT_STATE = 3 ∧ t + 1024 * 1500 < s.fieldCount then
        ({ s with obs.holdoverSince := none }).err 0x10 2 {} {} ((s.fieldCount - t) / s.passLen) (s.rd seqB F.TIME_STAT_PARENT_PORT)
      else s
    | none => s)

end Sys2Proof.Machine
end

