-- ==== Sys2Proof/Machine/RegView.lean ====
section
/-! DEFINITION. What a register read returns: the stored fields, and the fields that show other state (the RO columns of the register tables). -/

namespace Sys2Proof.Machine

/-- The value beside a field in a list. -/
def fieldIn (f : Field) (l : List (Field × Nat)) : Option Nat := (l.find? (fun e => e.1 = f)).map (·.2)

/-- A count that the hardware's timing decides (log 40). -/
def State.timed? (s : State) (base : Nat) (f : Field) (i bound : Nat) : Nat := Config.stallCount (fkey base f i) s.fieldCount % bound

def QEntry.fwd (q : QEntry) : Bool := q.desc.phase = 0

/-- The bit of every tile that a command in flight names (MAT_STAT.TILE_BUSY): one whose work is done accesses its tile no more, and a stale one never does
(R107). -/
def tileBusy (fs : List Flight) : Nat := (fs.filter (fun f => !f.done)).foldl (fun m f => m ||| 2 ^ f.q.desc.tile) 0
/-- The matrix engine streams body rows: the oldest command whose work is not done is an MMUL that no open extent holds (MAT_STAT.STREAMING). -/
def streaming (fs : List Flight) : Bool := (fs.find? (fun f => !f.done)).any (fun f => decide (f.q.desc.code = 0x20) && f.heldOn.isNone)

/-- CORE_STAT (R180). -/
def Core.statFields (c : Core) : List (Field × Nat) :=
  [(F.CORE_STAT_HALTED, b2n c.halted), (F.CORE_STAT_IN_FURROW, b2n c.inFurrow),
   (F.CORE_STAT_WAIT_PASS, match c.wait with | .pass _ _ => 1 | .fbegin _ => 1 | _ => 0),
   (F.CORE_STAT_WAIT_TOKEN, match c.wait with | .token _ _ => 1 | _ => 0),
   (F.CORE_STAT_WAIT_QUEUE, match c.wait with | .issue _ _ => 1 | _ => 0),
   (F.CORE_STAT_WAIT_FEND, match c.wait with | .fend => 1 | _ => 0),
   (F.CORE_STAT_REEXEC, b2n c.reexec), (F.CORE_STAT_BANK, b2n c.bank), (F.CORE_STAT_SLOT, c.slot), (F.CORE_STAT_PC, c.pc),
   (F.CORE_STAT_FURROW_ID, c.furrowId), (F.CORE_HALT_REASON, c.halt.reason), (F.CORE_HALT_SOURCE, c.halt.source),
   (F.CORE_HALT_BANK, b2n c.halt.bank), (F.CORE_HALT_ADDR, c.halt.addr), (F.CORE_HALT_FURROW_ID, c.halt.furrow),
   (F.CORE_HALT_CMD_CODE, c.halt.cmd), (F.CORE_HALT_TIME_STAMP, c.halt.time)]

/-- Computed fields of a cluster block. -/
def State.slotView (s : State) (k : CoreId) (f : Field) (i : Nat) : Option Nat :=
  let x := s.slot k
  let c := x.core
  let b := slotB k
  let n := fun (q : List QEntry) (fwd : Bool) => (q.filter (fun e => e.fwd == fwd)).length
  let run := x.vrun.or x.vtail.head?
  (fieldIn f c.statFields).or (fieldIn f
    [(F.CORE_GDATA_DATA, if c.halted then (s.g k (BitVec.ofNat 5 (s.rd b F.CORE_DBG_GSEL))).toNat else 0),
     (F.IM_STAT_ACTIVE, b2n x.active), (F.IM_STAT_SWITCH_PENDING, b2n x.switch.isSome), (F.IM_STAT_DRAINING, b2n x.draining),
     (F.IM_STAT_STARTED, b2n x.started), (F.IM_STAT_FETCHERS, x.fetchers), (F.IM_STAT_PENDING_ENTRY, x.switch.getD 0),
     (F.MAT_STAT_QUEUED, x.matQ.length), (F.MAT_STAT_IN_PIPE, x.matPipe.length), (F.MAT_STAT_TILE_BUSY, tileBusy x.matPipe),
     (F.MAT_STAT_STREAMING, b2n (streaming x.matPipe)),
     (F.VEC_STAT_QUEUED, x.vecQ.length), (F.VEC_STAT_BUSY, b2n run.isSome), (F.VEC_STAT_MODE, b2n (run.any (·.strict))),
     (F.VEC_STAT_BANK, b2n (run.any (·.bank))), (F.VEC_STAT_LANES, s.lanes k), (F.VEC_STAT_PC, (run.map (·.pc)).getD 0),
     (F.CMD_QSTAT_MAT_FWD, n x.matQ true), (F.CMD_QSTAT_MAT_BWD, n x.matQ false), (F.CMD_QSTAT_VEC_FWD, n x.vecQ true),
     (F.CMD_QSTAT_VEC_BWD, n x.vecQ false), (F.CMD_QSTAT_DM_FWD, n x.dmQ true), (F.CMD_QSTAT_DM_BWD, n x.dmQ false),
     (F.CMD_QSTAT_DM_INFLIGHT, x.dmPipe.length),
     (F.EPOCH_STAT_CUR, x.cur), (F.EPOCH_STAT_PREV, x.prev), (F.EPOCH_STAT_PREV_OPEN, b2n x.prevOpen),
     (F.EPOCH_STAT_ADV_PENDING, b2n x.advance.isSome), (F.EPOCH_STAT_PENDING_NEXT, x.advance.getD 0),
     (F.HELD_STAT_ENTRIES, x.held.length),
     (F.TOK_T0, s.tok k (4 * i)), (F.TOK_T1, s.tok k (4 * i + 1)), (F.TOK_T2, s.tok k (4 * i + 2)), (F.TOK_T3, s.tok k (4 * i + 3)),
     (F.WR_STAT_DEPTH, (x.stack i).ctop), (F.WR_STAT_RESIDENT, (x.stack i).shown)])

/-- Computed fields of a plot block. -/
def State.plotView (s : State) (p : Nat) (f : Field) (i : Nat) : Option Nat :=
  let u := s.bin ⟨Fin.ofNat 32 p, Fin.ofNat 8 i⟩
  let d := s.drill p
  let code := fun r : Option UnitRun => (r.map (·.p.desc.code)).getD 0
  fieldIn f
    [(F.BIN_STAT_QUEUED, u.queue.length), (F.BIN_STAT_BUSY, b2n u.run.isSome), (F.BIN_STAT_CODE, code u.run), (F.BIN_STAT_JOURNAL_USED, u.jused),
     (F.DRILL_STAT_QUEUED, d.queue.length), (F.DRILL_STAT_BUSY, b2n d.run.isSome), (F.DRILL_STAT_CODE, code d.run),
     (F.GLEAN_STAT_BUSY, b2n (s.glean p).req.isSome)]

/-- Computed fields of the Pass sequencer's block. -/
def State.seqView (s : State) (f : Field) : Option Nat :=
  fieldIn f
    [(F.PASS_CFG_BUDGET_CLK, s.budget), (F.PASS_CFG_EDGE_BUDGET, s.edgeBudget), (F.FIELD_COUNT_COUNT, s.stamp), (F.PASS_NUM_NUM, s.passNum),
     (F.PASS_PHASE_PHASE, s.phase), (F.PASS_PHASE_SLOT, s.phase / 25)]

/-- A snapshot is read in place of the live counters (R464). -/
def State.viewing (s : State) : Bool := s.rdB telB F.TEL_CTL_VIEW

/-- A counter that a snapshot copies: those of Table 19-1, and the port blocks' at 0x0100 to 0x01FF (R464). -/
def snapped (off : Nat) : Bool :=
  (telB + 0x200 ≤ off && off < telB + 0x428) || (portB 0 ≤ off && off < portB 12 && 0x100 ≤ off % 0x10000 && off % 0x10000 < 0x200)

/-- Computed fields of a port's block. -/
def State.portView (s : State) (n : Nat) (f : Field) : Option Nat :=
  let a := s.rd (portB n) F.PORT_CFG_AXIS
  let g := s.rd (portB n) F.PORT_CFG_SIGN
  let fabric := decide (s.rd (portB n) F.PORT_CFG_MODE = 1)
  fieldIn f
    [(F.PORT_STAT_TEAM_UP, if fabric then (s.upMembers a g).length else 0), (F.PORT_STAT_TEAM_SIZE, if fabric then (s.team a g).length else 0)]

/-- DIR_STAT: bit 2a + s of UP, and of LOST (R319, R322). A direction has team members once the option block is in force. -/
def State.dirBits (s : State) (lost : Bool) : Nat :=
  if lost && decide (s.rd rstB F.BOOT_STAT_STATE < 2) then 0 else
  (List.range 12).foldl (fun m d =>
    let up := !(s.upMembers (d / 2) (d % 2)).isEmpty
    if (if lost then !up && !(s.team (d / 2) (d % 2)).isEmpty else up) then m ||| 2 ^ d else m) 0

/-- Computed fields of the routing block. -/
def State.routeView (s : State) (f : Field) (i : Nat) : Option Nat :=
  fieldIn f
    [(F.ROUTE_MATCH_FIELD_MASK, s.fieldMask), (F.DIR_STAT_UP, s.dirBits false), (F.DIR_STAT_LOST, s.dirBits true),
     (F.PEER_STAT_PEERS, s.fab.peers.length), (F.PEER_STAT_STREAMS_RX, s.fab.streamsRx.length), (F.AXIS_POS, s.posOf s.device i)]

/-- STATE of a channel (R355): aborted, a bind that waits, line mode, operations, or idle. -/
def Chan.stateCode (c : Chan) : Nat :=
  if c.aborted then 3
  else if c.cleared then 0
  else if c.ops.any (fun o => o.code = 0x1F) then 2
  else if c.ops.any (fun o => o.line && o.ring) then 4
  else if c.ops = [] then 0
  else 1

/-- Computed fields of the collective block. -/
def State.collView (s : State) (f : Field) (i : Nat) : Option Nat :=
  let c := s.chan i
  let ops := s.allOps
  fieldIn f
    [(F.COLL_STAT_OPS, ops.length), (F.COLL_STAT_ABORTED, (s.coll.chans.filter (fun e => e.2.aborted)).length),
     (F.COLL_STAT_LINE_OPS, (ops.filter (fun o => o.2.line && o.2.ring)).length),
     (F.CHAN_CFG_AXIS, c.axis), (F.CHAN_CFG_BOUND, b2n c.bound), (F.CHAN_CFG_STATE, c.stateCode), (F.CHAN_CFG_OPS, c.ops.length),
     (F.CHAN_CFG_NEXT_SEQ, c.next), (F.BUF_BUSY, (ops.filter (fun o => o.2.desc.cBuf = i)).length)]

/-- Computed fields of the host queue manager's block. -/
def State.hostView (s : State) (f : Field) (i : Nat) : Option Nat :=
  fieldIn f
    [(F.GATE_STAT_IS_GATE, b2n s.isGate), (F.QM_STAT_INFLIGHT, s.entriesInFlight), (F.QM_STAT_MREADS, s.mreads), (F.QM_STAT_POSTED, s.host.posted.length),
     (F.QP_STAT_INFLIGHT, (s.qp i).entries.length)]

/-- The hash in a key slot, if the slot is valid: slots 0 and 1 are fuses (R421, R424). -/
def State.keyHash (s : State) (i : Nat) : Option (BitVec 384) :=
  if i = 0 then (if s.fuses.ownerHash = 0 then none else some s.fuses.ownerHash)
  else if i = 1 then (if s.fuses.custodianHash = 0 then none else some s.fuses.custodianHash)
  else s.hay.keys.find? i

/-- Computed fields of Hayward's block. -/
def State.hayView (s : State) (f : Field) (i : Nat) : Option Nat :=
  fieldIn f
    [(F.HW_STAT_VERIFYING, b2n s.hay.verifying.isSome), (F.HW_STAT_PENDING, s.hay.pendingRecs.length), (F.ATT_CTL_BUSY, b2n s.hay.attesting),
     (F.KEY_INFO_VALID, b2n (s.keyHash i).isSome), (F.KEY_INFO_KEY_ID, ((s.keyHash i).map keyId).getD 0)]

/-- The bits of RST_SLOT_p for which a test on a slot's two domains holds. -/
def State.slotBits (s : State) (p : Nat) (t : Dom → Bool) : Nat :=
  (slotsOf p).foldl (fun m k => if t (s.slot k).clusterDom || t (s.slot k).coreDom then m ||| 2 ^ k.slot.val else m) 0

def Dom.busy : Dom → Bool
  | .isolating _ _ _ => true
  | .clearing _ _ => true
  | .cleared => true
  | _ => false
def Dom.latched : Dom → Bool
  | .isolating _ _ r => r
  | .clearing _ r => r
  | _ => false

/-- Computed fields of the reset block. -/
def State.rstView (s : State) (f : Field) (i : Nat) : Option Nat :=
  fieldIn f
    [(F.RST_STAT_FABRIC, s.boot.fabricDom.stateCode), (F.RST_STAT_STEWARD, s.boot.stewardDom.stateCode), (F.RST_STAT_PIN, b2n s.boot.pinReset),
     (F.RST_PLOT_STATE, (s.boot.plotDoms.get Dom.run i).stateCode), (F.RST_SLOT_BUSY, s.slotBits i Dom.busy),
     (F.RST_SLOT_HELD, s.slotBits i (fun d => decide (d = .held))), (F.RST_SLOT_PENDING, s.slotBits i Dom.latched)]

/-- Where the error-record ring begins: below the trace region at the Barn's end (R399). -/
def State.traceBase (s : State) : Nat := 0x0100_0000_0000 - s.optBits 0x22 0 8 * 0x4000_0000
def State.errBase (s : State) : Nat := s.traceBase - 64 * 2 ^ s.rd telB F.ERR_RING_SIZE_LOG2

/-- The slots of a partition's plots. -/
def State.partSlots (s : State) (q : Nat) : List CoreId :=
  (List.range 32).flatMap (fun p => if tb (s.rd hayB F.PART_PLOTS q) p then slotsOf p else [])

/-- Everything in a stopped partition has drained (R476). -/
def State.drained (s : State) (q : Nat) : Bool :=
  (s.partSlots q).all (fun k =>
    let x := s.slot k
    x.matQ = [] && x.vecQ = [] && x.dmQ = [] && x.matPipe = [] && x.dmPipe = [] && x.vrun.isNone && x.vtail = []) &&
  (List.range 32).all (fun p =>
    !tb (s.rd hayB F.PART_PLOTS q) p || ((s.drill p).run.isNone && (List.range 8).all (fun u => (s.bins.get {} (p * 8 + u)).run.isNone)))

/-- Computed fields of the telemetry block. -/
def State.telView (s : State) (f : Field) : Option Nat :=
  let q := s.rd telB F.DBG_STOP_PART
  fieldIn f
    [(F.ERR_RING_BASE, s.errBase / 64), (F.TRACE_STAT_QUEUED, s.obs.traceQ.length),
     (F.DBG_STAT_ARMED, b2n (s.obs.dbgArm.isSome || s.obs.dbgReq)), (F.DBG_STAT_DRAINED, b2n (s.rdB telB F.DBG_STAT_STOPPED && s.drained q)),
     (F.DBG_STAT_HALTED, ((s.partSlots q).filter (fun k => (s.logicalOf k).isSome && (s.core k).halted)).length)]

/-- Computed fields of the Barn controller's block: what waits in its queues is timing (log 40), and nothing does before the Barn serves requests. -/
def State.barnView (s : State) (f : Field) : Option Nat :=
  fieldIn f
    [(F.BARN_QSTAT_READS, if s.boot.barnFilled then s.timed? barnB f 0 257 else 0),
     (F.BARN_QSTAT_WRITES, if s.boot.barnFilled then s.timed? barnB f 0 257 else 0)]

/-- The slot whose block begins at a base. -/
def slotAtBase (base : Nat) : CoreId := coreAt ((base - 0x10000000) / 0x1800000) ((base - 0x10000000) % 0x1800000 / 0x100000 - 1)

/-- The computed value of a field, where it has one. -/
def State.computed (s : State) (base : Nat) (f : Field) (i : Nat) : Option Nat :=
  if 0x10000000 ≤ base then
    if (base - 0x10000000) % 0x1800000 = 0 then s.plotView ((base - 0x10000000) / 0x1800000) f i else s.slotView (slotAtBase base) f i
  else if base = seqB then s.seqView f
  else if portB 0 ≤ base && base < portB 12 then s.portView ((base - portB 0) / 0x10000) f
  else if base = routeB then s.routeView f i
  else if base = collB then s.collView f i
  else if base = hostB then s.hostView f i
  else if base = hayB then s.hayView f i
  else if base = telB then s.telView f
  else if base = rstB then s.rstView f i
  else if base = barnB then s.barnView f
  else none

/-- What a read of a field returns: a write-only field reads zero (Table 0-5). -/
def State.view (s : State) (base : Nat) (f : Field) (i : Nat) : Nat :=
  if f.acc = .wo then 0
  else if s.viewing && snapped (fkey base f i / 64) then s.obs.snap.get 0 (fkey base f i)
  else (s.computed base f i).getD (s.rd base f i)

/-- A register's 64 bits: reserved bits read zero (R13). -/
def State.regValue (s : State) (base : Nat) (r : Reg) (i : Nat) : Nat :=
  r.fields.foldl (fun v f => v ||| ((s.view base f i % 2 ^ f.w) <<< f.lo)) 0

/-- The 64 bits at a CSR offset; a place in a block that holds no register reads zero (R13, R255). -/
def State.csrValue (s : State) (off : Nat) : Nat :=
  match blockAt off with
  | none => 0
  | some b => match regIn b.2 (off - b.1) with | some r => s.regValue b.1 r.1 r.2 | none => 0

end Sys2Proof.Machine
end

