-- ==== Sys2Proof/Machine/Hayward.lean ====
section
/-! DEFINITION. Hayward (chapter 17): change records from submission to application, the zero fills of joining plots and new Barn extents, and attestation. -/

namespace Sys2Proof.Machine

/-! ### A change record (R429) -/

/-- An item of Table 17-4. -/
structure Item where
  no : Nat
  kind : Nat
  off : Nat
  value : Nat
  mask : Nat
deriving DecidableEq, Repr

def recItems (r : List Byte) : Nat := num r 6 2
/-- Key slot of the tenant named; none for 0xFF. -/
def recTenant (r : List Byte) : Option Nat := if num r 0x0A 1 = 0xFF then none else some (num r 0x0A 1)
def recLen (items : Nat) : Nat := 64 + 24 * items + 416
def itemsOf (r : List Byte) : List Item :=
  (List.range (recItems r)).map (fun i =>
    let a := 0x40 + 24 * i
    { no := i, kind := num r a 1, off := num r (a + 4) 4, value := num r (a + 8) 8, mask := num r (a + 0x10) 8 })
/-- A signature block. -/
def sigBlock (r : List Byte) (j : Nat) : List Byte := sub r (0x40 + 24 * recItems r + 208 * j) 208
def sigSlot (r : List Byte) (j : Nat) : Nat := num (sigBlock r j) 0 1
def sigKey (r : List Byte) (j : Nat) : List Byte := sub (sigBlock r j) 8 97

/-- FORMAT: a whole-record fault names no item. -/
def formatFails (r : List Byte) : Option Nat :=
  let n := recItems r
  let head := num r 0 4 = 0x4748_434B && num r 4 2 = 1 && decide (1 ≤ n) && decide (n ≤ 255) && num r 0x0B 1 = 0 && num r 0x0C 4 = recLen n &&
    num r 0x16 2 = 0 && num r 0x38 8 = 0
  let block := fun j => num (sigBlock r j) 1 7 = 0 && num (sigBlock r j) 0x69 7 = 0
  let bad := fun e : Item =>
    e.kind = 0 || decide (4 < e.kind) || num r (0x41 + 24 * e.no) 3 ≠ 0 || (e.kind ≠ 1 && e.mask ≠ 0) || (e.kind = 4 && e.off ≠ 0) ||
      ((e.kind = 2 || e.kind = 3) && e.value ≠ 0)
  if !head then some 0xFF
  else match (itemsOf r).find? bad with
    | some e => some e.no
    | none => if block 0 && block 1 then none else some 0xFF

/-! ### Who owns an item (R425, Table 17-2) -/

inductive Tenancy where
  | fabric
  | free
  | of (t : Nat)
deriving DecidableEq, Repr

def State.partTenant (s : State) (p : Nat) : Tenancy := if s.rdB hayB F.PART_VALID p then .of (s.rd hayB F.PART_TENANT p) else .free
def State.sliceTenant (s : State) (i : Nat) : Tenancy :=
  if s.rdB hayB F.SLICE_OWNER_VALID i then .of (s.rd hayB F.SLICE_OWNER_TENANT i) else .free

/-- The owners of what a WRITE touches, by block, offset in it and mask. -/
def State.tenants (s : State) (base rel mask : Nat) : List Tenancy :=
  if base = hayB then
    if rel < 0x2100 then [s.partTenant ((rel - 0x2000) / 8)]
    else if rel < 0x2400 then
      let e := (rel - 0x2100) / 8
      [if s.rdB hayB F.BARN_EXT_VALID e then s.partTenant (s.rd hayB F.BARN_EXT_PART e) else .free]
    else [s.sliceTenant ((rel - 0x2400) / 8)]
  else if base = hostB then
    if rel < 0x100 then [.fabric]
    else if rel < 0x1000 then ((List.range 32).filter (tb mask)).map s.partTenant
    else if rel < 0x10000 then
      let i := (rel - 0x1000) / 0x20
      [if s.rdB hostB F.XLAT_RIGHTS_VALID i then s.partTenant (s.rd hostB F.XLAT_RIGHTS_PART i) else .free]
    else
      let n := (rel - 0x10000) / 0x40
      [if s.rdB hostB F.QP_OWNER_VALID n then s.partTenant (s.rd hostB F.QP_OWNER_PART n) else .free]
  else if base = routeB then
    if rel < 0x1000 then [.fabric]
    else
      let i := (rel - 0x1000) / 0x20
      [if s.rdB routeB F.SLICE_GEOM1_VALID i then s.sliceTenant (s.rd routeB F.SLICE_GEOM1_SLICE_ID i) else .free]
  else if rel < 0x1000 then [.fabric]
  else
    let j := (rel - 0x1000) / 8
    let half := fun (src slice : Field) => if s.rd base src j = 0xF then Tenancy.free else s.sliceTenant (s.rd base slice j)
    (if mask % 2 ^ 32 ≠ 0 then [half F.SLOT_SOURCE_A F.SLOT_SLICE_A] else []) ++ (if 2 ^ 32 ≤ mask then [half F.SLOT_SOURCE_B F.SLOT_SLICE_B] else [])

/-- What a record of tenant `t`, or of none, may write (R426). -/
def mayWrite (t : Option Nat) (o : Tenancy) : Bool :=
  match t, o with
  | _, .free => true
  | none, .fabric => true
  | some t, .of u => t = u
  | _, _ => false

/-- The register that a WRITE names: its block, its offset in the block, the register and its index. -/
def Item.target (e : Item) : Option (Nat × Nat × Reg × Nat) :=
  (blockAt e.off).bind (fun b => (regIn b.2 (e.off - b.1)).map (fun r => (b.1, e.off - b.1, r.1, r.2)))

/-- The bits of a register's RWH fields. -/
def Reg.rwhMask (r : Reg) : Nat := (r.fields.filter (fun f => f.acc = .rwh)).foldl (fun m f => m ||| ((2 ^ f.w - 1) <<< f.lo)) 0

/-- FIELD. -/
def fieldFails (r : List Byte) : Option Nat :=
  ((itemsOf r).find? (fun e => e.kind = 1 &&
    (decide (0x4000_0000 ≤ e.off) || e.off % 8 ≠ 0 ||
      (e.mask &&& ((e.target.map (fun t => t.2.2.1.rwhMask)).getD 0)) ≠ e.mask))).map (·.no)

/-! ### What items do (R423, R424, R427) -/

/-- A masked write of a register's RWH fields. -/
def State.rwhWrite (s : State) (base : Nat) (r : Reg) (i value mask : Nat) : State :=
  (r.fields.filter (fun f => f.acc = .rwh)).foldl (fun s f =>
    let m := bits mask f.lo f.w
    if m = 0 then s else s.wr base f ((s.rd base f i &&& (2 ^ f.w - 1 - m)) ||| (bits value f.lo f.w &&& m)) i) s

/-- Every item of a tenant becomes free (R427). -/
def State.freeTenant (s : State) (t : Nat) : State :=
  let mine := fun q : Nat => decide (s.partTenant q = .of t)
  let slice := fun i : Nat => decide (s.sliceTenant i = .of t)
  let sweepOut := fun (n : Nat) (s' : State) (test : Nat → Bool) (g : State → Nat → State) => ((List.range n).filter test).foldl g s'
  let u := sweepOut 64 s (fun e => s.rdB hayB F.BARN_EXT_VALID e && mine (s.rd hayB F.BARN_EXT_PART e)) (fun s e => s.wr hayB F.BARN_EXT_VALID 0 e)
  let u := sweepOut 1024 u (fun i => s.rdB hostB F.XLAT_RIGHTS_VALID i && mine (s.rd hostB F.XLAT_RIGHTS_PART i)) (fun s i => s.wr hostB F.XLAT_RIGHTS_VALID 0 i)
  let u := sweepOut 8192 u (fun n => s.rdB hostB F.QP_OWNER_VALID n && mine (s.rd hostB F.QP_OWNER_PART n)) (fun s n => s.wr hostB F.QP_OWNER_VALID 0 n)
  let u := (List.range 16).foldl (fun s h =>
    s.wr hostB F.HOST_PARTS ((List.range 32).foldl (fun m q => if mine q then setBit m q false else m) (s.rd hostB F.HOST_PARTS h)) h) u
  let u := sweepOut 64 u (fun i => s.rdB routeB F.SLICE_GEOM1_VALID i && slice (s.rd routeB F.SLICE_GEOM1_SLICE_ID i)) (fun s i => s.wr routeB F.SLICE_GEOM1_VALID 0 i)
  let u := (List.range 12).foldl (fun u n =>
    let b := portB n
    let u := sweepOut 480 u (fun j => s.rd b F.SLOT_SOURCE_A j ≠ 0xF && slice (s.rd b F.SLOT_SLICE_A j)) (fun u j => u.wr b F.SLOT_SOURCE_A 0xF j)
    sweepOut 480 u (fun j => s.rd b F.SLOT_SOURCE_B j ≠ 0xF && slice (s.rd b F.SLOT_SLICE_B j)) (fun u j => u.wr b F.SLOT_SOURCE_B 0xF j)) u
  let u := sweepOut 256 u slice (fun s i => s.wr hayB F.SLICE_OWNER_VALID 0 i)
  sweepOut 32 u mine (fun s q => s.wr hayB F.PART_VALID 0 q)

/-- One item of a record takes effect. -/
def State.applyItem (r : List Byte) (s : State) (e : Item) : State :=
  match e.kind with
  | 1 => match e.target with | some t => s.rwhWrite t.1 t.2.2.1 t.2.2.2 e.value e.mask | none => s
  | 2 => { s with hay.keys := s.hay.keys.insert e.off (sha384 (sigKey r 1)) }
  | 3 => let t := s.freeTenant e.off; { t with hay.keys := t.hay.keys.erase e.off }
  | 4 => { s with fuses.svnFloor := e.value }
  | _ => s

def State.applyItems (s : State) (r : List Byte) : State := (itemsOf r).foldl (State.applyItem r) s

/-! ### The checks of Table 17-5 -/

/-- SIGNER: the pair that each item needs (Table 17-3), the first block being the first signer. -/
def State.signerFails (s : State) (r : List Byte) : Option Nat :=
  let a := sigSlot r 0
  let b := sigSlot r 1
  let keyed := fun j : Nat => decide (s.keyHash (sigSlot r j) = some (sha384 (sigKey r j)))
  let both := a = 0 && b = 1 && keyed 0 && keyed 1
  let withTenant := fun t : Nat => decide (a ≤ 1) && keyed 0 && decide (2 ≤ t) && decide (t ≤ 63) && b = t
  let ok := fun e : Item =>
    match e.kind, recTenant r with
    | 1, some t => withTenant t && keyed 1
    | 1, none => both
    | 2, _ => withTenant e.off && (keyed 1 || (s.keyHash b).isNone)
    | 3, _ => both && decide (2 ≤ e.off) && decide (e.off ≤ 63)
    | _, _ => both
  if s.fuses.ownerHash = 0 ∨ s.fuses.custodianHash = 0 ∨ a = b then some 0xFF
  else ((itemsOf r).find? (fun e => !ok e)).map (·.no)

/-- SIGNATURE: both cover the bytes before the first signature block. -/
def sigsOk (r : List Byte) : Bool :=
  let d := sha384 (r.take (0x40 + 24 * recItems r))
  [0, 1].all (fun j => ecdsaVerify (sigKey r j) d (sub (sigBlock r j) 0x70 96))

/-- SCOPE: every item written is the tenant's or free, before and after; of HOST_h only bits of the tenant's partitions (R426, log 104). -/
def State.scopeFails (s : State) (r : List Byte) : Option Nat :=
  let u := s.applyItems r
  let strangers := fun base rel mask : Nat =>
    match recTenant r with
    | some t => base = hostB && decide (0x100 ≤ rel) && decide (rel < 0x1000) &&
        (List.range 32).any (fun p => tb mask p && s.partTenant p ≠ .of t && u.partTenant p ≠ .of t)
    | none => false
  ((itemsOf r).find? (fun e => e.kind = 1 &&
    match e.target with
    | some t => strangers t.1 t.2.1 e.mask || (s.tenants t.1 t.2.1 e.mask ++ u.tenants t.1 t.2.1 e.mask).any (fun o => !mayWrite (recTenant r) o)
    | none => false)).map (·.no)

/-- Ranges of a list that share a member. -/
def rangesClash : List (Nat × Nat) → Bool
  | [] => false
  | (a, n) :: t => t.any (fun x => overlap a n x.1 x.2) || rangesClash t

/-- Slot-table entries of a port that R323 refuses. -/
def State.badSlots (s : State) (n : Nat) : Bool :=
  let bad := fun (src slice : Nat) => src = 0xD || src = 0xE || (src ≠ 0xF && slice = 0)
  let b := portB n
  (List.range 480).any (fun j => bad (s.rd b F.SLOT_SOURCE_A j) (s.rd b F.SLOT_SLICE_A j) || bad (s.rd b F.SLOT_SOURCE_B j) (s.rd b F.SLOT_SLICE_B j))

/-- Slice entries that R314 and R322 refuse. -/
def State.badSlices (s : State) : Bool :=
  let live := (List.range 64).filter (fun i => s.rdB routeB F.SLICE_GEOM1_VALID i)
  (List.range 64).any (fun i => (List.range 6).any (fun a => (s.sliceGeom i a).2.2 = 3)) ||
  live.any (fun i => s.rd routeB F.SLICE_GEOM1_SLICE_ID i = 0) ||
  (List.range 32).any (fun p => decide (1 < (live.filter (fun i => tb (s.rd routeB F.SLICE_PARTS_PARTS i) p)).length))

/-- The partition table breaks R434. -/
def State.badParts (s : State) : Bool :=
  let valid := (List.range 32).filter (fun q => s.rdB hayB F.PART_VALID q)
  let exts := ((List.range 64).filter (fun e => s.rdB hayB F.BARN_EXT_VALID e)).map (fun e => (s.rd hayB F.BARN_EXT_BASE e, s.rd hayB F.BARN_EXT_UNITS e))
  (List.range 32).any (fun p => decide (1 < (valid.filter (fun q => tb (s.rd hayB F.PART_PLOTS q) p)).length)) ||
  (List.range 32).any (fun q => (List.range 32).any (fun p => tb (s.rd hayB F.PART_PLOTS q) p && s.fallowPlot p)) ||
  rangesClash exts || exts.any (fun x => decide (s.errBase < 0x0080_0000_0000 + (x.1 + x.2) * 0x20_0000))

/-- The option checks of Table 15-7 on RWH fields, R294 among them. -/
def State.badOptions (s : State) : Bool :=
  let ps := (List.range 12).map (fun n =>
    let b := portB n
    ({ mode := s.rd b F.PORT_CFG_MODE, fec := s.rd b F.PORT_CFG_FEC, pmd := s.rd b F.PORT_CFG_PMD, axis := s.rd b F.PORT_CFG_AXIS,
       sign := s.rd b F.PORT_CFG_SIGN } : OptPort))
  let xs := (List.range 6).map (fun a =>
    ({ lsb := s.rd routeB F.AXIS_LSB a, width := s.rd routeB F.AXIS_WIDTH a, length := s.rd routeB F.AXIS_LENGTH a,
       role := s.rd routeB F.AXIS_ROLE a } : AxisCfg))
  ps.any (fun p => !optPortOk p) || badTeams ps xs ≠ [] || badAxes xs ≠ [] || decide (8 < s.rd hostB F.GATE_CFG_GROUP_BITS) ||
  (ps.any (fun p => p.mode = 2) && s.device ≠ s.rd hostB F.GATE_CFG_GATE_DEVICE)

/-- Valid segments of the host window overlap (R378). -/
def State.badWindow (s : State) : Bool :=
  rangesClash (((List.range 1024).filter (fun i => s.rdB hostB F.XLAT_RIGHTS_VALID i)).map
    (fun i => (s.rd hostB F.XLAT_WIN_BASE i, s.rd hostB F.XLAT_WIN_PAGES i)))

def State.badConfig (s : State) : Bool :=
  s.badOptions || s.badWindow || s.badParts || s.badSlices || (List.range 12).any s.badSlots

/-- VALUE: the whole result must stand; the item named is the first one with which it no longer does. -/
def State.valueFails (s : State) (r : List Byte) : Option Nat :=
  if (s.applyItems r).badConfig then
    ((itemsOf r).find? (fun e => (((itemsOf r).take (e.no + 1)).foldl (State.applyItem r) s).badConfig)).map (·.no)
  else none

/-- LATE: how many Passes ahead APPLY_PASS lies; 0 asks for the next boundary. -/
def State.passesAhead (s : State) (r : List Byte) : Nat :=
  let a := num r 0x10 6
  if a = 0 then 1 else (a + 2 ^ 48 - s.passNum) % 2 ^ 48

/-- SVN: a raise that R423 refuses. -/
def State.svnFails (s : State) (r : List Byte) : Option Nat :=
  ((itemsOf r).find? (fun e => e.kind = 4 && (decide (e.value ≤ s.fuses.svnFloor) || decide (s.boot.imageSvn < e.value) || decide (63 < e.value)))).map (·.no)

/-- The first failure at submission: its code and its item. -/
def State.submitFails (s : State) (r : List Byte) : Option (Nat × Nat) :=
  let coded := fun (c : Nat) (f : Option Nat) => f.map (fun i => (c, i))
  let whole := fun (c : Nat) (b : Bool) => if b then some (c, 0xFF) else none
  let nonce := (List.range 4).any (fun i => num r (0x18 + 8 * i) 8 ≠ s.rd hayB F.HW_NONCE_NONCE i)
  (coded 1 (formatFails r)).or <| (whole 2 (num r 8 2 ≠ s.device)).or <| (whole 3 nonce).or <| (coded 4 (s.signerFails r)).or <|
  (whole 5 (!sigsOk r)).or <| (coded 6 (s.scopeFails r)).or <| (coded 7 (fieldFails r)).or <| (coded 8 (s.valueFails r)).or <|
  (whole 9 (s.passesAhead r = 0 || decide (2 ^ 24 < s.passesAhead r))).or <| (whole 0xA (decide (4 ≤ s.hay.pendingRecs.length))).or <|
  coded 0xB (s.svnFails r)

/-! ### Submission (R430) -/

/-- Record the last outcome. -/
def State.outcome (s : State) (code item : Nat) (atApply : Bool) : State :=
  let s := ((s.wr hayB F.HW_STAT_LAST_CODE code).wr hayB F.HW_STAT_LAST_ITEM item).wr hayB F.HW_STAT_AT_APPLY (b2n atApply)
  if code = 0 then s else s.satAdd hayB F.HW_STAT_REFUSED 1

/-- Hayward's read of a record: none while an open extent holds it (R57). Bytes that cannot be read are zero (R256). -/
def State.readRecord (s : State) (a n : Nat) : Option (List Byte × State) :=
  if s.blocked none a n then none
  else if s.touchesFallow a n then some (List.replicate n 0, s)
  else let r := s.memRead false true 28 a n; some (r.2.1, r.2.2)

/-- HW_SUBMIT.GO. -/
def State.submitGo (s : State) : State :=
  if s.hay.verifying.isSome then s.satAdd hayB F.HW_STAT_REFUSED 1
  else
    let a := s.rd hayB F.HW_SUBMIT_ADDR / 64 * 64
    let n := recLen (num (s.bytes a 64) 6 2)
    match s.readRecord a n with
    | some t => { t.2 with hay.verifying := some t.1 }
    | none => { s.countHeld with hay.verifying := some [], hay.heldRec := some (a, n) }
def execChangeRecordSubmit (s : State) : Out := .next s.submitGo

/-- CHANGE_RECORD_VERIFIED. -/
def execChangeRecordVerified (s : State) : Out :=
  .next (
    match s.hay.verifying with
    | none => s
    | some r =>
      match (match s.hay.heldRec with | some h => s.readRecord h.1 h.2 | none => some (r, s)) with
      | none => s
      | some t =>
        let r := t.1
        let s := { t.2 with hay.verifying := none, hay.heldRec := none }
        let c : ChangeRec := { record := r, applyPass := s.passIdx + s.passesAhead r }
        let s := match s.submitFails r with
          | some f => s.outcome f.1 f.2 false
          | none => ({ s with hay.pendingRecs := s.hay.pendingRecs ++ [c] }).outcome 0 0xFF false
        s.newNonce)

/-! ### Application (R431, R432, R435) -/

/-- Some core of a plot is not halted. -/
def State.coresRun (s : State) (p : Nat) : Bool := (slotsOf p).any (fun k => !(s.core k).halted)
/-- Bin and Drill queues of a plot hold descriptors. -/
def State.unitsWait (s : State) (p : Nat) : Bool := (s.drill p).queue ≠ [] || (List.range 8).any (fun u => (s.bins.get {} (p * 8 + u)).queue ≠ [])

/-- BUSY at application (R432): the item that meets a condition of it. A KEY_REMOVE takes plots out of partitions and queue pairs from their owners too (R427). -/
def State.busyFails (s : State) (r : List Byte) : Option Nat :=
  let u := s.applyItems r
  let portMoves := fun b : Nat =>
    let st := s.rd b F.PORT_STAT_STATE
    (u.rd b F.PORT_CFG_AXIS ≠ s.rd b F.PORT_CFG_AXIS || u.rd b F.PORT_CFG_SIGN ≠ s.rd b F.PORT_CFG_SIGN) && st ≠ pDRAINED && st ≠ pDOWN
  let leaves := fun q p : Nat =>
    s.rdB hayB F.PART_VALID q && tb (s.rd hayB F.PART_PLOTS q) p && !(u.rdB hayB F.PART_VALID q && tb (u.rd hayB F.PART_PLOTS q) p)
  let qpMoves := fun n : Nat => s.rd hostB F.QP_STAT_STATE n ≠ 0 &&
    (u.rd hostB F.QP_OWNER_PART n ≠ s.rd hostB F.QP_OWNER_PART n || u.rd hostB F.QP_OWNER_HOST n ≠ s.rd hostB F.QP_OWNER_HOST n ||
      u.rd hostB F.QP_OWNER_VALID n ≠ s.rd hostB F.QP_OWNER_VALID n)
  let bad := fun e : Item =>
    match e.kind, e.target with
    | 1, some t =>
      if portB 0 ≤ t.1 && t.1 < portB 12 && t.2.1 = 0 then portMoves t.1
      else if t.1 = hayB && t.2.1 < 0x2100 then (List.range 32).any (fun p => leaves ((t.2.1 - 0x2000) / 8) p && (s.coresRun p || s.unitsWait p))
      else if t.1 = hostB && 0x10000 ≤ t.2.1 then qpMoves ((t.2.1 - 0x10000) / 0x40)
      else false
    | 3, _ => (List.range 32).any (fun q => decide (s.partTenant q = .of e.off) &&
        (List.range 32).any (fun p => tb (s.rd hayB F.PART_PLOTS q) p && (s.coresRun p || s.unitsWait p))) || (List.range 8192).any qpMoves
    | _, _ => false
  ((itemsOf r).find? bad).map (·.no)

/-- The first failure at application. -/
def State.applyFails (s : State) (r : List Byte) : Option (Nat × Nat) :=
  let coded := fun (c : Nat) (f : Option Nat) => f.map (fun i => (c, i))
  (coded 6 (s.scopeFails r)).or <| (coded 8 (s.valueFails r)).or <| (coded 0xA (s.busyFails r)).or <| coded 0xB (s.svnFails r)

/-- A plot that joins a partition is reset with hold and filled (R435). -/
def State.joinPlot (s : State) (p : Nat) : State :=
  let s := (s.stopPlot p).err 0x12 0 ⟨4, p, 0⟩ {} 3 0
  let s := (slotsOf p).foldl (fun s k => s.modSlot k (fun x => { x with coreDom := .run, clusterDom := .run })) s
  { s with boot.plotDoms := s.boot.plotDoms.put Dom.run p (.clearing true false), hay.fillPlots := p :: s.hay.fillPlots.filter (· ≠ p) }

/-- Start the fills that the step from `s` to `u` asks for (R435): a plot joins a partition, a Barn extent becomes valid. -/
def State.startFills (s u : State) : State :=
  let joins := fun q p : Nat =>
    u.rdB hayB F.PART_VALID q && tb (u.rd hayB F.PART_PLOTS q) p && !(s.rdB hayB F.PART_VALID q && tb (s.rd hayB F.PART_PLOTS q) p)
  let u := (List.range 32).foldl (fun u q =>
    let ps := (List.range 32).filter (joins q)
    let u := ps.foldl State.joinPlot u
    if ps = [] then u else u.wr hayB F.PART_FILLING 1 q) u
  let same := fun e : Nat => s.rdB hayB F.BARN_EXT_VALID e && s.rd hayB F.BARN_EXT_BASE e = u.rd hayB F.BARN_EXT_BASE e &&
    s.rd hayB F.BARN_EXT_UNITS e = u.rd hayB F.BARN_EXT_UNITS e && s.rd hayB F.BARN_EXT_PART e = u.rd hayB F.BARN_EXT_PART e
  (List.range 64).foldl (fun u e =>
    if !u.rdB hayB F.BARN_EXT_VALID e then ({ u with hay.fillExts := u.hay.fillExts.filter (· ≠ e) }).wr hayB F.BARN_EXT_FILLING 0 e
    else if same e then u
    else ({ u with hay.fillExts := e :: u.hay.fillExts.filter (· ≠ e) }).wr hayB F.BARN_EXT_FILLING 1 e) u

/-- A record comes to its boundary. -/
def State.applyRecord (s : State) (r : List Byte) : State :=
  match s.applyFails r with
  | some f => s.outcome f.1 f.2 true
  | none =>
    let u := s.startFills (s.applyItems r)
    let u := { u with hay.changes := u.hay.changes + 1 }
    ((u.wr hayB F.HW_APPLY_PASS u.passNum).satAdd hayB F.HW_STAT_APPLIED 1).outcome 0 0xFF true

/-- Records due at this boundary, in the order of their acceptance (R431). -/
def State.applyDue (s : State) : State :=
  let now := s.passIdx
  let due := s.hay.pendingRecs.filter (fun r => r.applyPass ≤ now)
  due.foldl (fun s r => s.applyRecord r.record) { s with hay.pendingRecs := s.hay.pendingRecs.filter (fun r => now < r.applyPass) }

/-- PART_p.FILLING falls at the boundary that releases the last of the partition's joining plots. -/
def State.fillBoundary (s : State) : State :=
  (List.range 32).foldl (fun s q =>
    if s.rdB hayB F.PART_FILLING q && !s.hay.fillPlots.any (tb (s.rd hayB F.PART_PLOTS q)) then s.wr hayB F.PART_FILLING 0 q else s) s

/-- Bytes of a range become zero with valid check words. -/
def State.zeroRange (s : State) (lo n : Nat) : State :=
  let out := fun (u a : Nat) => decide ((a + 1) * u ≤ lo) || decide (lo + n ≤ a * u)
  { s with
    mem := s.mem.keep (fun a => decide (a < lo) || decide (lo + n ≤ a))
    mx.granBad := if lo < 0x0001_0000_0000 then s.mx.granBad.keep (out 64) else s.mx.granBad
    mx.barnBad := if lo < 0x0001_0000_0000 then s.mx.barnBad else s.mx.barnBad.keep (fun b => out 512 (b + 0x0080_0000_0000 / 512)) }

/-- PLOT_JOIN_FILL_DONE: the plot is clear and zero; its release waits for the boundary. -/
def execPlotJoinFillDone (p : Fin 32) (s : State) : Out :=
  .next (
    let q := p.val
    if !s.hay.fillPlots.contains q then s
    else
      let s := match s.boot.plotDoms.get Dom.run q with
        | .clearing _ _ => (s.clearPlot q).wrapAdd rstB F.RST_COUNT_DOMAIN_RESETS 1
        | _ => s
      let s := s.zeroRange (lineAddr q 0) 0x0800_0000
      { s with boot.plotDoms := s.boot.plotDoms.put Dom.run q .cleared, hay.fillPlots := s.hay.fillPlots.filter (· ≠ q) })

/-- BARN_EXTENT_FILL_DONE. -/
def execBarnExtentFillDone (e : Fin 64) (s : State) : Out :=
  .next (
    let i := e.val
    if !s.hay.fillExts.contains i then s
    else
      let n := s.rd hayB F.BARN_EXT_UNITS i * 0x20_0000
      let s := s.zeroRange (0x0080_0000_0000 + s.rd hayB F.BARN_EXT_BASE i * 0x20_0000) n
      let s := (s.wrapAdd telB F.BARN_WR_BYTES n).wrapAdd telB F.BARN_ELASTIC_BYTES n
      ({ s with hay.fillExts := s.hay.fillExts.filter (· ≠ i) }).wr hayB F.BARN_EXT_FILLING 0 i)

/-! ### Attestation (R437) -/

/-- ATT_CTL.GO; discarded while BUSY. -/
def State.attestGo (s : State) : State := { s with hay.attesting := true }
def execAttestationRequest (s : State) : Out := .next s.attestGo

/-- Values of the registers of a block that hold an RWH field, in increasing offset. -/
def State.rwhValues (s : State) (base size : Nat) : List Byte :=
  match blockAt base with
  | none => []
  | some b =>
    (List.range (size / 8)).flatMap (fun w =>
      match regIn b.2 (8 * w) with
      | some r => if r.1.rwhMask = 0 then [] else bytesOf 8 (s.regValue base r.1 r.2)
      | none => [])

def State.configBytes (s : State) : List Byte :=
  (List.range 12).flatMap (fun n => s.rwhValues (portB n) 0x2000) ++ s.rwhValues routeB 0x2000 ++ s.rwhValues hostB 0x90000 ++ s.rwhValues hayB 0x3000

/-- Bytes 0x000 to 0x19F of the report (Table 17-6). -/
def State.reportBody (s : State) : List Byte :=
  let part := s.rd hayB F.ATT_CTL_PART
  let named := s.rdB hayB F.ATT_CTL_PART_EN
  let hash := fun bs : List Byte => bytesOf 48 (sha384 bs).toNat
  let digest := match s.boot.images.find? part with
    | some i => if named && i.started then sub i.digest 0 48 else List.replicate 48 0
    | none => List.replicate 48 0
  bytesOf 4 0x5454_414B ++ bytesOf 2 1 ++ bytesOf 1 (if named then part else 0xFF) ++ bytesOf 1 (s.rd rstB F.BOOT_STAT_SLOT) ++
  bytesOf 2 s.device ++ bytesOf 1 (s.rd 0 F.GLOBAL_ID_GRADE) ++ bytesOf 1 0xB0 ++ bytesOf 4 0 ++ bytesOf 8 (s.rd hayB F.HW_SERIAL_SERIAL) ++
  bytesOf 8 s.stamp ++ bytesOf 8 s.passNum ++ bytesOf 4 s.boot.imageSvn ++ bytesOf 4 s.fuses.svnFloor ++
  (List.range 4).flatMap (fun i => bytesOf 8 (s.rd hayB F.ATT_CHALLENGE_CHALLENGE i)) ++ hash s.boot.imageHdr ++
  hash ((List.range 256).map s.optByte) ++ bytesOf 48 s.boot.optKey.toNat ++ hash s.configBytes ++
  hash ((List.range 64).flatMap (fun i => bytesOf 48 ((s.keyHash i).getD 0).toNat)) ++ digest ++
  bytesOf 4 s.hay.changes ++ List.replicate 44 0

/-- The whole report. -/
def State.report (s : State) : List Byte :=
  s.reportBody ++ bytesOf 96 (Config.ecdsaSign (sha384 s.reportBody)).toNat

/-- The valid segment of the host window that holds a range and may be written, whosever it is: the report is the fabric manager's. DESIGN CHOICE, log 54. -/
def State.windowFor (s : State) (a n : Nat) : Option (Nat × Nat) :=
  (List.range 32).findSome? (fun q => s.translate q a n true)

/-- ATTESTATION_REPORT_WRITTEN: the report goes to ATT_DEST; while an open extent holds the place the write waits (R57). -/
def execAttestationReportWritten (s : State) : Out :=
  .next (
    let a := s.rd hayB F.ATT_DEST_ADDR / 64 * 64
    let ended := fun (s : State) => ({ s with hay.attesting := false } : State)
    let sent := fun s : State => (ended s).wrapAdd hayB F.ATT_CTL_REPORTS 1
    if !s.hay.attesting then s
    else
      match regionOf a with
      | .window =>
        match s.windowFor a 512 with
        | some h => sent (s.hostReq true h a s.report 512 .report)
        | none => ended s
      | _ =>
        if s.touchesFallow a 512 then ended s
        else if s.blocked none a 512 then s
        else
          let r := s.memWrite false true 28 a s.report
          if r.1 = rOK then sent r.2 else ended r.2)

end Sys2Proof.Machine
end

