-- ==== Sys2Proof/Machine/Module.lean ====
section
/-! DEFINITION. The module's edges: sequencer votes, regulators, sensors, power, boundary scan, site fuses and the ports' test block (R453, R454, chapter 20). -/

namespace Sys2Proof.Machine

/-! ### Sequencers (R453) -/

/-- The unit that a disagreement outvotes, as the location names it (R458): 0 and 1 the sequencers of C0 and C1, 4 + d the voter of Ld. DETAIL1 uses the
same numbers. DESIGN CHOICE, log 55. -/
def State.seqCode (s : State) (u : SeqUnit) : Nat :=
  let m := s.rd telB F.FLT_SEQ_MASTER
  match u with
  | .master => m
  | .checking => 1 - m
  | .voter => 4 + s.rd telB F.FLT_SEQ_VOTER

/-- SEQUENCER_DISAGREEMENT; the second sequencer in a row cannot be resolved (R453, Table 18-2). -/
def execSequencerDisagreement (outvoted : SeqUnit) (s : State) : Out :=
  .next (
    let seqs := s.rdB telB F.FLT_SEQ_C0_RETIRED || s.rdB telB F.FLT_SEQ_C1_RETIRED ||
      (outvoted = .master && s.boot.seqRetire.contains .checking) || (outvoted = .checking && s.boot.seqRetire.contains .master)
    if seqs || s.rd telB F.FLT_SEQ_VOTERS_RETIRED = 0xF then
      (s.err 0x0E 3 ⟨8, 0, s.seqCode outvoted⟩ {} s.passNum (s.seqCode outvoted)).critical 5 0
    else
      let s := (if s.rdB seqB F.SEQ_STAT_MISMATCH then s else s.wr seqB F.SEQ_STAT_MISMATCH_PASS s.passNum).wr seqB F.SEQ_STAT_MISMATCH 1
      let s := (s.satAdd telB F.FLT_SEQ_VOTES 1).err 0x0E 2 ⟨8, 0, s.seqCode outvoted⟩ {} s.passNum (s.seqCode outvoted)
      { s with boot.seqRetire := outvoted :: s.boot.seqRetire.filter (· ≠ outvoted) })

/-- Outvoted units are retired at the boundary. -/
def State.seqBoundary (s : State) : State :=
  let retire := fun (s : State) (u : SeqUnit) =>
    let m := s.rd telB F.FLT_SEQ_MASTER
    let die := fun (s : State) (d : Nat) => if d = 0 then s.wr telB F.FLT_SEQ_C0_RETIRED 1 else s.wr telB F.FLT_SEQ_C1_RETIRED 1
    match u with
    | .master => (die s m).wr telB F.FLT_SEQ_MASTER (1 - m)
    | .checking => die s (1 - m)
    | .voter =>
      let r := setBit (s.rd telB F.FLT_SEQ_VOTERS_RETIRED) (s.rd telB F.FLT_SEQ_VOTER) true
      let next := ((List.range 4).find? (fun d => !tb r d)).getD (s.rd telB F.FLT_SEQ_VOTER)
      (s.wr telB F.FLT_SEQ_VOTERS_RETIRED r).wr telB F.FLT_SEQ_VOTER next
  s.boot.seqRetire.foldl retire { s with boot.seqRetire := [] }

/-! ### Regulators (R454, R457) -/

/-- REGULATOR_PHASE_LOSS: the first of a rail is carried, from the second on its region is held at stretch. -/
def execRegulatorPhaseLoss (rail : Fin 16) (s : State) : Out :=
  .next (
    let k := rail.val
    let n := s.boot.phasesLost.get 0 k + 1
    let s := { s with boot.phasesLost := s.boot.phasesLost.insert k n }
    let s := (s.satAdd telB F.FLT_VR_PHASE_EVENTS 1).wr telB F.FLT_VR_PHASE_LOST (setBit (s.rd telB F.FLT_VR_PHASE_LOST) k true)
    if n = 1 then s.err 0x0F 2 ⟨9, 0, k⟩ {} k n
    else ((s.wr telB F.FLT_VR_RAIL_STRETCH (setBit (s.rd telB F.FLT_VR_RAIL_STRETCH) k true)).wr telB F.FLT_STAT_UNMASKED 1).err 0x0F 3 ⟨9, 0, k⟩ {} k n)

/-- The level of FAULT_L: low while UNMASKED is 1 or start-up has failed (R397, R457). -/
def State.faultPin (s : State) : Bool := !(s.rdB telB F.FLT_STAT_UNMASKED || decide (s.rd rstB F.BOOT_STAT_STATE = 0xF))

/-- UNMASKED is set again while a rail is held at stretch. -/
def State.railBoundary (s : State) : State := if s.rd telB F.FLT_VR_RAIL_STRETCH ≠ 0 then s.wr telB F.FLT_STAT_UNMASKED 1 else s

/-! ### Sensors and power (R484, R485, R248) -/

/-- A thermal trip: the module is held in reset, with THERM_L low. -/
def State.thermalTrip (s : State) : State :=
  { s.moduleReset F.RST_CAUSE_THERMAL with boot.thermalHold := true, boot.pinTherm := false }

/-- THERM_L is low while a warning or a trip holds it. -/
def State.thermPin (s : State) : State :=
  { s with boot.pinTherm := !(s.rdB rstB F.THERM_STAT_WARN || s.rdB rstB F.THERM_STAT_BARN_HOT || s.boot.thermalHold) }

/-- A sensor's reading. -/
def State.senseOne (s : State) (k : Nat) (t : BitVec 8) : State :=
  let s := s.wr rstB F.THERM_SENSE_TEMP t.toNat k
  if sx (s.rd rstB F.THERM_SENSE_PEAK k) 8 < sx t.toNat 8 then s.wr rstB F.THERM_SENSE_PEAK t.toNat k else s

/-- The hottest sensor: its index and its temperature. -/
def State.hottest (s : State) : Nat × Int :=
  (List.range 20).foldl (fun (m : Nat × Int) k =>
    let t := sx (s.rd rstB F.THERM_SENSE_TEMP k) 8
    if m.2 < t then (k, t) else m) (0, sx (s.rd rstB F.THERM_SENSE_TEMP 0) 8)

/-- THERMAL_SENSE: the readings of the twenty sensors. -/
def execThermalSense (temps : List (BitVec 8)) (s : State) : Out :=
  .next (
    let ts := temps.take 20
    if s.boot.thermalHold then
      if ts.length = 20 && ts.all (fun t => decide (sx t.toNat 8 ≤ 90)) then ({ s with boot.thermalHold := false }).thermPin else s
    else
      let s := ts.zipIdx.foldl (fun s e => s.senseOne e.2 e.1) s
      let h := s.hottest
      let s := (s.wr rstB F.THERM_STAT_MAX (s.rd rstB F.THERM_SENSE_TEMP h.1)).wr rstB F.THERM_STAT_MAX_SENSOR h.1
      if 110 ≤ h.2 then s.thermalTrip
      else
        let warn := decide ((s.rd rstB F.THERM_CFG_WARN : Int) ≤ h.2)
        ({ s.wr rstB F.THERM_STAT_WARN (b2n warn) with obs.passWarn := s.obs.passWarn || warn }).thermPin)

/-- BARN_MR4_READ: the packages' refresh rates and temperatures; a package above its limit in two reads in a row makes a thermal trip. -/
def execBarnMr4Read (reports : List Mr4) (s : State) : Out :=
  .next (
    let s := s.mr4Read reports
    let hot := ((reports.zipIdx).filter (fun e => e.1.hot)).map (·.2)
    let again := hot.any (fun k => s.obs.mr4Hot.contains k)
    let s := ({ s with obs.mr4Hot := hot }).wr rstB F.THERM_STAT_BARN_HOT (b2n (hot ≠ []))
    if again then s.thermalTrip else s.thermPin)

/-- POWER_SENSE: input voltage, current, power, and the power averaged over 1 ms. -/
def execPowerSense (vin iin pin avg : BitVec 16) (s : State) : Out :=
  .next (
    let s := ((s.wr rstB F.PWR_STAT_VIN vin.toNat).wr rstB F.PWR_STAT_IIN iin.toNat).wr rstB F.PWR_STAT_PIN pin.toNat
    let cap := decide (s.rd rstB F.PWR_CAP_LIMIT < pin.toNat)
    let s := { (s.wr rstB F.PWR_STAT_CAP_ACTIVE (b2n cap)).peak rstB F.PWR_COUNT_PEAK_W pin.toNat with obs.passCap := s.obs.passCap || cap }
    if 2200 < avg.toNat then s.moduleReset F.RST_CAUSE_OVERPOWER else s)

/-- Passes with WARN, and with CAP_ACTIVE, at any clk (R495): counted at the boundary that ends one. -/
def State.passFlags (s : State) : State :=
  let s := if s.obs.passWarn then s.satAdd rstB F.THERM_STAT_WARN_PASSES 1 else s
  let s := if s.obs.passCap then s.wrapAdd rstB F.PWR_COUNT_CAP_PASSES 1 else s
  let w := s.rdB rstB F.THERM_STAT_WARN
  let c := s.rdB rstB F.PWR_STAT_CAP_ACTIVE
  { s with obs.passWarn := w, obs.passCap := c }

/-! ### Boundary scan (R489) -/

/-- An instruction of the TAP takes effect; the bypass register captures zero. PRESUMED (IEEE 1149.1), log 7. -/
def State.tap (s : State) (j : Jtag) : State := { s with obs.jtag := j }
def State.tapBypass (s : State) : State := { s with obs.jtag := .bypass, obs.tdo := 0 }
/-- An instruction that is accepted only while RESET_L reads low; at other times it acts as BYPASS. -/
def State.tapReset (s : State) (f : State → State) : State := if s.boot.pinReset then s.tapBypass else f s

def execBypass (s : State) : Out := .next s.tapBypass
def execIdcode (s : State) : Out := .next { s.tap .idcode with obs.tdo := 0xB4B12A63 }
/-- SAMPLE_PRELOAD: the pins are captured and the cells loaded. -/
def execSamplePreload (pins preload : List Bool) (s : State) : Out :=
  .next { s.tap .sample with obs.sampledPins := pins, obs.scanCells := preload }
/-- EXTEST: the pins are driven from the cells. -/
def execExtest (cells : List Bool) (s : State) : Out := .next (s.tapReset (fun s => { s.tap .extest with obs.scanCells := cells }))
def execExtestPulse (cells : List Bool) (s : State) : Out := .next (s.tapReset (fun s => { s.tap .extestPulse with obs.scanCells := cells }))
def execExtestTrain (cells : List Bool) (s : State) : Out := .next (s.tapReset (fun s => { s.tap .extestTrain with obs.scanCells := cells }))
/-- CLAMP: the outputs stay as the cells hold them, with the bypass register selected. -/
def execClamp (s : State) : Out := .next (s.tapReset (fun s => s.tap .clamp))
def execHighz (s : State) : Out := .next (s.tapReset (fun s => s.tap .highz))

/-! ### Site fuses (R489, R490) -/

/-- The group is programmed. -/
def Fuses.programmed (f : Fuses) (g : FuseGroup) : Bool :=
  match g with
  | .siteOptHash => f.siteOptHash ≠ 0
  | .ownerHash => f.ownerHash ≠ 0
  | .custodianHash => f.custodianHash ≠ 0
  | .siteOnly => f.siteOnly

/-- What a group holds after a burn. -/
def Fuses.burnt (f : Fuses) (g : FuseGroup) (v : BitVec 384) : Fuses :=
  match g with
  | .siteOptHash => { f with siteOptHash := v }
  | .ownerHash => { f with ownerHash := v }
  | .custodianHash => { f with custodianHash := v }
  | .siteOnly => { f with siteOnly := v.getLsbD 0 }

/-- The burn is refused (R490). -/
def State.burnRefused (s : State) (g : FuseGroup) : Bool :=
  s.fuses.programmed g || decide (s.rd rstB F.PWR_STAT_VIN < 5000) || decide ((s.rd rstB F.THERM_CFG_WARN : Int) < s.hottest.2)

/-- SITE_FUSE. A burn in progress goes on to its end. -/
def execSiteFuse (group : FuseGroup) (value : BitVec 384) (s : State) : Out :=
  .next (s.tapReset (fun s =>
    let s := s.tap .siteFuse
    if s.hay.burn.isSome then s
    else if s.burnRefused group then { s with obs.tdo := 1 }
    else { s with hay.burn := some (group, value) }))

/-- SITE_FUSE_BURN_DONE: the group holds what was read back. -/
def execSiteFuseBurnDone (readBack : BitVec 384) (s : State) : Out :=
  .next (
    match s.hay.burn with
    | none => s
    | some b =>
      let bit := fun v : BitVec 384 => v &&& 1
      let same := match b.1 with | .siteOnly => decide (bit readBack = bit b.2) | _ => decide (readBack = b.2)
      { s with hay.burn := none, fuses := s.fuses.burnt b.1 readBack, obs.tdo := if same then 0 else 2 })

/-- I3C_DYNAMIC_ADDRESS_ASSIGN: the target answers at the address given (R488). -/
def execI3cDynamicAddressAssign (addr : BitVec 7) (s : State) : Out := .next { s with obs.i3cAddr := some addr }

/-! ### The ports' test block (R491 to R494) -/

/-- PT_TEST.TEST_EN. Clearing it lets a latched ENABLE, DRAIN or shut-down take effect. -/
def State.testEnable (s : State) (n : Nat) (on : Bool) : State :=
  let b := portB n
  let st := s.pst n
  if on then (if st = pDISABLED || st = pDRAINED then s.wr b F.PT_TEST_TEST_EN 1 else s)
  else if !s.rdB b F.PT_TEST_TEST_EN then s
  else
    let s := (List.range 9).foldl (fun s k => s.wr b F.PT_ERR_LOCK 0 k) (s.wr b F.PT_TEST_TEST_EN 0)
    if !s.rdB b F.PORT_CTL_ENABLE then s.shutDown n
    else if (st = pDISABLED && s.rd b F.PORT_CFG_MODE ≠ 0) || (st = pDRAINED && !s.rdB b F.PORT_CTL_DRAIN) then s.waitSignal n
    else s
def execPtTestEnable (n : Fin 12) (on : Bool) (s : State) : Out := .next (s.testEnable n.val on)

/-- PT_TEST.CLEAR: the counts of every lane. -/
def State.testClear (s : State) (n : Nat) : State :=
  (List.range 9).foldl (fun s k => ((s.wr (portB n) F.PT_ERR_ERRORS 0 k).wr (portB n) F.PT_ERR_LOCK_LOSSES 0 k).wr (portB n) F.PT_BITS_BITS 0 k) s
def execPtTestClear (n : Fin 12) (s : State) : Out := .next (s.testClear n.val)

/-- PT_MARGIN.GO: discarded while DONE is 0. -/
def State.marginGo (s : State) (n : Nat) : State := s.wr (portB n) F.PT_MARGIN_RES_DONE 0
def execPtMarginGo (n : Fin 12) (s : State) : Out := .next (s.marginGo n.val)

/-- MARGIN_SCAN_DONE: the errors that the scan has counted. -/
def execMarginScanDone (n : Fin 12) (errors : Nat) (s : State) : Out :=
  .next (
    if s.rdB (portB n.val) F.PT_MARGIN_RES_DONE then s
    else (s.wr (portB n.val) F.PT_MARGIN_RES_ERRORS (sat 40 errors)).wr (portB n.val) F.PT_MARGIN_RES_DONE 1)

/-- PT_CHECKER_LOCK: the lane's checker runs and has found its pattern. -/
def execPtCheckerLock (n : Fin 12) (lane : Fin 9) (s : State) : Out :=
  .next (
    let b := portB n.val
    if s.rdB b F.PT_TEST_TEST_EN && tb (s.rd b F.PT_TEST_CHK_LANES) lane.val then s.wr b F.PT_ERR_LOCK 1 lane.val else s)

/-- PT_CHECKER_LOCK_LOSS. -/
def execPtCheckerLockLoss (n : Fin 12) (lane : Fin 9) (s : State) : Out :=
  .next (
    let b := portB n.val
    if s.rdB b F.PT_ERR_LOCK lane.val then (s.wr b F.PT_ERR_LOCK 0 lane.val).satAdd b F.PT_ERR_LOCK_LOSSES 1 lane.val else s)

end Sys2Proof.Machine
end

