-- ==== Sys2Proof/Machine/Telemetry.lean ====
section
/-! DEFINITION. Error records on their way to the ring (R458 to R461), congestion records, PC samples, the trace, snapshots and partition stops (chapter 19). -/

namespace Sys2Proof.Machine

/-! ### Error records -/

/-- The 64 bytes of a record with its SEQ (Table 18-3). -/
def ErrRec.bytes (r : ErrRec) (seq : Nat) : List Byte :=
  let body := wordBytes r.w0 ++ wordBytes r.w1 ++ wordBytes r.w2 ++ wordBytes r.w3 ++ wordBytes r.w4 ++ wordBytes r.w5 ++
    wordBytes (pack [(0, 32, seq), (32, 16, r.rep)]) ++ bytesOf 4 0
  body ++ bytesOf 4 (crc32c (body.take 60))

/-- ERROR_RECORD_WRITE: the oldest queued record goes to the ring. -/
def execErrorRecordWrite (s : State) : Out :=
  .next (
    match s.obs.errQ with
    | [] => s
    | r :: t =>
      let seq := s.rd telB F.ERR_WIDX_WIDX
      let size := 2 ^ s.rd telB F.ERR_RING_SIZE_LOG2
      let behind := (seq + 2 ^ 32 - s.rd telB F.ERR_RIDX_RIDX) % 2 ^ 32
      let s := { s with obs.errQ := t }
      let s := (s.memWrite false true 28 (s.errBase + 64 * (seq % size)) (r.bytes seq)).2
      let s := if size ≤ behind && behind < 2 ^ 31 then s.satAdd telB F.ERR_RIDX_OVERWRITTEN 1 else s
      s.wr telB F.ERR_WIDX_WIDX (seq + 1))

/-! ### Congestion records (R467 to R469) -/

/-- The counters whose increase a congestion record holds. -/
def congFields : List (Nat × Field × Nat) :=
  [(routeB, F.ROUTE_TURN_TURNED_PKTS, 0), (routeB, F.ROUTE_TURN_LATE_FRAMES, 0), (routeB, F.THROTTLE_STAT_THROTTLED, 0),
   (seqB, F.HOLD_COUNT_HELD_DELIVERIES, 0), (seqB, F.COMMIT_COUNT_REEXECUTED, 0), (seqB, F.COMMIT_COUNT_SLIPPED, 0)] ++
  (List.range 12).flatMap (fun n =>
    [(portB n, F.PT_POSITIONS_MOVED, 0), (portB n, F.PORT_REPLAY_REPLAYED, 0), (portB n, F.PT_TX_BYTES_BYTES, 0)] ++
    (List.range 8).map (fun v => (portB n, F.PORT_VC_NO_CREDIT, v)))

/-- The increase of a counter over the span. -/
def State.congInc (s : State) (b : Nat) (f : Field) (i : Nat := 0) : Nat :=
  (s.rd b f i + 2 ^ f.w - s.obs.congBase.get 0 (fkey b f i)) % 2 ^ f.w

/-- The same summed over the ports. -/
def State.congSum (s : State) (f : Field) : Nat := (List.range 12).foldl (fun n p => n + s.congInc (portB p) f) 0

/-- Words 0 to 6 and the low half of word 7 (Table 19-4), at a boundary. -/
def State.congWords (s : State) : List W64 :=
  let portsUp := (List.range 12).foldl (fun m n => setBit m n (s.pst n = pUP)) 0
  let credit := (List.range 12).foldl (fun n p => (List.range 8).foldl (fun n v => n + s.congInc (portB p) F.PORT_VC_NO_CREDIT v) n) 0
  let r := fun (f : Field) => sat 32 (s.congInc routeB f)
  [ pack [(0, 16, s.device), (16, 5, s.rd telB F.CONG_CFG_INTERVAL_LOG2), (24, 16, s.rd telB F.CONG_STAT_SEQ),
      (40, 1, s.rd telB F.FLT_STAT_UNMASKED), (41, 1, s.rd telB F.FLT_STAT_DEGRADED), (42, 1, b2n (s.obs.congFlags.getLsbD 0)),
      (43, 1, b2n (s.obs.congFlags.getLsbD 1))],
    BitVec.ofNat 64 s.fieldCount,
    pack [(0, 12, s.dirBits false), (12, 12, s.dirBits true), (24, 12, portsUp), (36, 12, s.obs.congThrottled)],
    pack [(0, 32, r F.ROUTE_TURN_TURNED_PKTS), (32, 32, r F.ROUTE_TURN_LATE_FRAMES)],
    pack [(0, 32, sat 32 (s.congSum F.PT_POSITIONS_MOVED)), (32, 32, r F.THROTTLE_STAT_THROTTLED)],
    pack [(0, 32, sat 32 credit), (32, 16, sat 16 (s.congSum F.PORT_REPLAY_REPLAYED)), (48, 11, s.obs.congPeak), (59, 4, s.obs.congPort)],
    pack [(0, 32, s.congInc seqB F.HOLD_COUNT_HELD_DELIVERIES), (32, 16, sat 16 (s.congInc seqB F.COMMIT_COUNT_REEXECUTED)),
      (48, 16, sat 16 (s.congInc seqB F.COMMIT_COUNT_SLIPPED))],
    pack [(0, 32, sat 32 (s.congSum F.PT_TX_BYTES_BYTES / 1024))] ]

/-- The 64 bytes of a congestion record. -/
def State.congBytes (s : State) : List Byte :=
  let body := (s.congWords.flatMap wordBytes).take 60
  body ++ bytesOf 4 (crc32c body)

/-- A new span begins: counters, flags and peaks start again from what stands now. -/
def State.congRebase (s : State) : State :=
  let now := s.passIdx
  let base := congFields.foldl (fun (m : SMap Nat) e => m.put 0 (fkey e.1 e.2.1 e.2.2) (s.rd e.1 e.2.1 e.2.2)) []
  let top := (List.range 12).foldl (fun (m : Nat × Nat) n => if m.1 < s.waitingElastic n then (s.waitingElastic n, n) else m) (0, 0)
  let act := s.rd routeB F.THROTTLE_STAT_ACTIVE
  { s with
    obs.congBase := base, obs.congFlags := 0, obs.congThrottled := act, obs.congPeak := top.1, obs.congPort := top.2
    obs.congMade := some now }

/-- Is a packet a congestion record of this module that has not left the injection? -/
def State.congWaits (s : State) (r : Routable) : Bool :=
  r.src.isNone && r.pkt.kind = 1 && r.pkt.stream = 0xFFE && r.pkt.src = s.device && s.obs.congTags.contains r.pkt.tag

/-- Send a record to the collector: one that still waits for the router is replaced (R469). -/
def State.congSend (s : State) (bs : List Byte) : State :=
  let m := s.passNum / 2 ^ s.rd telB F.CONG_CFG_INTERVAL_LOG2
  let cb := s.rd telB F.CONG_CFG_COLLECT_BITS
  let a := (s.rd telB F.CONG_DEST_ADDR / 64 * 64 + 64 * ((m % 2) * 2 ^ cb + s.device % 2 ^ cb)) % 2 ^ 64
  let stale := s.fab.txq.filter s.congWaits
  let s := if stale = [] then s
    else
      let keep := s.fab.txq.filter (fun r => !s.congWaits r)
      let tags := s.obs.congTags.filter (fun t => !stale.any (fun r => r.pkt.tag = t))
      ({ s with fab.txq := keep, obs.congTags := tags }).satAdd telB F.CONG_STAT_LATE 1
  let fails := fun s : State => s.satAdd telB F.CONG_STAT_SEND_FAILS 1
  if a / 2 ^ 48 = s.device then
    let r := if s.touchesFallow (a % 2 ^ 48) 64 then (rFALLOW, s) else s.memWrite false true 28 (a % 2 ^ 48) bs
    if r.1 = rOK then r.2 else fails r.2
  else
    let t := s.newTag
    let u := t.2.sendElastic { dst := a / 2 ^ 48, kind := 1, stream := 0xFFE, addr := a % 2 ^ 48, tag := t.1 } bs
    if u.1 then { u.2 with obs.congTags := u.2.obs.congTags ++ [t.1] } else fails u.2

/-- CONGESTION_RECORD: at a boundary of the module's phase. -/
def execCongestionRecord (s : State) : Out :=
  .next (
    let i := 2 ^ s.rd telB F.CONG_CFG_INTERVAL_LOG2
    if !s.firstPass || s.phase ≠ 0 || s.passIdx % i ≠ s.device % i || s.obs.congMade = some s.passIdx then s
    else if !s.rdB telB F.CONG_CFG_ENABLE then s.congRebase
    else
      let bs := s.congBytes
      let send := s.rdB telB F.CONG_CFG_SEND
      let s := (List.range 8).foldl (fun s w => s.wr telB F.CONG_LAST_WORD (num bs (8 * w) 8) w) s
      let s := s.wrapAdd telB F.CONG_STAT_SEQ 1
      (if send then s.congSend bs else s).congRebase)

/-- HOLDOVER and FOREIGN at a boundary of the span. -/
def State.congBoundary (s : State) : State :=
  let hold : BitVec 2 := if s.rd seqB F.TIME_STAT_STATE = 3 then 1 else 0
  let foreign : BitVec 2 := if s.rd seqB F.TIME_STAT_FOREIGN_PORTS ≠ 0 then 2 else 0
  { s with obs.congFlags := s.obs.congFlags ||| hold ||| foreign }

/-! ### PC samples (R472) -/

/-- The queue is not empty and no head is ready (R190). -/
def Slot.headWait (x : Slot) (q : List QEntry) : Bool :=
  let ready := fun e : QEntry => fld e.desc.w1 6 1 = 0 || decide (fld e.desc.w1 8 16 ≤ (x.tok.get 0 (fld e.desc.w1 0 6)).toNat)
  let head := fun ph : Nat => q.find? (fun e => fld e.desc.w0 8 1 = ph)
  q ≠ [] && !((head 0).any ready || (head 1).any ready)

/-- One engine word: the oldest command past dequeue. -/
def Slot.engineWord (x : Slot) (run : Option Flight) (q : List QEntry) : W64 :=
  let d := (run.map (·.q.desc)).getD {}
  pack [(0, 16, fld d.w0 32 16), (16, 16, fld d.w0 48 16), (32, 8, fld d.w0 0 8), (40, 1, b2n run.isSome), (41, 7, q.length), (48, 1, b2n (x.headWait q))]

/-- The PC sample of a slot (Table 19-7). -/
def State.sample (s : State) (k : CoreId) : List W64 :=
  let x := s.slot k
  let c := x.core
  let state := s.csrValue (slotB k + F.CORE_STAT_HALTED.off) % 256
  traceHdr 1 k.plot.val k.slot.val s.stamp ++
  [ pack [(0, 14, c.pc), (14, 1, b2n c.bank), (16, 16, c.furrowId), (32, 8, state), (40, 3, c.slot)],
    x.engineWord x.matPipe.head? x.matQ,
    x.engineWord ((x.vtail.head?.map (·.f)).or (x.vrun.map (·.f))) x.vecQ,
    x.engineWord x.dmPipe.head? x.dmQ,
    pack [(0, 48, s.passNum)] ]

/-- PC_SAMPLE: every filtered cluster, in the order of plot and slot. -/
def execPcSample (s : State) : Out :=
  .next (
    let now := s.fieldCount
    if !s.tracing || !s.rdB telB F.TRACE_CFG_SAMPLE_EN || now % 2 ^ s.rd telB F.TRACE_CFG_PERIOD_LOG2 ≠ 0 || s.obs.sampled = some now then s
    else (((List.range 32).flatMap slotsOf).filter s.traced).foldl (fun s k => s.tracePut (s.sample k)) { s with obs.sampled := some now })

/-! ### The trace (R470, R475) -/

/-- Record slots of the trace region. -/
def State.traceSlots (s : State) : Nat := s.optBits 0x22 0 8 * 2 ^ 24

/-- The trace is stopped. -/
def State.traceStopped (s : State) (cause : Nat) : State :=
  ({ s with obs.traceFlush := none, obs.tracePost := none, obs.traceQ := [] }).wr telB F.TRACE_STAT_STATE 3 |>.wr telB F.TRACE_STAT_TRIG_CAUSE cause

/-- The flush that ends a run: branch records in the making are written out first (R473). -/
def State.traceFlushTo (s : State) (cause : Nat) : State :=
  let s := ((List.range 32).flatMap slotsOf).foldl State.branchFlush s
  if s.obs.traceQ = [] then s.traceStopped cause else { s with obs.traceFlush := some cause, obs.tracePost := none }

/-- TRACE_BLOCK_WRITE: eight records, or in a flush the last ones with pad records behind them. A ring wraps over its oldest records; MODE 1 stops when the
region is full, and what the queue then still holds is lost. -/
def execTraceBlockWrite (s : State) : Out :=
  .next (
    let q := s.obs.traceQ
    let w := s.rd telB F.TRACE_WIDX_WIDX
    let cap := s.traceSlots
    let mode1 := s.rdB telB F.TRACE_CFG_MODE
    if q.length < 8 && (s.obs.traceFlush.isNone || q = []) then s
    else if mode1 && cap ≤ w then
      ((s.wr telB F.TRACE_STAT_FULL 1).satAdd telB F.TRACE_STAT_DROPPED q.length).traceStopped (s.obs.traceFlush.getD 0)
    else
      let recs := ((q.take 8) ++ List.replicate 8 (List.replicate 8 0)).take 8
      let s := (s.memWrite false true 28 (s.traceBase + 64 * (w % cap)) (recs.flatMap (fun r => r.flatMap wordBytes))).2
      let s := ({ s with obs.traceQ := q.drop 8 }).wr telB F.TRACE_WIDX_WIDX (w + 8)
      let s := if cap ≤ w && !mode1 then s.wr telB F.TRACE_STAT_WRAPPED 1 else s
      if mode1 && cap ≤ w + 8 then
        ((s.wr telB F.TRACE_STAT_FULL 1).satAdd telB F.TRACE_STAT_DROPPED s.obs.traceQ.length).traceStopped (s.obs.traceFlush.getD 0)
      else match s.obs.traceFlush with
        | some c => if s.obs.traceQ = [] then s.traceStopped c else s
        | none => s)

/-- TRACE_CTL.START. -/
def State.traceStart (s : State) : State :=
  if s.obs.traceFlush.isSome then ({ s with obs.traceReq := some true }).wr telB F.TRACE_STAT_ENABLE_PENDING 1
  else if s.tracing then s
  else { s with obs.traceReq := some true }
def execTraceStart (s : State) : Out := .next s.traceStart

/-- TRACE_CTL.STOP: it flushes at the next boundary, and it cancels a START that waits. -/
def State.traceStop (s : State) : State :=
  if s.tracing then { s with obs.traceReq := some false }
  else ({ s with obs.traceReq := none }).wr telB F.TRACE_STAT_ENABLE_PENDING 0
def execTraceStop (s : State) : Out := .next s.traceStop

/-- TRACE_CTL.RESTART. -/
def State.traceRestart (s : State) : State :=
  if s.rd telB F.TRACE_STAT_STATE = 3 then ((s.wr telB F.TRACE_STAT_STATE 0).wr telB F.TRACE_WIDX_WIDX 0).wr telB F.TRACE_WIDX_SEQ 0 else s
def execTraceRestart (s : State) : Out := .next s.traceRestart

/-- TRACE_POST_END: POST_PASSES Passes have followed the trigger. -/
def execTracePostEnd (s : State) : Out :=
  .next (
    if s.rd telB F.TRACE_STAT_STATE = 2 && s.obs.tracePost = some 0 && s.obs.traceFlush.isNone then s.traceFlushTo (s.rd telB F.TRACE_STAT_TRIG_CAUSE) else s)

/-- What a boundary does to the trace: STOP, START, and the count of Passes after a trigger. -/
def State.traceBoundary (s : State) : State :=
  let post := s.obs.tracePost.map (· - 1)
  let s := { s with obs.tracePost := post }
  match s.obs.traceReq with
  | some false => let s := { s with obs.traceReq := none }; if s.tracing then s.traceFlushTo 4 else s
  | some true =>
    if s.obs.traceFlush.isSome then s
    else
      let s := ({ s with obs.traceReq := none }).wr telB F.TRACE_STAT_ENABLE_PENDING 0
      if s.rd telB F.TRACE_STAT_STATE = 0 || s.rd telB F.TRACE_STAT_STATE = 3 then s.wr telB F.TRACE_STAT_STATE 1 else s
  | none => s

/-- TRACE_MARK_WRITE (R474). -/
def State.traceMark (s : State) (k : CoreId) (v : W64) : State :=
  if s.rdB telB F.TRACE_CFG_MARK_EN && s.traced k then s.tracePut (traceHdr 4 k.plot.val k.slot.val s.stamp ++ [v]) else s
def execTraceMarkWrite (k : CoreId) (v : W64) (s : State) : Out := .next (s.traceMark k v)

/-! ### Snapshots and peaks (R463, R464) -/

/-- TEL_CTL.SNAP. -/
def State.snapGo (s : State) : State := { s with obs.snapReq := true }
def execTelSnap (s : State) : Out := .next s.snapGo

/-- The counters are copied in the clk of the boundary. -/
def State.snapBoundary (s : State) : State :=
  if s.obs.snapReq then
    let copy := s.csr.keep (fun k => snapped (k / 64))
    ({ s with obs.snapReq := false, obs.snap := copy }).wr telB F.TEL_SNAP_TIME_STAMP s.stamp
  else s

/-- TEL_CTL.CLEAR_PEAKS: the PEAK fields of chapter 19. -/
def State.clearPeaks (s : State) : State :=
  (List.range 12).foldl (fun s n => (List.range 8).foldl (fun s v => s.wr (portB n) F.PT_Q_PEAK 0 v) s) s
def execClearPeaks (s : State) : Out := .next s.clearPeaks

/-! ### Stopping a partition (R476, R477) -/

/-- DBG_STOP.GO. -/
def State.stopGo (s : State) : State :=
  let at_ := s.rd telB F.DBG_STOP_STOP_PASS
  let due := if s.passNum < at_ then s.passIdx + (at_ - s.passNum) else s.passIdx + 1
  ({ s with obs.dbgArm := some due }).wr telB F.DBG_STAT_STOPPED 0
def execDbgStopGo (s : State) : Out := .next s.stopGo

/-- The halt of a stopped partition's cores, before any furrow launches. -/
def State.dbgBoundary (s : State) : State :=
  if s.obs.dbgReq || s.obs.dbgArm.any (· ≤ s.passIdx) then
    let s := { s with obs.dbgReq := false, obs.dbgArm := none }
    let s := (s.partSlots (s.rd telB F.DBG_STOP_PART)).foldl State.haltReq s
    ((s.wr telB F.DBG_STAT_STOPPED 1).wrapAdd telB F.DBG_STAT_STOPS 1).traceTrigger 3 0
  else s

end Sys2Proof.Machine
end

