-- ==== Sys2Proof/Machine/Csr.lean ====
section
/-! DEFINITION. Register accesses by address (R10 to R13, R253 to R257, R377, R436): who reaches what, what a write does under the access codes and
under the register's own text, and the commands that make such accesses. -/

namespace Sys2Proof.Machine

/-- The state after a command that answers one; the state itself otherwise. -/
def ran (f : State → Out) (s : State) : State := match f s with | .next t => t | _ => s

/-- Apply a step when a bit is set. -/
def whenB (b : Bool) (f : State → State) (s : State) : State := if b then f s else s

/-! ### The bits of a write -/

/-- A field's value after a masked write. -/
def State.merged (s : State) (base : Nat) (f : Field) (i v mask : Nat) : Nat :=
  let m := bits mask f.lo f.w
  (s.view base f i &&& (2 ^ f.w - 1 - m)) ||| (bits v f.lo f.w &&& m)

/-- The whole register after a masked write: what is not written keeps its value. -/
def State.mergedWord (s : State) (base : Nat) (r : Reg) (i v mask : Nat) : W64 :=
  pack (r.fields.map (fun f => (f.lo, f.w, s.merged base f i v mask)))

/-- Fields that take no zero (their Meaning columns). -/
def noZero : List (Nat × Field) :=
  [(hostB, F.QM_CFG_HOST_TIMEOUT), (hostB, F.QM_CFG_PROBE_PASSES), (collB, F.COLL_CFG_HOLD_LIMIT), (collB, F.COLL_CFG_HARROW_LIMIT),
   (telB, F.FLT_CFG_STRIKE_LIMIT), (telB, F.FLT_CFG_STRIKE_WINDOW), (rstB, F.RST_CFG_DRAIN_LIMIT)]

/-- Fields whose text limits their values: lowest and highest. -/
def ranged : List (Nat × Field × Nat × Nat) :=
  [(collB, F.COLL_CFG_CHECK_LOG2, 4, 12), (telB, F.CONG_CFG_INTERVAL_LOG2, 6, 16), (telB, F.CONG_CFG_COLLECT_BITS, 0, 16),
   (telB, F.TRACE_CFG_PERIOD_LOG2, 8, 24), (rstB, F.PWR_CAP_LIMIT, 1000, 2000), (rstB, F.THERM_CFG_WARN, 80, 105)]

def isPort (base : Nat) : Bool := portB 0 ≤ base && base < portB 12
def isPlot (base : Nat) : Bool := 0x10000000 ≤ base && (base - 0x10000000) % 0x1800000 = 0
def isSlot (base : Nat) : Bool := 0x10000000 ≤ base && (base - 0x10000000) % 0x1800000 ≠ 0

/-- Does a field accept a value (the discards of the register tables)? -/
def State.accepts (s : State) (base : Nat) (f : Field) (v : Nat) : Bool :=
  !(noZero.contains (base, f) && v = 0) &&
  ranged.all (fun e => !(e.1 = base && e.2.1 = f) || (decide (e.2.2.1 ≤ v) && decide (v ≤ e.2.2.2))) &&
  !(isPort base && (f = F.PORT_CFG_LINK_TIMEOUT || f = F.PORT_CFG_REPLAY_LIMIT) && v = 0) &&
  !(isPort base && f = F.PT_TEST_PATTERN && v = 3) && !(isPort base && f = F.PT_TEST_LOOP && 2 ≤ v) &&
  !(isPort base && f = F.PT_MARGIN_DWELL_LOG2 && !(decide (20 ≤ v) && decide (v ≤ 40))) &&
  !(isPlot base && f = F.GLEAN_SUM_RING_SIZE_LOG2 && decide (1 ≤ v) && decide (v ≤ 3)) &&
  !(base = routeB && f = F.ROUTE_CFG_THROTTLE_LO && decide (s.rd routeB F.ROUTE_CFG_THROTTLE_HI < v)) &&
  !(base = telB && (f.off = F.TRACE_CFG_MODE.off || f.off = F.TRACE_FILTER_PLOTS.off || f.off = F.TRACE_LAYER_LO.off) &&
    (s.rd telB F.TRACE_STAT_STATE = 1 || s.rd telB F.TRACE_STAT_STATE = 2))

/-- Low address bits that read 0: how many. -/
def lowZero (base : Nat) (f : Field) : Nat :=
  if (isPlot base && f = F.GLEAN_REQ_DEST_ADDR) || (base = hayB && (f = F.HW_SUBMIT_ADDR || f = F.ATT_DEST_ADDR)) || (base = telB && f = F.CONG_DEST_ADDR)
  then 6
  else if isSlot base && (f = F.CORE_DBG_RESUME_PC || f = F.IM_CTL_ENTRY || f = F.CORE_BP_OFFSET) then 2
  else 0

/-- Fields that the register's own command stores (below). -/
def stored (base : Nat) (f : Field) : Bool :=
  !(isPort base && (f = F.PORT_CTL_ENABLE || f = F.PORT_CTL_DRAIN || f = F.PT_TEST_TEST_EN)) && !(base = rstB && f.off = F.RST_CTL_DOMAIN.off) &&
  !(base = hostB && f = F.QP_STAT_ENABLE) &&
  !(isSlot base && (f.off = F.CORE_GDATA_DATA.off || f.off = F.CMP_RING_BASE.off || f.off = F.TOK_T0.off || f.off = F.SR_SEED_SEED.off ||
    f.off = F.WR_REGION_BASE_LINE.off || f.off = F.WR_SPILL_BASE.off)) &&
  !(isPlot base && f.off = F.BIN_CFG_JOURNAL_BASE.off)

/-- PASS_LEN always holds a legal value (R39, R61), and so does COMMIT_GUARD (R64): a write of another is discarded (log 69). -/
def lockedOk (base : Nat) (f : Field) (n : Nat) : Bool :=
  if base = seqB && f = F.PASS_CFG_PASS_LEN then passLenOk n
  else if base = seqB && f = F.COMMIT_CFG_COMMIT_GUARD then 12 ≤ n && n ≤ 63
  else if base = routeB && f = F.ROUTE_CFG_UNRES_MIN then 1 ≤ n
  else true

/-- The access codes of Table 0-5 on one field. -/
def State.fieldWrite (s : State) (base : Nat) (f : Field) (i v mask : Nat) : State :=
  if bits mask f.lo f.w = 0 then s
  else
    let n := s.merged base f i v mask
    let n := n / 2 ^ lowZero base f * 2 ^ lowZero base f
    match f.acc with
    | .rw => if stored base f && s.accepts base f n then s.wr base f n i else s
    | .rwl => if s.firstPass || !lockedOk base f n then s else s.wr base f n i
    | .w1c =>
      let ones := bits (v &&& mask) f.lo f.w
      s.wr base f (s.rd base f i &&& (2 ^ f.w - 1 - ones)) i
    | _ => s

def State.fieldsWrite (s : State) (base : Nat) (r : Reg) (i v mask : Nat) : State :=
  r.fields.foldl (fun s f => s.fieldWrite base f i v mask) s

/-! ### Registers whose writes do more -/

/-- Is bit `b` written with 1? -/
def one (v mask b : Nat) : Bool := tb (v &&& mask) b

/-- A cluster block. -/
def State.slotEffect (s : State) (k : CoreId) (r : Reg) (i v mask : Nat) (w : W64) : State :=
  let b := one v mask
  if r.off = F.CORE_DBG_GSEL.off then
    whenB (b 2) (ran (execHaltReq k)) (whenB (b 1) (ran (execStep k)) (whenB (b 0) (ran (execResume k)) s))
  else if r.off = F.CORE_GDATA_DATA.off then
    let g := s.rd (slotB k) F.CORE_DBG_GSEL
    if (s.core k).halted && g ≠ 0 then s.modCore k (fun c => { c with regs := c.regs.put 0 g w }) else s
  else if r.off = F.IM_CTL_ENTRY.off then whenB (b 0) (ran (execImCtlSwitch k)) s
  else if r.off = F.CORE_CHECK_CTL_CLEAR.off then
    whenB (b 2) (ran (execInjectMem k)) (whenB (b 1) (ran (execInjectLockstep k)) (whenB (b 0) (ran (execCoreCheckClear k)) s))
  else if r.off = F.MAT_CHECK_CTL_CLEAR.off then
    whenB (b 3) (ran (execInjectParity k)) (whenB (b 2) (ran (execMatInjectCompare k)) (whenB (b 1) (ran (execInjectResidue k))
      (whenB (b 0) (ran (execMatCheckClear k)) s)))
  else if r.off = F.VEC_CHECK_CTL_CLEAR.off then
    whenB (b 2) (ran (execVecInjectParity k)) (whenB (b 1) (ran (execVecInjectCompare k)) (whenB (b 0) (ran (execVecCheckClear k)) s))
  else if r.off = F.CMP_RING_BASE.off then s.cmpRing k w
  else if r.off = F.EPOCH_CTL_NEXT.off then whenB (b 8) (ran (execEpochAdvance k)) s
  else if r.off = F.TOK_T0.off then s.tokenReg k i w
  else if r.off = F.SR_SEED_SEED.off then s.srSeed k w
  else if r.off = F.WR_REGION_BASE_LINE.off then s.wrRegion k i false w
  else if r.off = F.WR_SPILL_BASE.off then s.wrRegion k i true w
  else if r.off = F.TRACE_MARK_VALUE.off then s.traceMark k (BitVec.ofNat 64 (v &&& mask))
  else s

/-- A plot block. -/
def State.plotEffect (s : State) (p : Nat) (r : Reg) (i v mask : Nat) (w : W64) : State :=
  let b := one v mask
  let q : Fin 32 := Fin.ofNat 32 p
  let u : BinId := ⟨q, Fin.ofNat 8 i⟩
  if r.off = F.GRAN_ECC_CTL_CLEAR.off then
    whenB (b 2) (ran (execInjectDouble q)) (whenB (b 1) (ran (execInjectSingle q)) (whenB (b 0) (ran (execGranEccClear q)) s))
  else if r.off = F.GLEAN_REQ_CTL_GO.off then whenB (b 0) (ran (execGleanRequest q)) s
  else if r.off = F.BIN_CFG_JOURNAL_BASE.off then s.binCfg u w
  else if r.off = F.BIN_CHECK_CTL_CLEAR.off then whenB (b 1) (ran (execBinInjectCompare u)) (whenB (b 0) (ran (execBinCheckClear u)) s)
  else if r.off = F.DRILL_CHECK_CTL_CLEAR.off then whenB (b 1) (ran (execDrillInjectCompare q)) (whenB (b 0) (ran (execDrillCheckClear q)) s)
  else s

/-- A port's block. -/
def State.portEffect (s : State) (n : Fin 12) (r : Reg) (v mask : Nat) : State :=
  let b := one v mask
  let pb := portB n.val
  if r.off = F.PORT_CFG_MODE.off then s.onPortMode n.val
  else if r.off = F.PORT_CTL_ENABLE.off then
    if !tb mask 0 then s
    else
      let s := if b 0 then ran (execPortEnable n) s else ran (execPortDisable n) s
      let s := if b 1 then ran (execPortDrain n) s else ran (execPortDrainClear n) s
      let lane := s.rd pb F.PORT_CTL_SPARE_LANE
      whenB (b 4) (ran (execSpareNow n (Fin.ofNat 8 lane))) (whenB (b 3) (ran (execPortCountClear n)) (whenB (b 2) (ran (execRetrain n)) s))
  else if r.off = F.PT_TEST_TEST_EN.off then
    whenB (b 26) (ran (execPtTestClear n)) (whenB (tb mask 0) (ran (execPtTestEnable n (b 0))) s)
  else if r.off = F.PT_MARGIN_GO.off then whenB (b 22) (ran (execPtMarginGo n)) s
  else s

/-- The collective block. -/
def State.collEffect (s : State) (r : Reg) (i v mask : Nat) : State :=
  let b := one v mask
  if r.off = F.COLL_CHECK_CTL_CLEAR.off then
    let n := s.rd collB F.COLL_CHECK_CTL_INJ_PORT
    whenB (b 1 && decide (n < 12)) (ran (execCollInject (Fin.ofNat 12 n))) (whenB (b 0) (ran execCollCheckClear) s)
  else if r.off = F.CHAN_CFG_CLEAR.off then whenB (b 8) (ran (execChannelClear (Fin.ofNat 512 i))) s
  else s

/-- The host queue manager's block. A doorbell by register carries the host that writes it. -/
def State.hostEffect (s : State) (who : Requester) (r : Reg) (i v mask : Nat) : State :=
  let b := one v mask
  let x := v &&& mask
  let h := match who with | .host h => some h.val | _ => none
  if r.off = F.QP_DB_SQ_TAIL.off then
    s.doorbell i h (if b 32 then some (bits x 0 16) else none) (if b 33 then some (bits x 16 16) else none)
  else if r.off = F.QP_STAT_ENABLE.off then
    if !tb mask 0 then s else if b 0 then ran (execQpEnable (Fin.ofNat 8192 i)) s else ran (execQpDisable (Fin.ofNat 8192 i)) s
  else s

/-- The reset block: RST_CTL and the kick. -/
def State.rstEffect (s : State) (who : Requester) (r : Reg) (v mask : Nat) : State :=
  let b := one v mask
  if r.off = F.RST_CTL_DOMAIN.off then
    let w := s.mergedWord rstB r 0 v mask
    let t : RstTarget := ⟨BitVec.ofNat 3 (fld w 0 3), BitVec.ofNat 5 (fld w 8 5), BitVec.ofNat 5 (fld w 13 5)⟩
    let confirm := BitVec.ofNat 8 (fld w 56 8)
    let s := s.rstAs who (fun _ s => s.rstFields t)
    let s := if b 25 then ran (execRstHold who t confirm) s else whenB (b 24) (ran (execRstGo who t confirm)) s
    whenB (b 26) (ran (execRstRelease who t)) s
  else if r.off = F.WDOG_KICK_KICK.off then whenB (b 0) (ran (execWdogKick who)) s
  else s

/-- Hayward's block. -/
def State.hayEffect (s : State) (r : Reg) (v mask : Nat) : State :=
  let b := one v mask
  if r.off = F.HW_SUBMIT_GO.off then whenB (b 48) (ran execChangeRecordSubmit) s
  else if r.off = F.ATT_CTL_GO.off then whenB (b 0) (ran execAttestationRequest) s
  else s

/-- The telemetry block. -/
def State.telEffect (s : State) (r : Reg) (v mask : Nat) : State :=
  let b := one v mask
  if r.off = F.TEL_CTL_SNAP.off then whenB (b 2) (ran execClearPeaks) (whenB (b 0) (ran execTelSnap) s)
  else if r.off = F.TRACE_CTL_START.off then
    whenB (b 2) (ran execTraceRestart) (whenB (b 1) (ran execTraceStop) (whenB (b 0) (ran execTraceStart) s))
  else if r.off = F.DBG_STOP_GO.off then whenB (b 0) (ran execDbgStopGo) s
  else s

/-- The Barn controller's block. -/
def State.barnEffect (s : State) (r : Reg) (v mask : Nat) : State :=
  let b := one v mask
  if r.off = F.BARN_RETIRE_PKG.off then whenB (b 8) (ran (execBarnRetireRequest (BitVec.ofNat 5 (bits (v &&& mask) 0 5)))) s
  else if r.off = F.BARN_ECC_CTL_CLEAR.off then
    whenB (b 1) (ran (execBarnEccInject (BitVec.ofNat 5 (s.rd barnB F.BARN_ECC_CTL_INJ_PKG)))) (whenB (b 0) (ran execBarnEccClear) s)
  else s

/-- A masked write of a register, fields first (R384: a queue pair's ring registers are writable only while the pair is DISABLED). -/
def State.regStore (s : State) (who : Requester) (base : Nat) (r : Reg) (i v mask : Nat) : State :=
  if base = hostB && (r.off = F.QP_SQ_BASE.off || r.off = F.QP_CQ_BASE.off) && s.qpState i ≠ 0 then s
  else
    let w := s.mergedWord base r i v mask
    let s := s.fieldsWrite base r i v mask
    if isSlot base then s.slotEffect (slotAtBase base) r i v mask w
    else if isPlot base then s.plotEffect ((base - 0x10000000) / 0x1800000) r i v mask w
    else if isPort base then s.portEffect (Fin.ofNat 12 ((base - portB 0) / 0x10000)) r v mask
    else if base = collB then s.collEffect r i v mask
    else if base = hostB then s.hostEffect who r i v mask
    else if base = rstB then s.rstEffect who r v mask
    else if base = hayB then s.hayEffect r v mask
    else if base = telB then s.telEffect r v mask
    else if base = barnB then s.barnEffect r v mask
    else s

/-! ### The windows of Table 6-5 -/

/-- What an offset of a cluster block's windows reaches: an instruction bank (false A, true B) or the data memory, with the offset in it. -/
inductive Window where
  | im (bankB : Bool) (off : Nat)
  | dm (off : Nat)
deriving DecidableEq, Repr

def windowAt (rel : Nat) : Option Window :=
  if 0x80000 ≤ rel ∧ rel < 0x84000 then some (.im false (rel - 0x80000))
  else if 0x84000 ≤ rel ∧ rel < 0x88000 then some (.im true (rel - 0x84000))
  else if 0x90000 ≤ rel ∧ rel < 0x94000 then some (.dm (rel - 0x90000))
  else none

/-- A requester's number in error records (log 22). -/
def Requester.number (who : Requester) : Nat :=
  match who with
  | .steward => 28
  | .host _ => 29
  | .management => 30
  | .peerSteward => 31
  | .dataMover k => k.slot.val
  | .core k => k.slot.val

/-- A write through an instruction-bank window (R167). -/
def State.imWindow (s : State) (who : Requester) (k : CoreId) (bankB : Bool) (off : Nat) (bs : List Byte) : Nat × State :=
  let x := s.slot k
  if x.writable bankB then (rOK, s.setSlot k (x.setIm bankB (memPuts (x.im bankB) off bs)))
  else (rIM_BUSY, (s.satAdd (slotB k) F.IM_STAT_WRITE_ERRS 1).err 0x14 4 (locSlot k) {} off (Requester.number who))

/-- A write through the data-memory window: the committed copy, while the core is halted. -/
def State.dmWindow (s : State) (k : CoreId) (off : Nat) (bs : List Byte) : Nat × State :=
  if (s.core k).halted then (rOK, s.modSlot k (fun x => { x with dmem := memPuts x.dmem off bs })) else (rIM_BUSY, s)

/-- A byte read through a window. The data memory shows its committed copy, and the working values of a halted furrow that is kept for inspection (R175). -/
def State.windowByte (s : State) (k : CoreId) (w : Window) (i : Nat) : Byte :=
  let x := s.slot k
  match w with
  | .im b off => (x.im b).get 0 (off + i)
  | .dm off =>
    let a := off + i
    if x.core.halted && s.rdB (slotB k) F.CORE_DBG_DEBUG_EN && (x.tags.find? (a / 64)).isSome then x.work.get 0 a else x.dmem.get 0 a

/-! ### Who reaches what (R253, R254, R377, R436, R488) -/

/-- The plot of an offset in plot and cluster blocks, and its slot for a cluster block. -/
def plotOfOff (off : Nat) : Option (Nat × Option Nat) :=
  if off < 0x10000000 then none
  else
    let d := (off - 0x10000000) % 0x1800000
    some ((off - 0x10000000) / 0x1800000, if d < 0x100000 then none else some (d / 0x100000 - 1))

/-- The pair that an offset in the host queue manager's block belongs to. -/
def qpOfOff (off : Nat) : Option Nat :=
  if hostB + 0x10000 ≤ off ∧ off < hostB + 0x90000 then some ((off - hostB - 0x10000) / 0x40) else none

/-- Table 14-3 for a host without fabric-manager rights. -/
def State.hostMay (s : State) (h off : Nat) (write : Bool) : Bool :=
  if off < 0x100000 then !write
  else
    match plotOfOff off, qpOfOff off with
    | some p, _ => match s.partOf p.1 with | some q => tb (s.rd hostB F.HOST_PARTS h) q | none => false
    | none, some n => s.rdB hostB F.QP_OWNER_VALID n && decide (s.rd hostB F.QP_OWNER_HOST n = h)
    | none, none => false

def State.csrRight (s : State) (who : Requester) (off : Nat) (write : Bool) : Bool :=
  match who with
  | .steward => true
  | .peerSteward => true
  | .host h => tb (s.rd hostB F.GATE_CFG_FM_HOSTS) h.val || s.hostMay h.val off write
  | .dataMover k => match plotOfOff off with | some p => (s.partOf p.1).isSome && s.partOf p.1 = s.partOf k.plot.val | none => false
  | .core k => slotB k ≤ off && off < slotB k + 0x1000
  | .management => off < 0x10000 || (rstB ≤ off && off < rstB + 0x100000) || (telB ≤ off && off < telB + 0x100)

/-- Is an offset of a cluster block one of the CORE_* registers, which belong to the core domain (R408): those below IM_CTL, and from CORE_BP0 to CORE_CHECK_CTL
(Table 6-5)? -/
def coreReg (rel : Nat) : Bool := rel < 0x28 || (0x38 ≤ rel && rel < 0x88)

/-- The response that an access draws before it takes effect, and the state after a refusal (R10, R254, R256, R415). -/
def State.csrCheck (s : State) (who : Requester) (off size : Nat) (write : Bool) : Nat × State :=
  if (size ≠ 4 && size ≠ 8) || off % size ≠ 0 || decide (0x4000_0000 ≤ off) || (blockAt off).isNone then (rUNMAPPED, s)
  else
    match plotOfOff off with
    | some (p, some n) =>
      let k := coreAt p n
      if s.fallowPlot p || s.retiredSlot k then (rFALLOW, s)
      else if !s.csrRight who off write then (rDENIED, match who with | .host _ => s.hostDenied | _ => s)
      else if !s.slotOpen k || ((s.slot k).coreDom ≠ .run && coreReg (off - slotB k)) then (rFALLOW, s.wrapped) else (rOK, s)
    | some (p, none) =>
      if s.fallowPlot p then (rFALLOW, s)
      else if !s.csrRight who off write then (rDENIED, match who with | .host _ => s.hostDenied | _ => s)
      else if !s.plotOpen p then (rFALLOW, s.wrapped) else (rOK, s)
    | none => if s.csrRight who off write then (rOK, s) else (rDENIED, match who with | .host _ => s.hostDenied | _ => s)

/-- Store at a CSR offset, past the checks. -/
def State.csrStore (s : State) (who : Requester) (off size v : Nat) : Nat × State :=
  let word := off / 8 * 8
  let sh := 8 * (off - word)
  let rel := (off - 0x10000000) % 0x1800000 % 0x100000
  let win := match plotOfOff off with | some (p, some n) => (windowAt rel).map (fun w => (coreAt p n, w)) | _ => none
  match win with
  | some (k, .im b o) => s.imWindow who k b o (bytesOf size v)
  | some (k, .dm o) => s.dmWindow k o (bytesOf size v)
  | none =>
    match blockAt off with
    | none => (rUNMAPPED, s)
    | some b =>
      match regIn b.2 (word - b.1) with
      | none => (rOK, s)
      | some r => (rOK, s.regStore who b.1 r.1 r.2 ((v % 2 ^ (8 * size)) <<< sh) ((2 ^ (8 * size) - 1) <<< sh))

/-- A register write: its response and the state. -/
def State.csrWrite (s : State) (who : Requester) (off size v : Nat) : Nat × State :=
  let c := s.csrCheck who off size true
  if c.1 = rOK then c.2.csrStore who off size v else c

/-- The bytes at a CSR offset, past the checks. -/
def State.csrLoad (s : State) (off size : Nat) : Nat :=
  let word := off / 8 * 8
  let rel := (off - 0x10000000) % 0x1800000 % 0x100000
  let win := match plotOfOff off with | some (p, some n) => (windowAt rel).map (fun w => (coreAt p n, w)) | _ => none
  match win with
  | some (k, w) => ofBytes ((List.range size).map (s.windowByte k w))
  | none => bits (s.csrValue word) (8 * (off - word)) (8 * size)

/-- A register read: its response, its data (zero with an error response, R256), and the state. -/
def State.csrRead (s : State) (who : Requester) (off size : Nat) : Nat × Nat × State :=
  let c := s.csrCheck who off size false
  (c.1, if c.1 = rOK then c.2.csrLoad off size else 0, c.2)

/-! ### The commands -/

/-- CSR_WRITE: `off` from the CSR base, `size` in bytes. -/
def execCsrWrite (who : Requester) (off size : Nat) (v : W64) (s : State) : Out := .next (s.csrWrite who off size v.toNat).2

/-- IM_WINDOW_WRITE: at offset `off` of the bank's window. -/
def execImWindowWrite (who : Requester) (k : CoreId) (bankB : Bool) (off size : Nat) (v : W64) (s : State) : Out :=
  .next (
    if 0x4000 ≤ off then s
    else (s.csrWrite who (slotB k + (if bankB then 0x84000 else 0x80000) + off) size v.toNat).2)

/-- The cluster register that a core's access names (R161): alignment is checked first in CSRR and CSRW, as R161 states it for jumps (log 32). -/
def coreCsr (k : CoreId) (f : IForm) (s : State) (use : Nat → State → State) : State :=
  let a := (s.g k f.ra + f.sext).toNat
  if a % 8 ≠ 0 then s.haltCore k 0x03
  else if 0x1000 ≤ a then s.haltCore k 0x04
  else use a s

/-- CSRR. -/
def execCsrr (k : CoreId) (f : IForm) (s : State) : Out :=
  coreStep k .any true (fun s => coreCsr k f s (fun a s => (s.setG k f.rd (BitVec.ofNat 64 (s.csrLoad (slotB k + a) 8))).retire k)) s

/-- CSRW: the value of rd is written. A stepped one halts the core once the write has acted: a RESUME or STEP that it writes finds the core running and is discarded
(R179). -/
def execCsrw (k : CoreId) (f : IForm) (s : State) : Out :=
  coreStep k .any true (fun s => coreCsr k f s (fun a s =>
    let v := (s.g k f.rd).toNat
    let one := (s.core k).stepping
    let s := (s.modCore k (fun c => { c with stepping := false })).retire k
    let s := (s.csrStore (.core k) (slotB k + a) 8 v).2
    if one && !(s.core k).halted then s.haltDebug k else s)) s

/-- An access over I3C or JTAG: outside its reach a write is discarded and a read returns zero (R10, R488). -/
def State.slowWrite (s : State) (off : W64) (v : W64) : State := (s.csrWrite .management off.toNat 8 v.toNat).2
def State.slowRead (s : State) (off : W64) : W64 := BitVec.ofNat 64 (s.csrRead .management off.toNat 8).2.1

/-- I3C_WRITE. -/
def execI3cWrite (off : W64) (v : W64) (s : State) : Out := .next (s.slowWrite off v)
/-- I3C_READ: the eight bytes returned. -/
def execI3cRead (off : W64) (s : State) : Out := .next { s with obs.i3cData := s.slowRead off }
/-- CSR_ACCESS over JTAG. -/
def execCsrAccess (write : Bool) (off : W64) (v : W64) (s : State) : Out :=
  .next (let s := s.tap .csr; if write then s.slowWrite off v else { s with obs.tdo := s.slowRead off })

end Sys2Proof.Machine
end

