-- ==== Sys2Proof/Machine/DataMover.lean ====
section
/-! DEFINITION. The data mover (chapter 7, R186, R187, R192, R387): what its bodies name, DCOPY, DFILL, DSIG, DCLOSE, DPOST, answers from other
modules, completion. A row starts one command; a command to another module ends with its acknowledgements. -/

namespace Sys2Proof.Machine

/-! ### What a body names (Table 7-5) -/

/-- Rows as runs of bytes in the order of the rows, adjoining rows joined: first byte, which may lie outside the map, and length. -/
def rowRuns (base : Nat) (stride : Int) (rows n : Nat) : List (Int × Nat) :=
  if n = 0 then []
  else ((List.range rows).foldl (fun (acc : List (Int × Nat)) (i : Nat) =>
    let a : Int := (base : Int) + stride * (i : Int)
    match acc with
    | (lo, len) :: t => if lo + (len : Int) = a then (lo, len + n) :: t else (a, n) :: acc
    | [] => [(a, n)]) []).reverse

/-- Runs by their local addresses. -/
def natRuns (rs : List (Int × Nat)) : List (Nat × Nat) := rs.map (fun r => (r.1.toNat, r.2))
/-- Every run lies in the 48-bit map. -/
def runsInMap (rs : List (Int × Nat)) : Bool := rs.all (fun r => decide (0 ≤ r.1) && decide (r.1 + (r.2 : Int) ≤ 2 ^ 48))

def Desc.srcRuns (d : Desc) : List (Int × Nat) := rowRuns d.src d.srcStride d.mRows d.rowBytes
def Desc.dstRuns (d : Desc) : List (Int × Nat) := rowRuns d.dst d.dstStride d.mRows d.rowBytes
/-- First bytes of the rows of the source and of the destination. -/
def Desc.srcRows (d : Desc) : List Nat := (List.range d.mRows).map (fun (i : Nat) => ((d.src : Int) + d.srcStride * (i : Int)).toNat)
def Desc.dstRows (d : Desc) : List Nat := (List.range d.mRows).map (fun (i : Nat) => ((d.dst : Int) + d.dstStride * (i : Int)).toNat)
def Desc.closeEpoch (d : Desc) : Nat := fld d.w4 0 8
def Desc.dstCluster (d : Desc) : Nat := fld d.w7 0 9
def Desc.unit (d : Desc) : Nat := fld d.w2 0 4
def Desc.postLine (d : Desc) : Nat := fld d.w3 0 21

/-- The destination lies on another module (R187): DCOPY, DFILL, DSIG and DCLOSE have one. -/
def State.remoteDst (s : State) (d : Desc) : Bool := decide (0x10 ≤ d.code) && decide (d.code ≤ 0x13) && decide (d.dstDev ≠ s.device)
/-- A DCOPY's source lies on another module. -/
def State.remoteSrc (s : State) (d : Desc) : Bool := decide (d.code = 0x10) && decide (d.srcDev ≠ s.device)
/-- The source, or the destination, lies in this module's host window. -/
def State.srcWindow (s : State) (d : Desc) : Bool := decide (d.code = 0x10) && !s.remoteSrc d && decide (regionOf d.src = .window)
def State.dstWindow (s : State) (d : Desc) : Bool := decide (d.code ≤ 0x11) && !s.remoteDst d && decide (regionOf d.dst = .window)

/-- An address of the Granary or the Barn. -/
def inMemory (a : Nat) : Bool :=
  match regionOf a with
  | .granary _ => true
  | .barn => true
  | _ => false

/-- A posted transfer (R387). -/
def State.posted (s : State) (d : Desc) : Bool :=
  (s.srcWindow d && !s.remoteDst d && inMemory d.dst) || (s.dstWindow d && decide (d.code = 0x10) && !s.remoteSrc d && inMemory d.src)

/-! ### Checks (Table 7-6, R257, R315, R387) -/

/-- The offset of an address in CSR space. -/
def csrOff (a : Nat) : Nat := a - 0x0100_0000_0000
/-- The 64-bit accesses of a run in CSR space (R253). -/
def csrWords (r : Nat × Nat) : List Nat := (List.range (r.2 / 8)).map (fun i => csrOff r.1 + 8 * i)

/-- Does a local run touch a fallow plot or a retired slot's block (R24, R257)? -/
def State.runFallow (s : State) (r : Nat × Nat) : Bool :=
  match regionOf r.1 with
  | .csr => (csrWords r).any (fun o =>
      match plotOfOff o with
      | some (p, some n) => p < 32 && n < 17 && (s.fallowPlot p || s.retiredSlot (coreAt p n))
      | some (p, none) => p < 32 && s.fallowPlot p
      | none => false)
  | _ => s.touchesFallow r.1 r.2

/-- Is a local run inside the issuing slot's partition (check 6, R436)? -/
def State.runIn (s : State) (k : CoreId) (r : Nat × Nat) : Bool :=
  match regionOf r.1 with
  | .csr => decide (r.1 + r.2 ≤ 0x0100_4000_0000) && (csrWords r).all (fun o => (blockAt o).isSome && s.csrRight (.dataMover k) o true)
  | _ => s.inOwnPart k r

/-- Does a run of the window translate for the issuing partition (R378)? -/
def State.winIn (s : State) (k : CoreId) (write : Bool) (r : Nat × Nat) : Bool :=
  (s.partOf k.plot.val).any (fun q => (s.translate q r.1 r.2 write).isSome)

/-- The slice that a slot's partition injects into (R314). -/
def State.sliceOf (s : State) (k : CoreId) : Option Nat := (s.partOf k.plot.val).bind s.sliceOfPart

/-- Check 6 for another module: it lies in the slice of the slot's partition (R315). What has no slice or no route is refused at injection. -/
def State.reaches (s : State) (k : CoreId) (dev : Nat) : Bool := (s.sliceOf k).all (fun c => !s.outsideSlice c dev)

/-- The response that a packet of a slot's partition draws at injection: DENIED without a slice (R315), UNMAPPED without a route (R295). -/
def State.injectFails (s : State) (k : CoreId) (dev : Nat) (sched : Bool) : Nat :=
  match s.sliceOf k with
  | none => rDENIED
  | some c => if s.noWay c dev sched then rUNMAPPED else rOK

/-- The halt that an error response of a data-mover access brings (R257, R436): 0 none. -/
def haltOf (resp : Nat) : Nat := if resp = rFALLOW then 0x06 else if resp = rUNMAPPED ∨ resp = rDENIED then 0x04 else 0

/-- Check 6 for one side of a copy or a fill. -/
def State.sideIn (s : State) (k : CoreId) (posted window remote write : Bool) (dev : Nat) (rs : List (Int × Nat)) : Bool :=
  if remote then s.reaches k dev
  else runsInMap rs && (if window then posted && (natRuns rs).all (s.winIn k write) else (natRuns rs).all (s.runIn k))

/-- STREAM names a stream that can be reserved, where the destination needs one (R187). -/
def State.streamOk (s : State) (d : Desc) : Bool := !s.remoteDst d || decide (d.stream < 0xFFE)

/-- The body's part of check 2 for codes 0x10 to 0x14. -/
def State.moverBodyOk (s : State) (d : Desc) : Bool :=
  s.streamOk d &&
  match d.code with
  | 0x10 =>
    onlyFields d.w4 [(0, 60)] && d.w6 = 0 && d.w7 = 0 && d.mRows ≠ 0 && !(s.srcWindow d && s.dstWindow d) &&
      !(s.posted d && d.sigScope = 1) && !(s.srcWindow d && s.remoteDst d && d.sigScope = 3)
  | 0x11 => d.w2 = 0 && onlyFields d.w4 [(0, 60)] && onlyFields d.w5 [(32, 32)] && d.w7 = 0 && d.mRows ≠ 0 && !s.dstWindow d
  | 0x12 => d.w2 = 0 && onlyFields d.w3 [(48, 16)] && onlyFields d.w4 [(48, 12)] && d.w5 = 0 && d.w6 = 0 && d.w7 = 0
  | 0x13 => d.w2 = 0 && onlyFields d.w3 [(48, 16)] && onlyFields d.w4 [(0, 8), (48, 12)] && d.w5 = 0 && d.w6 = 0 && onlyFields d.w7 [(0, 9)]
  | _ => onlyFields d.w2 [(0, 4)] && d.unit ≤ 8 && onlyFields d.w3 [(0, 21)] && d.w4 = 0 && d.w5 = 0 && d.w6 = 0 && d.w7 = 0

/-- Check 4 for codes 0x10 to 0x14: SIG_CLUSTER, DST_CLUSTER and UNIT on this module, and local extents. -/
def State.moverFallow (s : State) (k : CoreId) (d : Desc) : Bool :=
  (!s.remoteDst d && s.sigFallow d) ||
  match d.code with
  | 0x10 => (!s.remoteSrc d && (natRuns d.srcRuns).any s.runFallow) || (!s.remoteDst d && (natRuns d.dstRuns).any s.runFallow)
  | 0x11 => !s.remoteDst d && (natRuns d.dstRuns).any s.runFallow
  | 0x13 => !s.remoteDst d && (s.physOf d.dstCluster).isNone
  | 0x14 =>
    if d.unit < 8 then tb (s.rd (plotB k.plot.val) F.FLT_PLOT_BIN_LOST) d.unit else s.rdB (plotB k.plot.val) F.FLT_PLOT_DRILL_LOST
  | _ => false

/-- Check 5 (R186). -/
def Desc.moverAligned (d : Desc) : Bool :=
  match d.code with
  | 0x10 => d.src % 64 = 0 && d.dst % 64 = 0 && d.rowBytes % 64 = 0 && d.srcStride % 64 = 0 && d.dstStride % 64 = 0
  | 0x11 => d.dst % 64 = 0 && d.rowBytes % 64 = 0 && d.dstStride % 64 = 0
  | _ => true

/-- Check 6 for codes 0x10 to 0x14. -/
def State.moverExtents (s : State) (k : CoreId) (d : Desc) : Bool :=
  let dst := fun _ : Unit => s.sideIn k (s.posted d) (s.dstWindow d) (s.remoteDst d) true d.dstDev d.dstRuns
  match d.code with
  | 0x10 => s.sideIn k (s.posted d) (s.srcWindow d) (s.remoteSrc d) false d.srcDev d.srcRuns && dst ()
  | 0x11 => dst ()
  | 0x14 => s.inOwnPart k (ownRange k d.postLine 64)
  | _ => !s.remoteDst d || s.reaches k d.dstDev

/-! ### Sending (R187, R299) -/

/-- FIDX of an owner among the senders of a stream in this Pass (R49, R299). -/
def State.senderIndex (s : State) (stream dst slice : Nat) (o : Owner) : Nat × State :=
  let mine := fun t : StreamTx => t.stream = stream && t.dst = dst
  let txs := if s.fab.streamsTx.any mine then s.fab.streamsTx else s.fab.streamsTx ++ [{ stream := stream, dst := dst, slice := slice }]
  let old := ((txs.find? mine).map (·.senders)).getD []
  let i := old.findIdx (· = o)
  let new := if i < old.length then old else old ++ [o]
  (i, { s with fab.streamsTx := modFirst mine (fun t => { t with senders := new }) txs })

/-- The cluster whose epoch takes what a command sends or writes (R186, R200). -/
def State.ownerOf (s : State) (k : CoreId) (d : Desc) : Nat :=
  if d.code = 0x13 then d.dstCluster else if d.sigScope = 3 then d.sigCluster else (s.logicalOf k).getD 0

/-- Replace the flight with a dequeue number. -/
def State.modDm (s : State) (k : CoreId) (seq : Nat) (g : Flight → Flight) : State := s.modFlight k .dataMover (fun f => f.seq = seq) g

/-- A packet of a command: KIND, address, data, whether it is the command's last, which carries a signal of scope 0b11 (R194). What a re-executed or slipped furrow sends
rides as moved frames (R55). -/
def State.sendPacket (s : State) (k : CoreId) (f : Flight) (kind fidx addr : Nat) (last : Bool) (data : List Byte) : State :=
  let d := f.q.desc
  let slice := (s.sliceOf k).getD 0
  let sig := last && decide (d.sigScope = 3)
  let t := s.newTag
  let h : Hdr :=
    { dst := d.dstDev, kind := kind, slice := slice, dirs := s.dirsTo slice d.dstDev, epoch := d.epoch, addr := addr, stream := d.stream, fidx := fidx
      last := last, sigEn := sig, sigTok := if sig then d.sigTok else 0, sigCluster := if sig then d.sigCluster else 0
      sigCount := if sig then d.sigCount else 0, closeEpoch := if kind = 5 then d.closeEpoch else 0, owner := s.ownerOf k d, tag := t.1 }
  (t.2.modDm k f.seq (fun g => { g with tags := g.tags ++ [(t.1, 0)], mute := g.mute || sig })).sendStream h data ((s.furrow? k f.q.serial).any (·.late))

/-- Send pieces in order on the command's stream, unless they are refused at injection. -/
def State.sendPieces (s : State) (k : CoreId) (f : Flight) (kind : Nat) (ps : List (Nat × List Byte)) : State :=
  let d := f.q.desc
  let refused := s.injectFails k d.dstDev true
  if refused ≠ rOK then s.dmFault k f (haltOf refused)
  else
    let t := s.senderIndex d.stream d.dstDev ((s.sliceOf k).getD 0) (.furrow k f.q.serial)
    ps.zipIdx.foldl (fun s p => s.sendPacket k f kind t.1 p.1.1 (decide (p.2 + 1 = ps.length)) p.1.2) t.2

/-- Bytes at an address go before those of the first higher one. -/
def placeBytes (r : Nat × List Byte) : List (Nat × List Byte) → List (Nat × List Byte)
  | [] => [r]
  | q :: t => if r.1 < q.1 then r :: q :: t else q :: placeBytes r t

/-- Adjoining bytes joined. -/
def joinRows (rs : List (Nat × List Byte)) : List (Nat × List Byte) :=
  rs.foldr (fun r acc =>
    match acc with
    | q :: t => if r.1 + r.2.length = q.1 then (r.1, r.2 ++ q.2) :: t else r :: acc
    | [] => [r]) []

/-- A command's rows with their bytes, in address order and cut into pieces of at most 4,064 bytes (R299). -/
def rowPieces (rows : List Nat) (n : Nat) (data : List Byte) : List (Nat × List Byte) :=
  if n = 0 then []
  else
    (joinRows ((rows.zipIdx.map (fun e : Nat × Nat => (e.1, sub data (n * e.2) n))).foldl (fun acc r => placeBytes r acc) [])).flatMap (fun r =>
      ((chunks 4064 (r.2.length / 4064 + 1) r.2).zipIdx).map (fun c : List Byte × Nat => (r.1 + 4064 * c.2, c.1)))

/-- The bytes at a range, from pieces that cover it. -/
def fromPieces (ps : List (Nat × List Byte)) (a n : Nat) : List Byte :=
  (List.range n).map (fun i =>
    ((ps.find? (fun p => decide (p.1 ≤ a + i) && decide (a + i < p.1 + p.2.length))).map (fun p => p.2.getD (a + i - p.1) 0)).getD 0)

/-! ### Reading and writing -/

/-- Read a run of CSR space as consecutive 64-bit accesses (R253); an access that halts the core is the last. -/
def State.csrReadRuns (s : State) (k : CoreId) (rs : List (Nat × Nat)) : Nat × List Byte × State :=
  (rs.flatMap csrWords).foldl (fun (acc : Nat × List Byte × State) o =>
    if acc.1 ≠ rOK then acc
    else
      let r := acc.2.2.csrRead (.dataMover k) o 8
      (r.1, acc.2.1 ++ bytesOf 8 r.2.1, r.2.2)) (rOK, [], s)

/-- Write a run of CSR space. A bank or a data memory that is busy answers IM_BUSY and the command goes on (R167). -/
def State.csrWriteRuns (s : State) (k : CoreId) (rs : List (Nat × Nat)) (data : List Byte) : Nat × State :=
  ((rs.flatMap csrWords).zipIdx).foldl (fun (acc : Nat × State) o =>
    if haltOf acc.1 ≠ 0 then acc else acc.2.csrWrite (.dataMover k) o.1 8 (num data (8 * o.2) 8)) (rOK, s)

/-- The end of a command by a response: a halt, a failed read, or done. -/
def State.dmEnds (s : State) (k : CoreId) (f : Flight) (resp : Nat) (use : State → State) : State :=
  if haltOf resp ≠ 0 then s.dmFault k f (haltOf resp) else if resp ≠ rOK && resp ≠ rIM_BUSY then s.dmDone k f 2 else use s

/-- Write a command's bytes: as packets, as register accesses, or in place as the furrow's writes, which the owner's epoch must let in (R186, R198). -/
def State.moveData (s : State) (k : CoreId) (f : Flight) (data : List Byte) : State :=
  let d := f.q.desc
  let rs := natRuns d.dstRuns
  if s.remoteDst d then
    let ps := rowPieces d.dstRows d.rowBytes data
    s.sendPieces k f 0 (if ps = [] then [(d.dst, [])] else ps)
  else
    match s.physOf (s.ownerOf k d) with
    | none => s.dmFault k f 0x06
    | some t =>
      if !(s.slot t).accepts d.epoch then ((s.stalePkt t).modDm k f.seq (fun g => { g with mute := true })).dmDone k f 0
      else if regionOf d.dst = .csr then
        let r := s.csrWriteRuns k rs data
        r.2.dmEnds k f r.1 (fun s => s.dmDone k f 0)
      else
        let w := rs.foldl (fun (acc : State × List Byte) r => (acc.1.furrowWrite k f r.1 (acc.2.take r.2), acc.2.drop r.2)) (s, data)
        w.1.dmDone k f 0

/-- Ask another module for a command's bytes (KIND 0x2), in address order. A request that cannot be sent completes with UNMAPPED (R295, R311), one without a
slice with DENIED (R315). -/
def State.sendReads (s : State) (k : CoreId) (f : Flight) : State :=
  let d := f.q.desc
  let slice := (s.sliceOf k).getD 0
  let r := (rowPieces d.srcRows d.rowBytes (List.replicate d.total 0)).foldl (fun (acc : Bool × State) p =>
    if !acc.1 then acc
    else
      let t := acc.2.newTag
      let u := t.2.sendElastic { dst := d.srcDev, kind := 2, slice := slice, epoch := d.epoch, addr := p.1, length := p.2.length, tag := t.1 } []
      (u.1, u.2.modDm k f.seq (fun g => { g with tags := g.tags ++ [(t.1, p.1)] }))) (true, s)
  if s.injectFails k d.srcDev false = rDENIED then s.dmFault k f (haltOf rDENIED) else if !r.1 then r.2.dmFault k f (haltOf rUNMAPPED) else if d.srcRuns = [] then r.2.moveData k f [] else r.2

/-- The posted queue of the module accepts a transfer; it holds 256 (R387). -/
def State.postTransfer (s : State) (k : CoreId) (f : Flight) : State :=
  if 256 ≤ s.host.posted.length then s.dmWaits k f
  else
    let x : PostedXfer := { q := f.q, issuer := k, part := (s.partOf k.plot.val).getD 32, no := s.host.nextId }
    let s := { s with host.posted := s.host.posted ++ [x], host.nextId := s.host.nextId + 1 }
    (s.modDm k f.seq (fun g => { g with mute := true })).dmDone k f 0

/-! ### The commands -/

/-- Commands of a code past dequeue whose transfers may begin or go on, oldest first. -/
def State.dmWaiting (s : State) (k : CoreId) (code : Nat) : List Flight :=
  if !s.slotLive k then [] else (s.slot k).moverTurn.filter (fun f => decide (f.q.desc.code = code) && f.tags = [])

/-- The ranges of Granary and Barn that a DCOPY reads here. -/
def State.dmReads (s : State) (d : Desc) : List (Nat × Nat) :=
  if s.posted d || s.remoteSrc d || regionOf d.src = .csr then [] else natRuns d.srcRuns

/-- DCOPY. Of the commands whose turn has come the oldest whose reads nothing holds goes on; commands past dequeue start in order and run side by side (R192). -/
def execDcopy (k : CoreId) (s : State) : Out :=
  .next (
    let fs := s.dmWaiting k 0x10
    let free := fun f : Flight => f.denied || (s.firstBlocked (.furrow k f.q.serial) (s.dmReads f.q.desc)).isNone
    match (fs.find? free).or fs.head? with
    | none => s
    | some f =>
      let d := f.q.desc
      if s.posted d then s.postTransfer k f
      else if s.remoteSrc d then s.sendReads k f
      else if regionOf d.src = .csr then
        let r := s.csrReadRuns k (natRuns d.srcRuns)
        r.2.2.dmEnds k f r.1 (fun s => s.moveData k f r.2.1)
      else
        s.flightRead k .dataMover f (s.dmReads d) (fun resp rows s =>
          if resp ≠ rOK then s.dmDone k f 2 else s.moveData k f rows.flatten))

/-- DFILL: the pattern in every eight bytes of every row. -/
def execDfill (k : CoreId) (s : State) : Out :=
  .next (
    match (s.dmWaiting k 0x11).head? with
    | none => s
    | some f => s.moveData k f ((List.replicate (f.q.desc.total / 8) (wordBytes f.q.desc.w6)).flatten))

/-- DSIG: a packet of its own to another module; here the signal is made at completion. -/
def execDsig (k : CoreId) (s : State) : Out :=
  .next (
    match (s.dmWaiting k 0x12).head? with
    | none => s
    | some f => if s.remoteDst f.q.desc then s.sendPieces k f 4 [(0, [])] else s.dmDone k f 0)

/-- A close marker is held at its target, which its own epoch must be accepted by (R198, R200). -/
def State.holdClose (s : State) (t : CoreId) (o : Owner) (close epoch : Nat) : State :=
  if !s.slotOpen t then s.wrapped
  else if !(s.slot t).accepts epoch then s.stalePkt t
  else s.modSlot t (fun x => { x with heldClose := x.heldClose ++ [{ owner := o, close := close, epoch := epoch }] })

/-- DCLOSE (R200). -/
def execDclose (k : CoreId) (s : State) : Out :=
  .next (
    match (s.dmWaiting k 0x13).head? with
    | none => s
    | some f =>
      let d := f.q.desc
      if s.remoteDst d then s.sendPieces k f 5 [(0, [])]
      else
        match s.physOf d.dstCluster with
        | none => s.dmFault k f 0x06
        | some t => (s.holdClose t (.furrow k f.q.serial) d.closeEpoch d.epoch).dmDone k f 0)

/-- A unit's queue takes a posted descriptor, or is full at sixteen (R192, R228, R364). -/
def State.postTo (s : State) (k : CoreId) (unit : Nat) (p : Posted) : Option State :=
  if unit < 8 then
    let b : BinId := ⟨k.plot, Fin.ofNat 8 unit⟩
    if 16 ≤ (s.bin b).queue.length then none else some (s.modBin b (fun x => { x with queue := x.queue ++ [p] }))
  else
    let n := k.plot.val
    if 16 ≤ (s.drill n).queue.length then none else some (s.modDrill n (fun x => { x with queue := x.queue ++ [{ p with eligible := true }] }))

/-- DPOST: the descriptor's line is read, then the unit's queue accepts it or makes the command wait (R192, R228). -/
def execDpost (k : CoreId) (s : State) : Out :=
  .next (
    match (s.dmWaiting k 0x14).head? with
    | none => s
    | some f =>
      let d := f.q.desc
      s.flightRead k .dataMover f [ownRange k d.postLine 64] (fun resp rows s =>
        if resp ≠ rOK then s.dmDone k f 2
        else
          let u := s.furrow? k f.q.serial
          let p : Posted :=
            { desc := descOf (rows.headD []), poster := k, serial := f.q.serial, furrowId := (u.map (·.id)).getD (s.core k).furrowId,
              pc := f.q.pc, bank := f.q.bank }
          match s.postTo k d.unit p with
          | some t => t.dmDone k f 0
          | none => s.dmWaits k f))

/-- DM_COMMAND_COMPLETE: the oldest command past dequeue, once its work is done (R192). -/
def execDmCommandComplete (k : CoreId) (s : State) : Out :=
  .next (
    if !s.slotLive k then s
    else
      match (s.slot k).dmPipe with
      | f :: rest => if f.done && !s.signalStalls k .dataMover f then (s.modSlot k (fun x => { x with dmPipe := rest })).complete k .dataMover f else s
      | [] => s)

/-! ### Answers from other modules (R188, R203, R257) -/

/-- The slot and the command that a TAG belongs to. -/
def State.flightByTag (s : State) (tag : Nat) : Option (CoreId × Flight) :=
  s.slots.findSome? (fun e : Nat × Slot => (e.2.dmPipe.find? (fun f => (f.tags.map (·.1)).contains tag)).map (fun f => (coreOf e.1, f)))

/-- An answer to a packet of a command: the bytes of a read or an acknowledgement. A domain that has stopped only notes that it came (R415). -/
def State.dmAnswer (s : State) (k : CoreId) (f : Flight) (p : Packet) : State :=
  let off := ((f.tags.find? (fun t => t.1 = p.tag)).map (·.2)).getD 0
  let got := if p.kind = 3 && p.resp = rOK then [(off, p.data)] else []
  let status := if p.resp = rOK then f.status else 2
  let f := { f with tags := f.tags.filter (fun t => t.1 ≠ p.tag), got := f.got ++ got, status := status }
  let s := s.modDm k f.seq (fun _ => f)
  if !s.slotLive k then s
  else if haltOf p.resp ≠ 0 then s.dmFault k f (haltOf p.resp)
  else
    let s := if p.resp = rUNCORRECTABLE then s.readFail k f.q.serial 6 else s
    if f.tags ≠ [] then s
    else if p.kind = 7 || status ≠ 0 then s.dmDone k f status
    else s.moveData k f (f.q.desc.srcRows.flatMap (fun a => fromPieces f.got a f.q.desc.rowBytes))

end Sys2Proof.Machine
end

