-- ==== Sys2Proof/Machine/HostTraffic.lean ====
section
/-! DEFINITION. Requests to this module's memory from outside: host reads and writes (R376, R377, R385), requests of other modules (R254, R436), accesses held on
open extents (R57), and the end of a Glean request (R217). -/

namespace Sys2Proof.Machine

/-! ### Rights (Table 14-3, R256, R257, R436) -/

/-- The partitions whose memory a requester reaches: a host's permitted ones; those that a slice lists, none for a slice without an entry. -/
def State.hostParts (s : State) (h : Nat) : List Nat := (List.range 32).filter (fun q => tb (s.rd hostB F.HOST_PARTS h) q)
def State.sliceParts (s : State) (slice : Nat) : List Nat :=
  match s.sliceEntry slice with
  | some i => (List.range 32).filter (fun q => tb (s.rd routeB F.SLICE_PARTS_PARTS i) q)
  | none => []

/-- Both ends of a range lie in the Granary or in the Barn. -/
def rangeMapped (a n : Nat) : Bool :=
  match regionOf a, regionOf (a + max n 1 - 1) with
  | .granary _, .granary _ => true
  | .barn, .barn => true
  | _, _ => false

/-- Does a range touch a Barn extent that is being filled (R435)? -/
def State.barnFilling (s : State) (a n : Nat) : Bool :=
  (List.range 64).any (fun e => s.rdB hayB F.BARN_EXT_VALID e && s.rdB hayB F.BARN_EXT_FILLING e &&
    overlap (0x0080_0000_0000 + s.rd hayB F.BARN_EXT_BASE e * 0x20_0000) (s.rd hayB F.BARN_EXT_UNITS e * 0x20_0000) a (max n 1))

/-- The response that a range draws before it is reached; `parts` limits it to partitions, `none` does not. -/
def State.memCheck (s : State) (parts : Option (List Nat)) (a n : Nat) : Nat :=
  if !rangeMapped a n then rUNMAPPED
  else if s.touchesFallow a n then rFALLOW
  else if s.barnFilling a n then rDENIED
  else match parts with
    | some ps => if s.inParts ps a n then rOK else rDENIED
    | none => rOK

/-! ### Held accesses (R57, R385) -/

/-- Hold an access until the boundary at which it can be served. -/
def State.holdAccess (s : State) (p : Packet) (a n : Nat) (write : Bool) : State :=
  let s := if write then s else s.countHeld
  { s with mx.heldAccess := s.mx.heldAccess ++ [{ pkt := p, lo := a, len := n, write := write }] }

/-- A checked read: its bytes, or it is held. -/
def State.serveRead (s : State) (p : Packet) (a n : Nat) : State :=
  if s.blocked none a n then s.holdAccess p a n false
  else
    let r := s.memRead false true 26 a n
    r.2.2.respond p r.1 (if r.1 = rOK then r.2.1 else [])

/-- A checked host write: a host extent that closes at the next boundary, or it is held (R385). -/
def State.serveHostWrite (s : State) (p : Packet) (a : Nat) (bs : List Byte) : State :=
  let id := s.host.nextId
  match ({ s with host.nextId := id + 1 } : State).writeHost id a bs with
  | some r => (r.2.hostWritten id).respond p r.1 []
  | none => s.holdAccess p a bs.length true

/-- Serve an access that was held: `denied` when the extent closed uncommitted (R57). -/
def State.serveHeld (s : State) (h : HeldAccess) (denied : Bool) : State :=
  if h.write then s.serveHostWrite h.pkt h.lo h.pkt.hostData
  else if denied then s.respond h.pkt rNOT_COMMITTED []
  else
    let r := s.memRead false true 26 h.lo h.len
    r.2.2.respond h.pkt r.1 (if r.1 = rOK then r.2.1 else [])

/-! ### Host reads and writes (R376, R377) -/

/-- HWRITE. A register access is 4 or 8 bytes. -/
def execHwrite (s : State) : Out :=
  .next (s.takeEjected (isHost 1) (fun s e =>
    let p := e.pkt
    let bs := p.hostData
    let a := p.addr
    if regionOf a = .csr then
      let r := s.csrWrite (.host (Fin.ofNat 16 p.hostNo)) (a - 0x0100_0000_0000) bs.length (ofBytes bs)
      some (r.2.respond p r.1 [])
    else
      let c := s.memCheck (some (s.hostParts p.hostNo)) a bs.length
      if c ≠ rOK then some ((if c = rDENIED then s.hostDenied else s).respond p c [])
      else some (s.serveHostWrite p a bs)))

/-- HREAD: HLEN bytes of committed data. -/
def execHread (s : State) : Out :=
  .next (s.takeEjected (isHost 2) (fun s e =>
    let p := e.pkt
    let n := p.hlen
    let a := p.addr
    if regionOf a = .csr then
      let r := s.csrRead (.host (Fin.ofNat 16 p.hostNo)) (a - 0x0100_0000_0000) n
      some (r.2.2.respond p r.1 (if r.1 = rOK then bytesOf n r.2.1 else []))
    else
      let c := s.memCheck (some (s.hostParts p.hostNo)) a n
      if c ≠ rOK then some ((if c = rDENIED then s.hostDenied else s).respond p c [])
      else some (s.serveRead p a n)))

/-! ### The end of a Glean request (R217, R218) -/

/-- Write a request's summary to its destination: the Granary, the Barn or the host window. A fallow address takes nothing (R4). -/
def State.putSummary (s : State) (a : Nat) (bs : List Byte) : State :=
  match regionOf a with
  | .window =>
    match s.windowFor a bs.length with
    | some h => s.hostReq true h a bs bs.length .report
    | none => s
  | _ => if s.touchesFallow a bs.length then s else (s.memWrite false true 27 a bs).2

/-- GLEAN_REQUEST_DONE: the rest of the range is read, unless an open extent holds a line, and the summary record is written. -/
def execGleanRequestDone (p : Fin 32) (s : State) : Out :=
  .next (
    let pl := p.val
    match (s.glean pl).req with
    | none => s
    | some q =>
      let r := if q.denied then (q, s) else s.gleanServe pl q.lines q
      let g := r.1
      let s := r.2
      if !g.denied && g.next < g.lines then s.modGlean pl (fun x => { x with req := some g })
      else
        let crc := g.crc ^^^ 0xFFFFFFFFFFFFFFFF
        let bs := gleanSummary s pl 2 (if g.denied then 3 else g.run.status) g.start g.lines (if g.denied then 0 else crc) g.tag g.held.length g.run
        (s.modGlean pl (fun x => { x with req := none })).putSummary g.dest bs)

end Sys2Proof.Machine
end

