-- ==== Sys2Proof/Machine/Delivery.lean ====
section
/-! DEFINITION. Packets that have reached their destination here, KIND 0x0 to 0x7 (R49, R194, R198, R200, R254, R300, R310, R436): each row takes the first
delivered packet of its kind. -/

namespace Sys2Proof.Machine

def isKind (n : Nat) (e : Ejected) : Bool := e.pkt.kind = n

/-- The partitions that a request on a slice reaches; the fabric slice is not limited by partition (R436). -/
def State.packetParts (s : State) (p : Packet) : Option (List Nat) := if p.slice = 0 then none else some (s.sliceParts p.slice)

/-- Who owns what a packet of a scheduled stream brings, until its marker arrives (R49). -/
def Ejected.owner (e : Ejected) : Owner := .remote e.pkt.src e.pkt.stream e.pkt.fidx e.batch

/-- The signal of a packet, held under its sender's furrow (R194). No header field names the sending cluster: that part of the sender word is a free
value (log 62). `none`: the table is full and the packet waits (R196). -/
def State.packetSignal (s : State) (e : Ejected) : Option (Nat × State) :=
  let p := e.pkt
  if !p.sigEn then some (rOK, s)
  else
    match s.physOf p.sigCluster with
    | none => some (rFALLOW, s)
    | some k =>
      let t := s.draw
      let h : Held := { owner := e.owner, tok := p.sigTok, count := p.sigCount, epoch := p.epoch, sender := senderWord p.src (fld t.1 0 9) 0 1 0 }
      if !s.heldRoom k h then none else some (rOK, t.2.hold k h)

/-- The cluster that OWNER names takes a packet: FALLOW where it is not active, and a stale packet is counted, writes nothing, signals nothing and is
acknowledged (R4, R198). -/
def State.letIn (s : State) (p : Packet) (use : State → CoreId → Option State) : Option State :=
  match s.physOf p.owner with
  | none => some (s.respond p rFALLOW [])
  | some k => if !(s.slot k).accepts p.epoch then some ((s.stalePkt k).respond p rOK []) else use s k

/-- SCHEDULED_WRITE: the bytes are an open region until their marker. -/
def execScheduledWrite (s : State) : Out :=
  .next (s.takeEjected (isKind 0) (fun s e =>
    let p := e.pkt
    let n := p.data.length
    let c := if n = 0 then rOK else s.memCheck (s.packetParts p) p.addr n
    if c ≠ rOK then some (s.respond p c [])
    else s.letIn p (fun s _ =>
      (s.packetSignal e).map (fun g =>
        if g.1 ≠ rOK then g.2.respond p g.1 []
        else
          let w := if n = 0 then (rOK, g.2) else g.2.memWrite false false 26 p.addr p.data
          let s := if n = 0 || s.wrapperShut p.addr n then w.2 else w.2.openExtent e.owner p.addr n
          s.respond p w.1 []))))

/-- ELASTIC_WRITE. -/
def execElasticWrite (s : State) : Out :=
  .next (s.takeEjected (isKind 1) (fun s e =>
    let p := e.pkt
    let c := s.memCheck (s.packetParts p) p.addr p.data.length
    if c ≠ rOK then some (s.respond p c [])
    else
      let w := s.memWrite false true 26 p.addr p.data
      some (w.2.respond p w.1 [])))

/-- ELASTIC_READ_REQUEST: committed data (R7, R57). -/
def execElasticReadRequest (s : State) : Out :=
  .next (s.takeEjected (isKind 2) (fun s e =>
    let p := e.pkt
    let c := s.memCheck (s.packetParts p) p.addr p.length
    if c ≠ rOK then some (s.respond p c []) else some (s.serveRead p p.addr p.length)))

/-- An answer meets what asked for it, by TAG; one that nothing awaits is dropped. -/
def State.answer (s : State) (p : Packet) : State :=
  match s.flightByTag p.tag with
  | some (k, f) => s.dmAnswer k f p
  | none =>
    if s.obs.congTags.contains p.tag then
      let s := { s with obs.congTags := s.obs.congTags.erase p.tag }
      if p.resp = rOK then s else s.satAdd telB F.CONG_STAT_SEND_FAILS 1
    else s

/-- ELASTIC_RESPONSE. -/
def execElasticResponse (s : State) : Out := .next (s.takeEjected (isKind 3) (fun s e => some (s.answer e.pkt)))

/-- SIGNAL_ONLY. -/
def execSignalOnly (s : State) : Out :=
  .next (s.takeEjected (isKind 4) (fun s e =>
    s.letIn e.pkt (fun s _ => (s.packetSignal e).map (fun g => g.2.respond e.pkt g.1 []))))

/-- EPOCH_CLOSE: the marker is held at the cluster that OWNER names until it is delivered (R200). -/
def execEpochClose (s : State) : Out :=
  .next (s.takeEjected (isKind 5) (fun s e =>
    s.letIn e.pkt (fun s k =>
      (s.packetSignal e).map (fun g => (g.2.holdClose k e.owner e.pkt.closeEpoch e.pkt.epoch).respond e.pkt g.1 []))))

/-- CSR_REQUEST, on the fabric slice only. A request with eight bytes of data writes a register, one without data reads one: the manual does not say how
the two are told apart. DESIGN CHOICE, log 61. -/
def execCsrRequest (s : State) : Out :=
  .next (s.takeEjected (isKind 6) (fun s e =>
    let p := e.pkt
    let off := p.addr - 0x0100_0000_0000
    if p.slice ≠ 0 then some (s.respond p rDENIED [])
    else if regionOf p.addr ≠ .csr then some (s.respond p rUNMAPPED [])
    else if p.data = [] then
      let r := s.csrRead .peerSteward off 8
      some (r.2.2.respond p r.1 (if r.1 = rOK then bytesOf 8 r.2.1 else []))
    else
      let r := s.csrWrite .peerSteward off p.data.length (ofBytes p.data)
      some (r.2.respond p r.1 [])))

/-- SCHEDULED_ACK. -/
def execScheduledAck (s : State) : Out := .next (s.takeEjected (isKind 7) (fun s e => some (s.answer e.pkt)))

end Sys2Proof.Machine
end

