-- ==== Sys2Proof/Machine/Matrix.lean ====
section
/-! DEFINITION. The matrix engine (chapter 4): body checks, MMUL, MOUT, TSAVE, TLOAD, TZERO, completion. A command's row does its work at
once; the waits of R107 and R118 are timing (log 40). -/

namespace Sys2Proof.Machine

/-! ### Body checks and extents (R113, R184) -/

/-- ROW0 + M does not pass the tile. -/
def Desc.rowsOk (d : Desc) : Bool := d.row0 + d.rows ≤ 256

/-- An epilogue group's own rules (R81, R86, R113, R184), with N columns. -/
def Epi.ok (g : Epi) (n : Nat) : Bool :=
  let lo := fmtFP32.decode g.lo
  let hi := fmtFP32.decode g.hi
  !lo.isNan && !hi.isNan && !hi.lt lo && (g.mode = 0 || g.mode = 5) && (g.target < 2 || n = 32 || n = 64) &&
  (!g.cVec || g.c < 2 ^ 21) && (!g.dVec || g.d < 2 ^ 21)

/-- Bytes of an output row, and of its scales. -/
def Epi.rowBytes (g : Epi) (n : Nat) : Nat := if g.target = 0 then 4 * n else if g.target = 1 then 2 * n else if g.target = 2 then n else n / 2

/-- Extents of an epilogue group: its vectors and its outputs, for M rows of N. -/
def Epi.extents (g : Epi) (k : CoreId) (m n : Nat) : List (Nat × Nat) :=
  (if g.cVec then [ownRange k g.c 256] else []) ++ (if g.dVec then [ownRange k g.d 256] else []) ++
  [rowSpan k g.oBase m g.oStride (g.rowBytes n)] ++ (if 2 ≤ g.target then [rowSpan k g.oSBase m g.oSStride (n / 32)] else [])

/-- Stored rows of an operand and the elements of each: cnt rows of K, or K rows of cnt padded to whole blocks (R101, R102). -/
def MatOperand.shape (o : MatOperand) (cnt kb : Nat) : Nat × Nat := if o.trans then (32 * kb, 32 * cdiv cnt 32) else (cnt, 32 * kb)

def MatOperand.elemBytes (o : MatOperand) (cnt kb : Nat) : Nat := (o.shape cnt kb).2 * elemBits o.fmt / 8

def MatOperand.extents (o : MatOperand) (k : CoreId) (cnt kb : Nat) : List (Nat × Nat) :=
  rowSpan k o.base (o.shape cnt kb).1 o.stride (o.elemBytes cnt kb) ::
  (if elemScaled o.fmt then [rowSpan k o.sbase (o.shape cnt kb).1 o.sstride ((o.shape cnt kb).2 / 32)] else [])

/-- The rows to read: element rows, then scale rows. -/
def MatOperand.ranges (o : MatOperand) (k : CoreId) (cnt kb : Nat) : List (Nat × Nat) :=
  rowRanges k o.base (o.shape cnt kb).1 o.stride (o.elemBytes cnt kb) ++
  (if elemScaled o.fmt then rowRanges k o.sbase (o.shape cnt kb).1 o.sstride ((o.shape cnt kb).2 / 32) else [])

/-- The extents of a matrix command that are known at dequeue. -/
def matExtents (k : CoreId) (d : Desc) : List (Nat × Nat) :=
  match d.code with
  | 0x20 => d.opA.extents k d.rows d.kBlocks ++ d.opB.extents k d.cols d.kBlocks ++ (if d.epi then [ownRange k d.epb 64] else [])
  | 0x21 => d.epiGroup.extents k d.rows d.cols
  | 0x22 => [rowSpan k d.aBase d.rows d.aStride 512]
  | 0x23 => [rowSpan k d.aBase d.rows d.aStride 512]
  | _ => []

/-- Is a code a matrix command (Table 7-2)? -/
def matCode (c : Nat) : Bool := 0x20 ≤ c && c ≤ 0x24

/-- The body's part of check 2 but for the extents. -/
def matBodyOk (d : Desc) : Bool :=
  d.rowsOk &&
  match d.code with
  | 0x20 => d.mmulFieldsOk && d.fmtA < 7 && d.fmtB < 7
  | 0x21 => d.moutFieldsOk && d.epiGroup.ok d.cols
  | 0x22 => d.tileFieldsOk true
  | 0x23 => d.tileFieldsOk true
  | _ => d.tileFieldsOk false

/-- The matrix engine's checks of a descriptor (Table 7-6). -/
def State.matChecks (s : State) (k : CoreId) (d : Desc) : Checked :=
  let rule := s.plotRule k (matExtents k d)
  s.checks k d (matCode d.code) (matBodyOk d && rule ≠ 0x08) (s.sigFallow d) true (rule = 0)

/-! ### Tiles -/

/-- The key of a tile entry. -/
def tileKey (t row col : Nat) : Nat := (t * 256 + row) * 64 + col
def Slot.tileGet (x : Slot) (t row col : Nat) : Nat := (x.tiles.get 0 (tileKey t row col)).toNat
def State.tilePut (s : State) (k : CoreId) (t row col v : Nat) : State :=
  s.modSlot k (fun x => { x with tiles := x.tiles.put 0 (tileKey t row col) (BitVec.ofNat 40 v) })

/-! ### Operands (R73 to R76, R101 to R104) -/

/-- A block: its scale code and 32 elements. -/
abbrev Block := Nat × List Int

/-- Rebuild a block from one stored column of a square (R103): the block, and how many elements changed value. The largest code is 0xFF where one source code is;
elements are counted by the same rule there, though the block is NaN. -/
def reblock (codes : List Nat) (qs : List Int) : Block × Nat :=
  let top := codes.foldl max 0
  let r := (codes.zip qs).map (fun cq =>
    let t := roundMag 0 false 0 cq.2.natAbs 0 ((top - cq.1 : Nat) : Int)
    (if cq.2 < 0 then -(t.1 : Int) else (t.1 : Int), t.2))
  ((top, r.map (·.1)), (r.filter (·.2)).length)

/-- Block `b` of logical row `i` of an operand, from its stored rows. -/
def MatOperand.block (o : MatOperand) (elems scales : List (List Byte)) (i b : Nat) : Block × Nat :=
  if o.trans then
    let ks := (List.range 32).map (· + 32 * b)
    let qs := ks.map (fun r => elemAt o.fmt (elems.getD r []) i)
    if elemScaled o.fmt then reblock (ks.map (fun r => num (scales.getD r []) (i / 32) 1)) qs else ((0x7F, qs), 0)
  else
    let qs := (List.range 32).map (fun j => elemAt o.fmt (elems.getD i []) (32 * b + j))
    ((if elemScaled o.fmt then num (scales.getD i []) b 1 else 0x7F, qs), 0)

/-- All blocks of an operand, row by row, and the count of changed elements: the transpose port delivers whole squares, so the padding columns of a transposed
operand are re-blocked and counted too (R102, R103). -/
def MatOperand.blocks (o : MatOperand) (rows : List (List Byte)) (cnt kb : Nat) : List (List Block) × Nat :=
  let n := (o.shape cnt kb).1
  let elems := rows.take n
  let scales := rows.drop n
  let all := if o.trans then 32 * cdiv cnt 32 else cnt
  let bs := (List.range all).map (fun i => (List.range kb).map (fun b => o.block elems scales i b))
  ((bs.take cnt).map (·.map (·.1)), (bs.flatten.map (·.2)).foldl (· + ·) 0)

/-- The exact integer dot product of two blocks (R73). -/
def dot (a b : List Int) : Int := ((a.zip b).map (fun p => p.1 * p.2)).foldl (· + ·) 0

/-- A block result in A40 (R74, R75). -/
def blockResult (fa fb : Nat) (a b : Block) : Nat × Exc :=
  if a.1 = 0xFF ∨ b.1 = 0xFF then (fmtA40.qnan, xNAN_INPUT)
  else
    let p := dot a.2 b.2
    if p = 0 then (0, 0)
    else toA40 (.fin (decide (p < 0)) p.natAbs ((a.1 : Int) + b.1 - 254 - elemExp fa - elemExp fb))

/-- The A40 sum of several terms. Which two are added next is a free value (R77); two terms have one sum. -/
def sumTerms : Nat → Nat → List Nat → Exc → Nat × Exc × Nat
  | 0, d, l, x => (l.headD 0, x, d)
  | _ + 1, d, [], x => (0, x, d)
  | _ + 1, d, [a], x => (a, x, d)
  | _ + 1, d, [a, b], x => ((a40Add a b).1, x ||| (a40Add a b).2, d)
  | n + 1, d, l, x =>
    let i := Config.addOrder d % l.length
    let rest := l.eraseIdx i
    let j := Config.addOrder (d + 1) % rest.length
    let t := a40Add (l.getD i 0) (rest.getD j 0)
    sumTerms n (d + 2) (t.1 :: rest.eraseIdx j) (x ||| t.2)

/-! ### The epilogue (R80, R114 to R116) -/

/-- What one command's entries raised, row-major: tile row offset, column, flags. -/
abbrev Raised := List (Nat × Nat × Exc)

/-- Element j of a vector parameter, or the scalar. -/
def Epi.param (vec : Bool) (scalar : Nat) (bytes : List Byte) (j : Nat) : FVal :=
  fmtFP32.decode (if vec then num bytes (4 * j) 4 else scalar)

/-- c2 of a column: the product of the tensor scales and c, rounded once to A40. -/
def Epi.c2 (sa sb c : FVal) : Nat × Exc :=
  let t := FVal.mul sa sb
  let u := FVal.mul t.1 c
  let r := toA40 u.1
  (r.1, t.2 ||| u.2 ||| r.2)

/-- The clipped value of one entry, and its flags. Where R80 is silent the model decides (log 127, DESIGN CHOICE): infinity minus infinity in acc × c2 + d is NaN with
INVALID as 0 × infinity is; at the clip a zero stays as it is against a bound of zero of the other sign; the flags of forming c2, once per column, count for
every entry of the column. -/
def Epi.entry (lo hi : FVal) (acc : Nat) (c2 : Nat × Exc) (dv : FVal) : FVal × Exc :=
  let m := FVal.mul (fmtA40.decode acc) (fmtA40.decode c2.1)
  let a := FVal.add false m.1 dv
  let r := toA40 a.1
  let t := fmtA40.decode r.1
  (if t.isNan then t else if t.lt lo then lo else if hi.lt t then hi else t, c2.2 ||| m.2 ||| a.2 ||| r.2)

/-- Output bytes of one row of clipped values, its scale bytes, and the flags of each column. -/
def Epi.rowOut (g : Epi) (draws : List Nat) (ts : List FVal) : List Byte × List Byte × List Exc :=
  if g.target < 2 then
    let f := if g.target = 0 then fmtFP32 else fmtBF16
    let r := (ts.zip draws).map (fun td => f.round g.mode td.2 td.1)
    (r.flatMap (fun x => bytesOf (f.width / 8) x.1), [], r.map (fun x => x.2 &&& xConvert))
  else
    let w := if g.target = 2 then 8 else 4
    let bl := (List.range (ts.length / 32)).map (fun b =>
      blockEncode w g.rule g.mode ((draws.drop (32 * b)).take 32) ((ts.drop (32 * b)).take 32))
    (bl.flatMap (fun x => packElems w x.2.1), bl.map (fun x => BitVec.ofNat 8 x.1), bl.flatMap (fun x => x.2.2))

/-- Apply the epilogue to the addressed entries and write its outputs. `cb`, `db` are the bytes of the vectors. -/
def State.epilogue (s : State) (k : CoreId) (f : Flight) (g : Epi) (sa sb : FVal) (cb db : List Byte) : State × Raised :=
  let d := f.q.desc
  let n := d.cols
  let lo := fmtFP32.decode g.lo
  let hi := fmtFP32.decode g.hi
  let c2s := (List.range n).map (fun j => Epi.c2 sa sb (Epi.param g.cVec g.c cb j))
  (List.range d.rows).foldl (fun acc i =>
    let s := acc.1
    let x := s.slot k
    let es := (List.range n).map (fun j =>
      Epi.entry lo hi (x.tileGet d.tile (d.row0 + i) j) (c2s.getD j (0, 0)) (Epi.param g.dVec g.d db j))
    let dr := s.drawsFor k g.mode n
    let o := g.rowOut dr.1 (es.map (·.1))
    let s := dr.2.furrowWrite k f (lineAddr k.plot.val g.oBase + i * g.oStride * 64) o.1
    let s := if o.2.1 = [] then s else s.furrowWrite k f (lineAddr k.plot.val g.oSBase + i * g.oSStride * 64) o.2.1
    (s, acc.2 ++ (List.range n).map (fun j => (i, j, (es.map (·.2)).getD j 0 ||| o.2.2.getD j 0)))) (s, [])

/-! ### Execution -/

/-- Raise what a matrix command's entries raised: the sticky word of the flight, the capture of the lowest element (R94, R116). -/
def State.matRaise (s : State) (k : CoreId) (f : Flight) (rs : Raised) : State × Exc :=
  let d := f.q.desc
  let s := rs.foldl (fun s r => if r.2.2 = 0 then s else s.capture k false r.2.2 d d.tile (r.1 * d.cols + r.2.1) (d.row0 + r.1) r.2.1) s
  (s, rs.foldl (fun x r => x ||| r.2.2) 0)

/-- The oldest matrix command past dequeue whose work is not done, if its code is the one named: commands execute in issue order (R108). So a command's reads come
after the writes of the engine's own earlier commands; R109 leaves the two unordered, and this order is the model's (log 127, DESIGN CHOICE). -/
def State.matNext (s : State) (k : CoreId) (code : Nat) : Option Flight :=
  ((s.slot k).matPipe.find? (fun f => !f.done)).filter (fun f => f.q.desc.code = code)

/-- Forced errors strike the next body row streamed whose work the check covers (Table 4-6, R122, R123): counted, recorded, the furrow fails. A block product is formed
by MMUL alone, the compared stages work for MMUL and MOUT, tile entries are touched by every command. -/
def State.matChecksFail (s : State) (k : CoreId) (d : Desc) : State :=
  let b := slotB k
  let x := s.slot k
  let c := causeOf d 0
  let residue := x.injResidue && d.code = 0x20
  let compare := x.injMatCompare && (d.code = 0x20 || d.code = 0x21)
  let s := s.modSlot k (fun x => { x with
    injResidue := x.injResidue && !residue, injMatCompare := x.injMatCompare && !compare, injMatParity := false })
  let s := if residue then (s.satAdd b F.MAT_CHECK_RESIDUE_ERRS 1).checkFail k 0 1 c else s
  let s := if compare then (s.satAdd b F.MAT_CHECK_COMPARE_ERRS 1).checkFail k 0 2 c else s
  if x.injMatParity then (s.satAdd b F.MAT_CHECK_PARITY_ERRS 1).checkFail k 0 3 c else s

/-- A matrix command has done its work: its status and its flags. One whose read failed streamed no body row, and a forced error waits for the next. -/
def State.matDone (s : State) (k : CoreId) (f : Flight) (status : Nat) (rs : Raised) : State :=
  let r := s.matRaise k f rs
  let s := r.1.modFlight k .matrix (fun g => g.seq = f.seq) (fun g => { g with done := true, status := status, exc := g.exc ||| r.2, heldOn := none })
  if status = 0 then s.matChecksFail k f.q.desc else s

/-- The A40 entries that an MMUL computes: for each addressed row and column the bits, the flags, and the count of draws (R106). -/
def mmulEntries (x : Slot) (d : Desc) (as bs : List (List Block)) (draws : Nat) : List (Nat × Nat × Nat × Exc) × Nat :=
  ((List.range d.rows).flatMap (fun i => (List.range d.cols).map (fun j => (i, j)))).foldl (fun acc ij =>
    let rs := ((as.getD ij.1 []).zip (bs.getD ij.2 [])).map (fun p => blockResult d.fmtA d.fmtB p.1 p.2)
    let start := if d.acc then x.tileGet d.tile (d.row0 + ij.1) ij.2 else 0
    let t := sumTerms (rs.length + 1) acc.2 (start :: rs.map (·.1)) (rs.foldl (fun e r => e ||| r.2) 0)
    (acc.1 ++ [(ij.1, ij.2, t.1, t.2.1)], t.2.2)) ([], draws)

/-- Rows streamed and panel-load waits of an MMUL (R98, R100, R124). -/
def State.mmulCounts (s : State) (k : CoreId) (d : Desc) : State :=
  let a4 := elemBits d.fmtA = 4
  let b4 := elemBits d.fmtB = 4
  let kp := if a4 ∧ b4 then 8 else 4
  let l := if b4 ∧ !a4 then 3 else 5
  let p := cdiv d.kBlocks kp
  let s := s.wrapAdd (slotB k) F.MAT_ROWS_ROWS (p * d.rows * (kp / 4))
  s.wrapAdd (slotB k) F.MAT_STALL_LOAD_BOUND (p * (l - d.rows))

/-- The reads of the epilogue's vectors. -/
def Epi.vecRanges (g : Epi) (k : CoreId) : List (Nat × Nat) :=
  (if g.cVec then [ownRange k g.c 256] else []) ++ (if g.dVec then [ownRange k g.d 256] else [])

def Epi.vecBytes (g : Epi) (rows : List (List Byte)) : List Byte × List Byte :=
  (if g.cVec then rows.headD [] else [], if g.dVec then rows.getLastD [] else [])

/-- An MMUL's accumulation, and its epilogue if it has one (R106, R114). The events of both are joined entry by entry and captured in row-major order: whether a later
entry's accumulation is captured before an earlier entry's epilogue is not given (R94, R116; log 127, DESIGN CHOICE). `eb` and `g` are the epilogue block's group. -/
def State.mmulRun (s : State) (k : CoreId) (f : Flight) (g : Option Epi) : State :=
  let d := f.q.desc
  let ra := d.opA.ranges k d.rows d.kBlocks
  let rb := d.opB.ranges k d.cols d.kBlocks
  let rv := match g with | some e => e.vecRanges k | none => []
  s.flightRead k .matrix f (ra ++ rb ++ rv) (fun resp rows s =>
    if resp ≠ rOK then s.matDone k f 2 []
    else
      let s := s.mmulCounts k d
      let a := d.opA.blocks (rows.take ra.length) d.rows d.kBlocks
      let b := d.opB.blocks ((rows.drop ra.length).take rb.length) d.cols d.kBlocks
      let s := s.wrapAdd (slotB k) F.MAT_REBLOCK_CHANGED (a.2 + b.2)
      let es := mmulEntries (s.slot k) d a.1 b.1 s.draws
      let s := es.1.foldl (fun s e => s.tilePut k d.tile (d.row0 + e.1) e.2.1 e.2.2.1) { s with draws := es.2 }
      let flags : Raised := es.1.map (fun e => (e.1, e.2.1, e.2.2.2))
      match g with
      | none => s.matDone k f 0 flags
      | some e =>
        let one : FVal := .fin false 1 0
        let sa := if elemScaled d.fmtA then one else fmtFP32.decode d.opA.scale
        let sb := if elemScaled d.fmtB then one else fmtFP32.decode d.opB.scale
        let vb := e.vecBytes (rows.drop (ra.length + rb.length))
        let r := s.epilogue k f e sa sb vb.1 vb.2
        r.1.matDone k f 0 ((flags.zip r.2).map (fun p => (p.1.1, p.1.2.1, p.1.2.2 ||| p.2.2.2))))

/-- The epilogue block as a descriptor body: W2 to W7, and its reserved tail (R184). -/
def epiBlock (bs : List Byte) : Desc × Bool :=
  let d := descOf16 bs
  (d, (bs.drop 48).all (· = 0))
where
  /-- W2 to W7 from bytes 0 to 47. -/
  descOf16 (bs : List Byte) : Desc :=
    let w := fun i => BitVec.ofNat 64 (num bs (8 * i) 8)
    ⟨0, 0, w 0, w 1, w 2, w 3, w 4, w 5⟩

/-- MMUL (R106). With EPI the epilogue block is read and checked first (R184). -/
def execMmul (k : CoreId) (s : State) : Out :=
  .next (
    match s.matNext k 0x20 with
    | none => s
    | some f =>
      let d := f.q.desc
      if !d.epi then s.mmulRun k f none
      else
        s.flightRead k .matrix f [ownRange k d.epb 64] (fun resp rows s =>
          if resp ≠ rOK then s.matDone k f 2 []
          else
            let b := epiBlock (rows.headD [])
            let g := b.1.epiGroup
            let rule := s.plotRule k (g.extents k d.rows d.cols)
            let drop := fun s : State => s.modSlot k (fun x => { x with matPipe := x.matPipe.filter (fun h => h.seq ≠ f.seq) })
            if !(b.2 && b.1.moutFieldsOk && b.1.tile = 0 && b.1.row0 = 0 && b.1.rows = 1 && b.1.cols = 1 && g.ok d.cols) || rule = 0x08 then
              (drop s).faultCmd k .matrix f.q 0x08
            else if rule ≠ 0 then (drop s).faultCmd k .matrix f.q 0x04
            else s.mmulRun k f (some g)))

/-- MOUT: the epilogue alone, sa = sb = 1 (R114). -/
def execMout (k : CoreId) (s : State) : Out :=
  .next (
    match s.matNext k 0x21 with
    | none => s
    | some f =>
      let g := f.q.desc.epiGroup
      s.flightRead k .matrix f (g.vecRanges k) (fun resp rows s =>
        if resp ≠ rOK then s.matDone k f 2 []
        else
          let one : FVal := .fin false 1 0
          let vb := g.vecBytes rows
          let r := s.epilogue k f g one one vb.1 vb.2
          r.1.matDone k f 0 r.2))

/-- TSAVE: tile rows in 64-bit containers, bits [63:40] zero (R68, R119). -/
def execTsave (k : CoreId) (s : State) : Out :=
  .next (
    match s.matNext k 0x22 with
    | none => s
    | some f =>
      let d := f.q.desc
      let s := (List.range d.rows).foldl (fun s i =>
        let x := s.slot k
        let bs := (List.range 64).flatMap (fun j => bytesOf 8 (x.tileGet d.tile (d.row0 + i) j))
        s.furrowWrite k f (lineAddr k.plot.val d.aBase + i * d.aStride * 64) bs) s
      s.matDone k f 0 [])

/-- TLOAD: bits [39:0] of the containers enter the tile (R68, R119). -/
def execTload (k : CoreId) (s : State) : Out :=
  .next (
    match s.matNext k 0x23 with
    | none => s
    | some f =>
      let d := f.q.desc
      s.flightRead k .matrix f (rowRanges k d.aBase d.rows d.aStride 512) (fun resp rows s =>
        if resp ≠ rOK then s.matDone k f 2 []
        else
          let s := (List.range d.rows).foldl (fun s i =>
            (List.range 64).foldl (fun s j => s.tilePut k d.tile (d.row0 + i) j (num (rows.getD i []) (8 * j) 5)) s) s
          s.matDone k f 0 []))

/-- TZERO: tile rows to +0. -/
def execTzero (k : CoreId) (s : State) : Out :=
  .next (
    match s.matNext k 0x24 with
    | none => s
    | some f =>
      let d := f.q.desc
      let s := (List.range d.rows).foldl (fun s i => (List.range 64).foldl (fun s j => s.tilePut k d.tile (d.row0 + i) j 0) s) s
      s.matDone k f 0 [])

/-- The oldest command past dequeue completes, once its work is done (R108). -/
def execMatrixComplete (k : CoreId) (s : State) : Out :=
  .next (
    match (s.slot k).matPipe with
    | f :: rest => if f.done && !s.signalStalls k .matrix f then (s.modSlot k (fun x => { x with matPipe := rest })).complete k .matrix f else s
    | [] => s)

end Sys2Proof.Machine
end

