-- ==== Sys2Proof/Machine/Vector.lean ====
section
/-! DEFINITION. The vector engine (chapter 5): VEXEC, the instructions of Table 5-5 and their faults. A vector instruction acts on the started
microprogram of its cluster; without one it changes nothing (log 30). Its issue waits are timing (log 40). -/

namespace Sys2Proof.Machine

/-! ### The VEXEC body (R128, R129, Table 7-4) -/

def Desc.vEntry (d : Desc) : Nat := fld d.w2 0 14
def Desc.vMode (d : Desc) : Nat := fld d.w2 16 1
def Desc.vLanes (d : Desc) : Nat := fld d.w2 24 9

/-- The body's part of check 2 for a VEXEC on a cluster of `l` lanes. -/
def vexecBodyOk (d : Desc) (l : Nat) : Bool :=
  onlyFields d.w2 [(0, 14), (16, 1), (24, 9)] && onlyFields d.w3 [(0, 32)] &&
  onlyFields d.w4 [(0, 48)] && onlyFields d.w5 [(0, 48)] && onlyFields d.w6 [(0, 48)] && onlyFields d.w7 [(0, 48)] &&
  d.vEntry % 8 = 0 && d.vEntry ≤ 16376 && d.vLanes = l

/-! ### Registers -/

def vKey (reg lane : Nat) : Nat := reg * 256 + lane
/-- A lane of a vector register. -/
def Slot.vget (x : Slot) (reg lane : Nat) : Nat := (x.vregs.get 0 (vKey reg lane)).toNat
/-- A mask register; m0 reads all ones (R127). -/
def Slot.mget (x : Slot) (m : Nat) : BitVec 256 := if m = 0 then BitVec.allOnes 256 else x.mregs.get 0 m
/-- The active lanes of a mask. -/
def Slot.activeLanes (x : Slot) (m l : Nat) : List Nat := (List.range l).filter (x.mget m).getLsbD

/-- Write active lanes; an inactive lane keeps its value, or is set to +0 with MZ (R127). -/
def Slot.vput (x : Slot) (reg l : Nat) (mz : Bool) (act : List Nat) (v : Nat → Nat) : Slot :=
  { x with vregs := (List.range l).foldl (fun m i =>
      if act.contains i then m.put 0 (vKey reg i) (BitVec.ofNat 32 (v i)) else if mz then m.erase (vKey reg i) else m) x.vregs }

/-- Write the lanes of a mask register under a mask (R135). -/
def Slot.mput (x : Slot) (reg l : Nat) (mz : Bool) (act : List Nat) (v : Nat → Bool) : Slot :=
  let old := x.mget reg
  let new := (List.range l).foldl (fun n i =>
    if (if act.contains i then v i else !mz && old.getLsbD i) then n + 2 ^ i else n) 0
  { x with mregs := x.mregs.put 0 reg (BitVec.ofNat 256 new) }

def State.modRun (s : State) (k : CoreId) (g : VRun → VRun) : State := s.modSlot k (fun x => { x with vrun := x.vrun.map g })

/-- An address register. -/
def VRun.addr (r : VRun) (i : Nat) : Nat := (r.a.get 0 i).toNat
/-- Advance an address register modulo 2^48. -/
def VRun.step (r : VRun) (i n : Nat) : VRun := { r with a := r.a.put 0 i (BitVec.ofNat 48 (r.addr i + n)) }
def VRun.count (r : VRun) (i : Nat) : Nat := (r.c.get 0 i).toNat
def VRun.setCount (r : VRun) (i v : Nat) : VRun := { r with c := r.c.put 0 i (BitVec.ofNat 32 v) }

/-! ### Encoding rules (R133, R134, R135) -/

/-- The FMT column of Table 5-5. -/
inductive FmtSet where
  | all | fp | int | fp32Int | zero
deriving DecidableEq, Repr

def FmtSet.has (t : FmtSet) (f : Nat) : Bool :=
  match t with
  | .all => true
  | .fp => f ≠ 3
  | .int => f = 3
  | .fp32Int => f = 0 || f = 3
  | .zero => f = 0

/-- ROUND_MODE where it is read (Table 3-4, R86): codes 0 to 4 in strict mode, 0 in fast mode, 5 in both for a narrowing conversion. -/
def roundOk (strict narrowing : Bool) (m : Nat) : Bool := m = 0 || (m < 5 && strict) || (m = 5 && narrowing)

/-- Which VR fields an opcode uses beside VD and FMT. -/
structure VrUse where
  fmts : FmtSet
  va : Bool := true
  vb : Bool := false
  vc : Bool := false
  mask : Bool := true
  sub : Bool := false
  imm : Bool := false
  rounds : Bool := false
  narrowing : Bool := false
deriving DecidableEq, Repr

/-- The encoding rules of a VR instruction. -/
def VrUse.ok (u : VrUse) (f : VRForm) (strict : Bool) : Bool :=
  u.fmts.has f.fmt.toNat && (u.va || f.va = 0) && (u.vb || f.vb = 0) && (u.vc || f.vc = 0) &&
  (u.mask || (f.msk = 0 && f.mz = 0)) && (u.sub || f.sub = 0) && (u.imm || f.imm = 0) &&
  (if u.rounds then roundOk strict u.narrowing f.rm.toNat else f.rm = 0)

/-- A mask destination is m1 to m7 (R127, R134). -/
def maskDest (v : BitVec 5) : Bool := v ≠ 0 && decide (v.toNat < 8)

/-- Which VM fields an opcode uses beside VD, AB, INC, FMT and OFF. -/
structure VmUse where
  fmts : FmtSet
  scale : Bool := false
  mask : Bool := true
  mz : Bool := false
  sub : Bool := false
  rounds : Bool := false
deriving DecidableEq, Repr

/-- The encoding rules of a VM instruction. -/
def VmUse.ok (u : VmUse) (f : VMForm) (strict : Bool) : Bool :=
  u.fmts.has f.fmt.toNat && f.rsv = 0 && (u.scale || f.sab = 0) && (u.mask || f.msk = 0) && (u.mz || f.mz = 0) && (u.sub || f.sub = 0) &&
  (if u.rounds then roundOk strict true f.rm.toNat else f.rm = 0)

/-! ### Faults, flags, issue -/

/-- A fault of Table 5-3: the core halts with source vector and the VEXEC is discarded (R133, R174). -/
def State.vecHalt (s : State) (k : CoreId) (r : VRun) (code : Nat) : State :=
  let s := (s.modSlot k (fun x => { x with vrun := none })).cmdDone k r.f.q.serial
  s.halt k code 2 r.bank (r.pc % 16384) 0x30 (causeOf r.f.q.desc 0)

/-- An instruction of the started microprogram: its encoding rules, then its effect. -/
def vecStep (k : CoreId) (ok : Nat → VRun → Bool) (body : VRun → State → State) (s : State) : Out :=
  .next (
    match (s.slot k).vrun with
    | none => s
    | some r =>
      if !r.started then s
      else if !ok (s.lanes k) r then s.vecHalt k r 0x02
      else body r s)

/-- The instruction has issued; the next is at offset `next`. Past the bank it is a fault (R132). `wrote` says that it wrote a register, of whatever kind
(R146, R147). -/
def State.vRetire (s : State) (k : CoreId) (wrote : Bool) (next : Int) : State :=
  let s := s.wrapAdd (slotB k) F.VEC_INSTR_ISSUED 1
  match (s.slot k).vrun with
  | none => s
  | some r =>
    let r := { r with wrote := r.wrote + b2n wrote, pc := (next % 16384).toNat }
    let s := s.modSlot k (fun x => { x with vrun := some r })
    if next < 0 ∨ 16384 ≤ next then s.vecHalt k r 0x01 else s

/-- Lanes raise flags: the sticky word of the VEXEC, and the capture with j × L + lane (R94, R146). -/
def State.vRaise (s : State) (k : CoreId) (r : VRun) (reg : Nat) (fl : List (Nat × Exc)) : State :=
  let l := s.lanes k
  let s := fl.foldl (fun s e => if e.2 = 0 then s else s.capture k true e.2 r.f.q.desc reg (r.wrote * l + e.1) 0 e.1) s
  s.modRun k (fun r => { r with f := { r.f with exc := fl.foldl (fun x e => x ||| e.2) r.f.exc } })

/-- A forced error strikes the arithmetic instruction just issued (R149). -/
def State.vecChecksFail (s : State) (k : CoreId) (d : Desc) : State :=
  let b := slotB k
  let x := s.slot k
  let c := causeOf d 0
  let s := s.modSlot k (fun x => { x with injVecCompare := false, injVecParity := false })
  let s := if x.injVecCompare then (s.satAdd b F.VEC_CHECK_COMPARE_ERRS 1).checkFail k 1 2 c else s
  if x.injVecParity then (s.satAdd b F.VEC_CHECK_PARITY_ERRS 1).checkFail k 1 3 c else s

/-- The end of a VR instruction with `n` active lanes: counts, checks, next instruction. -/
def State.vrEnd (s : State) (k : CoreId) (r : VRun) (wrote : Bool) (n : Nat) : State :=
  ((s.wrapAdd (slotB k) F.VEC_LANEOPS_LANEOPS n).vecChecksFail k r.f.q.desc).vRetire k wrote (r.pc + 8)

/-! ### Register instructions -/

/-- A VR instruction that computes each active lane of vd: `op` gets the strict bit, the slot, the lane and a draw. -/
def vrLanes (k : CoreId) (f : VRForm) (u : VrUse) (extra : Nat → Bool) (op : Bool → Slot → Nat → Nat → Nat × Exc) (s : State) : Out :=
  vecStep k (fun l r => u.ok f r.strict && extra l) (fun r s =>
    let l := s.lanes k
    let act := (s.slot k).activeLanes f.msk.toNat l
    let dr := s.drawsFor k (if u.rounds then f.rm.toNat else 0) act.length
    let x := dr.2.slot k
    let res := (act.zip dr.1).map (fun id => (id.1, op r.strict x id.1 id.2))
    let val := fun i => ((res.find? (fun e => e.1 = i)).map (·.2.1)).getD 0
    let s := dr.2.setSlot k (x.vput f.vd.toNat l (f.mz = 1) act val)
    (s.vRaise k r f.vd.toNat (res.map (fun e => (e.1, e.2.2)))).vrEnd k r true act.length) s

/-- Two sources. -/
def vr2 (k : CoreId) (f : VRForm) (fmts : FmtSet) (rounds : Bool) (op : Nat → Bool → Nat → Nat → Nat × Exc) (s : State) : Out :=
  vrLanes k f { fmts := fmts, vb := true, rounds := rounds } (fun _ => true)
    (fun strict x i _ => op f.fmt.toNat strict (x.vget f.va.toNat i) (x.vget f.vb.toNat i)) s

/-- One source. -/
def vr1 (k : CoreId) (f : VRForm) (fmts : FmtSet) (rounds : Bool) (op : Nat → Bool → Nat → Nat × Exc) (s : State) : Out :=
  vrLanes k f { fmts := fmts, rounds := rounds } (fun _ => true)
    (fun strict x i _ => op f.fmt.toNat strict (x.vget f.va.toNat i)) s

/-- The fused family: sign of the product, sign of the addend. -/
def vrFma (k : CoreId) (f : VRForm) (negP negC : Bool) (s : State) : Out :=
  vrLanes k f { fmts := .fp, vb := true, vc := true, rounds := true } (fun _ => true)
    (fun strict x i _ =>
      vFp (vFmt f.fmt.toNat) strict f.rm.toNat 0 [x.vget f.va.toNat i, x.vget f.vb.toNat i, x.vget f.vc.toNat i] (fun v =>
        let a := v.getD 0 .nan
        let c := v.getD 2 .nan
        opFma f.rm.toNat (if negP then a.negate else a) (v.getD 1 .nan) (if negC then c.negate else c))) s

def execVadd (k : CoreId) (f : VRForm) (s : State) : Out :=
  vr2 k f .all true (fun t strict a b => vOp t strict f.rm.toNat 0 a b (opAdd f.rm.toNat) (· + ·)) s
def execVsub (k : CoreId) (f : VRForm) (s : State) : Out :=
  vr2 k f .all true (fun t strict a b => vOp t strict f.rm.toNat 0 a b (opSub f.rm.toNat) (· - ·)) s
def execVmul (k : CoreId) (f : VRForm) (s : State) : Out :=
  vr2 k f .all true (fun t strict a b => vOp t strict f.rm.toNat 0 a b opMul (· * ·)) s
def execVfma (k : CoreId) (f : VRForm) (s : State) : Out := vrFma k f false false s
def execVfms (k : CoreId) (f : VRForm) (s : State) : Out := vrFma k f false true s
def execVfnma (k : CoreId) (f : VRForm) (s : State) : Out := vrFma k f true false s
def execVdiv (k : CoreId) (f : VRForm) (s : State) : Out :=
  vr2 k f .fp true (fun t strict a b => vFp (vFmt t) strict f.rm.toNat 0 [a, b] opDiv) s
def execVsqrt (k : CoreId) (f : VRForm) (s : State) : Out :=
  vr1 k f .fp true (fun t strict a => vFp (vFmt t) strict f.rm.toNat 0 [a] opSqrt) s
def execVmin (k : CoreId) (f : VRForm) (s : State) : Out :=
  vr2 k f .all false (fun t strict a b => vOp t strict 0 0 a b opMin (fun x y => if y < x then y else x)) s
def execVmax (k : CoreId) (f : VRForm) (s : State) : Out :=
  vr2 k f .all false (fun t strict a b => vOp t strict 0 0 a b opMax (fun x y => if x < y then y else x)) s
def execVabs (k : CoreId) (f : VRForm) (s : State) : Out := vr1 k f .all false (fun t _ a => (vAbs t a, 0)) s
def execVneg (k : CoreId) (f : VRForm) (s : State) : Out := vr1 k f .all false (fun t _ a => (vNeg t a, 0)) s
/-- VMOV copies the element, a NaN with its payload (R89). -/
def execVmov (k : CoreId) (f : VRForm) (s : State) : Out := vr1 k f .all false (fun t _ a => (vCut t a, 0)) s
def execVspli (k : CoreId) (f : VRForm) (s : State) : Out :=
  vrLanes k f { fmts := .fp32Int, va := false, imm := true } (fun _ => true)
    (fun _ _ _ _ => (if f.fmt = 3 then (f.imm.signExtend 32).toNat else f.imm.toNat * 256, 0)) s
def execViota (k : CoreId) (f : VRForm) (s : State) : Out :=
  vrLanes k f { fmts := .int, va := false } (fun _ => true) (fun _ _ i _ => (i, 0)) s

/-- Is VCVT from one format to another a narrowing conversion (R136)? -/
def narrows (src dst : Nat) : Bool := (src = 0 && (dst = 1 || dst = 2)) || (src = 2 && dst = 1)

def execVcvt (k : CoreId) (f : VRForm) (s : State) : Out :=
  vrLanes k f { fmts := .all, sub := true, rounds := true, narrowing := narrows f.sub.toNat f.fmt.toNat } (fun _ => decide (f.sub.toNat < 4))
    (fun strict x i d => vConvert f.sub.toNat f.fmt.toNat strict f.rm.toNat d (x.vget f.va.toNat i)) s

def execVrcp (k : CoreId) (f : VRForm) (s : State) : Out := vr1 k f .fp false (fun t strict a => vApprox .rcp t strict a) s
def execVrsq (k : CoreId) (f : VRForm) (s : State) : Out := vr1 k f .fp false (fun t strict a => vApprox .rsq t strict a) s
def execVexp2 (k : CoreId) (f : VRForm) (s : State) : Out := vr1 k f .fp false (fun t strict a => vApprox .exp2 t strict a) s
def execVlog2 (k : CoreId) (f : VRForm) (s : State) : Out := vr1 k f .fp false (fun t strict a => vApprox .log2 t strict a) s
def execVexp (k : CoreId) (f : VRForm) (s : State) : Out := vr1 k f .fp false (fun t strict a => vApprox .exp t strict a) s
def execVtanh (k : CoreId) (f : VRForm) (s : State) : Out := vr1 k f .fp false (fun t strict a => vApprox .tanh t strict a) s
def execVerf (k : CoreId) (f : VRForm) (s : State) : Out := vr1 k f .fp false (fun t strict a => vApprox .erf t strict a) s

def execVand (k : CoreId) (f : VRForm) (s : State) : Out := vr2 k f .int false (fun _ _ a b => (a &&& b, 0)) s
def execVor (k : CoreId) (f : VRForm) (s : State) : Out := vr2 k f .int false (fun _ _ a b => (a ||| b, 0)) s
def execVxor (k : CoreId) (f : VRForm) (s : State) : Out := vr2 k f .int false (fun _ _ a b => (a ^^^ b, 0)) s
def execVshl (k : CoreId) (f : VRForm) (s : State) : Out :=
  vrLanes k f { fmts := .int, imm := true } (fun _ => true)
    (fun _ x i _ => ((x.vget f.va.toNat i <<< (f.imm.toNat % 32)) % 2 ^ 32, 0)) s
def execVshr (k : CoreId) (f : VRForm) (s : State) : Out :=
  vrLanes k f { fmts := .int, sub := true, imm := true } (fun _ => decide (f.sub.toNat < 2))
    (fun _ x i _ =>
      let a := x.vget f.va.toNat i
      let n := f.imm.toNat % 32
      (if f.sub = 1 then ((BitVec.ofNat 32 a).sshiftRight n).toNat else a >>> n, 0)) s

/-- A VR instruction that writes a mask register (R127, R135). -/
def vrMask (k : CoreId) (f : VRForm) (u : VrUse) (extra : Nat → Bool) (op : Bool → Slot → Nat → Bool × Exc) (s : State) : Out :=
  vecStep k (fun l r => u.ok f r.strict && maskDest f.vd && extra l) (fun r s =>
    let l := s.lanes k
    let x := s.slot k
    let act := x.activeLanes f.msk.toNat l
    let s := s.setSlot k (x.mput f.vd.toNat l (f.mz = 1) act (fun i => (op r.strict x i).1))
    (s.vRaise k r f.vd.toNat (act.map (fun i => (i, (op r.strict x i).2)))).vrEnd k r true act.length) s

def execVcmp (k : CoreId) (f : VRForm) (s : State) : Out :=
  vrMask k f { fmts := .all, vb := true, sub := true } (fun _ => true)
    (fun strict x i => vCompare f.fmt.toNat strict f.sub.toNat (x.vget f.va.toNat i) (x.vget f.vb.toNat i)) s

/-- A mask operation of two masks. -/
def mask2 (k : CoreId) (f : VRForm) (op : Bool → Bool → Bool) (s : State) : Out :=
  vrMask k f { fmts := .zero, vb := true } (fun _ => decide (f.va.toNat < 8) && decide (f.vb.toNat < 8))
    (fun _ x i => (op ((x.mget f.va.toNat).getLsbD i) ((x.mget f.vb.toNat).getLsbD i), 0)) s

def execMand (k : CoreId) (f : VRForm) (s : State) : Out := mask2 k f (fun a b => a && b) s
def execMor (k : CoreId) (f : VRForm) (s : State) : Out := mask2 k f (fun a b => a || b) s
def execMxor (k : CoreId) (f : VRForm) (s : State) : Out := mask2 k f (fun a b => a != b) s
def execMnot (k : CoreId) (f : VRForm) (s : State) : Out :=
  vrMask k f { fmts := .zero } (fun _ => decide (f.va.toNat < 8)) (fun _ x i => (!(x.mget f.va.toNat).getLsbD i, 0)) s
def execMfirst (k : CoreId) (f : VRForm) (s : State) : Out :=
  vrMask k f { fmts := .zero, va := false, imm := true } (fun l => decide (f.imm.toNat ≤ l)) (fun _ _ i => (decide (i < f.imm.toNat), 0)) s

/-- MCNT writes a count register and counts all L bits. -/
def execMcnt (k : CoreId) (f : VRForm) (s : State) : Out :=
  vecStep k (fun _ r => ({ fmts := .zero, mask := false } : VrUse).ok f r.strict && decide (f.va.toNat < 8) && decide (f.vd.toNat < 4)) (fun r s =>
    let l := s.lanes k
    let n := ((s.slot k).activeLanes f.va.toNat l).length
    (s.modRun k (fun r => r.setCount f.vd.toNat n)).vrEnd k r true l) s

/-- VWIN: active lanes packed downwards, +0 above them whatever MZ says (R140). -/
def execVwin (k : CoreId) (f : VRForm) (s : State) : Out :=
  vecStep k (fun _ r => ({ fmts := .all } : VrUse).ok f r.strict) (fun r s =>
    let l := s.lanes k
    let x := s.slot k
    let act := x.activeLanes f.msk.toNat l
    let vals := act.map (fun i => vCut f.fmt.toNat (x.vget f.va.toNat i))
    (s.setSlot k (x.vput f.vd.toNat l true (List.range act.length) (fun i => vals.getD i 0))).vrEnd k r true act.length) s

/-- The number of active lanes below a lane. -/
def rank (act : List Nat) (i : Nat) : Nat := (act.filter (· < i)).length

/-- VRES: lane i of vd := lane rank(i) of va (R140). -/
def execVres (k : CoreId) (f : VRForm) (s : State) : Out :=
  vecStep k (fun _ r => ({ fmts := .all } : VrUse).ok f r.strict) (fun r s =>
    let l := s.lanes k
    let x := s.slot k
    let act := x.activeLanes f.msk.toNat l
    (s.setSlot k (x.vput f.vd.toNat l (f.mz = 1) act (fun i => vCut f.fmt.toNat (x.vget f.va.toNat (rank act i))))).vrEnd
      k r true act.length) s

/-- A reduction: the result in every active lane, its flags at the lowest active lane (R141). -/
def vrReduce (k : CoreId) (f : VRForm) (op : Reduce) (s : State) : Out :=
  vecStep k (fun _ r => ({ fmts := .all } : VrUse).ok f r.strict) (fun r s =>
    let l := s.lanes k
    let x := s.slot k
    let act := x.activeLanes f.msk.toNat l
    let v := vReduce op f.fmt.toNat r.strict ((List.range l).map (fun i => if act.contains i then some (x.vget f.va.toNat i) else none))
    let s := s.setSlot k (x.vput f.vd.toNat l (f.mz = 1) act (fun _ => v.1))
    (s.vRaise k r f.vd.toNat (match act with | [] => [] | i :: _ => [(i, v.2)])).vrEnd k r true act.length) s

def execVrsum (k : CoreId) (f : VRForm) (s : State) : Out := vrReduce k f .sum s
def execVrmax (k : CoreId) (f : VRForm) (s : State) : Out := vrReduce k f .max s
def execVrmin (k : CoreId) (f : VRForm) (s : State) : Out := vrReduce k f .min s

/-- VBCL: lane IMM of va in every active lane. -/
def execVbcl (k : CoreId) (f : VRForm) (s : State) : Out :=
  vrLanes k f { fmts := .all, imm := true } (fun l => decide (f.imm.toNat < l))
    (fun _ x _ _ => (vCut f.fmt.toNat (x.vget f.va.toNat f.imm.toNat), 0)) s

/-! ### Memory instructions (R137 to R139, R143) -/

/-- Ranges in rising order, neighbours joined. -/
def joinRuns (rs : List (Nat × Nat)) : List (Nat × Nat) :=
  rs.foldr (fun r acc =>
    match acc with
    | (a, n) :: t => if r.1 + r.2 = a then (r.1, r.2 + n) :: t else r :: acc
    | [] => [r]) []

/-- Bytes at rising addresses, neighbours joined. -/
def joinBytes (ps : List (Nat × List Byte)) : List (Nat × List Byte) :=
  ps.foldr (fun p acc =>
    match acc with
    | (a, bs) :: t => if p.1 + p.2.length = a then (p.1, p.2 ++ bs) :: t else p :: acc
    | [] => [p]) []

/-- The address of a VM instruction: a[AB] + OFF (R137). -/
def VRun.vmAddr (r : VRun) (f : VMForm) : Nat := (BitVec.ofNat 48 (r.addr f.ab.toNat) + f.off.signExtend 48).toNat

/-- A memory instruction: alignment, then the bytes of its active lanes, then its effect (R138). `ext` gives those bytes from lanes, the active
ones, and the address. -/
def vmStep (k : CoreId) (f : VMForm) (u : VmUse) (extra : Bool) (align : Nat) (ext : VRun → Nat → List Nat → Nat → List (Nat × Nat))
    (body : VRun → Nat → List Nat → Nat → State → State) (s : State) : Out :=
  vecStep k (fun _ r => u.ok f r.strict && extra) (fun r s =>
    let l := s.lanes k
    let act := (s.slot k).activeLanes f.msk.toNat l
    let a := r.vmAddr f
    if a % align ≠ 0 then s.vecHalt k r 0x03
    else if (ext r l act a).any (fun e => !ownPlot k e) then s.vecHalt k r 0x04
    else body r l act a s) s

/-- A load's reads: held on a foreign open extent, else done. An error response gives zeros and READ_ERROR (R57, R256, Table 7-7). `use` gets how many
bytes from where as a number. -/
def State.vLoad (s : State) (k : CoreId) (r : VRun) (rs : List (Nat × Nat)) (use : (Nat → Nat → Nat) → State → State) : State :=
  if r.f.denied then
    use (fun _ _ => 0) (s.modRun k (fun r => { r with f := { r.f with denied := false, heldOn := none, status := 2 } }))
  else
    match s.firstBlocked (.furrow k r.f.q.serial) rs with
    | some h =>
      let s := if r.f.heldOn.isSome then s else s.countHeld
      s.modRun k (fun r => { r with f := { r.f with heldOn := some h } })
    | none =>
      let t := s.readRanges k.slot.val rs (s.flightCause k r.f)
      let s := t.2.2.modRun k (fun r => { r with f := { r.f with heldOn := none } })
      if t.1 = rOK then use (fun a n => ofBytes (s.bytes a n)) s
      else
        let s := if t.1 = rUNCORRECTABLE then s.readFail k r.f.q.serial 6 else s
        use (fun _ _ => 0) (s.modRun k (fun r => { r with f := { r.f with status := 2 } }))

/-- A store's writes; none after a read error, whose bytes stay unchanged (Table 7-7). -/
def State.vStore (s : State) (k : CoreId) (r : VRun) (ps : List (Nat × List Byte)) : State :=
  if r.f.status = 2 then s
  else (joinBytes ps).foldl (fun s p => s.furrowWrite k r.f p.1 p.2) s

/-- The end of a VM instruction: post-increment, next instruction. -/
def State.vmEnd (s : State) (k : CoreId) (r : VRun) (f : VMForm) (wrote : Bool) (step : Nat) : State :=
  (if f.inc = 1 then s.modRun k (fun r => r.step f.ab.toNat step) else s).vRetire k (wrote || f.inc = 1) (r.pc + 8)

/-- Bytes of the active lanes: lane i at a + e × i. -/
def laneRanges (e a : Nat) (act : List Nat) : List (Nat × Nat) := joinRuns (act.map (fun i => (a + e * i, e)))

/-- VLD. SUB[0] = 1 widens or narrows 16-bit elements; with FMT FP32 or INT32 there is nothing to widen, and VLD, VST and VLDB are refused as
RESERVED_FIELD (log 125). -/
def execVld (k : CoreId) (f : VMForm) (s : State) : Out :=
  let t := f.fmt.toNat
  let e := vBytes t
  vmStep k f { fmts := .all, mz := true, sub := true } (f.sub = 0 || (f.sub = 1 && (t = 1 || t = 2))) 64 (fun _ _ act a => laneRanges e a act)
    (fun r l act a s => s.vLoad k r (laneRanges e a act) (fun rd s =>
      let v := fun i => let x := rd (a + e * i) e; if f.sub = 1 then vWiden t x else x
      (s.modSlot k (fun x => x.vput f.vd.toNat l (f.mz = 1) act v)).vmEnd k r f true (l * e))) s

/-- VST; SUB[0] = 1 with FMT FP32 or INT32 is refused (log 125). -/
def execVst (k : CoreId) (f : VMForm) (s : State) : Out :=
  let t := f.fmt.toNat
  let e := vBytes t
  vmStep k f { fmts := .all, sub := true, rounds := f.sub = 1 } (f.sub = 0 || (f.sub = 1 && (t = 1 || t = 2))) 64
    (fun _ _ act a => laneRanges e a act)
    (fun r l act a s =>
      let dr := s.drawsFor k f.rm.toNat act.length
      let x := dr.2.slot k
      let vs := (act.zip dr.1).map (fun id =>
        let v := x.vget f.vd.toNat id.1
        (id.1, if f.sub = 1 then vConvert 0 t r.strict f.rm.toNat id.2 v else (v, 0)))
      let s := dr.2.vStore k r (vs.map (fun v => (a + e * v.1, bytesOf e v.2.1)))
      (s.vRaise k r f.vd.toNat (vs.map (fun v => (v.1, v.2.2)))).vmEnd k r f false (l * e)) s

/-- VLDB; SUB[0] = 1 with FMT FP32 or INT32 is refused (log 125). -/
def execVldb (k : CoreId) (f : VMForm) (s : State) : Out :=
  let t := f.fmt.toNat
  let e := vBytes t
  let rs := fun (act : List Nat) (a : Nat) => if act = [] then [] else [(a, e)]
  vmStep k f { fmts := .all, mz := true, sub := true } (f.sub = 0 || (f.sub = 1 && (t = 1 || t = 2))) e (fun _ _ act a => rs act a)
    (fun r l act a s => s.vLoad k r (rs act a) (fun rd s =>
      let v := if f.sub = 1 then vWiden t (rd a e) else rd a e
      (s.modSlot k (fun x => x.vput f.vd.toNat l (f.mz = 1) act (fun _ => v))).vmEnd k r f true e)) s

/-- The 4-bit and 8-bit formats of SUB[1:0] (R143): bits of an element. -/
def qBits (q : Nat) : Nat := elemBits q

/-- Bytes of the active lanes' elements and scales (R143): elements of `w` bits at `a`, scales at `sc`. -/
def quantRanges (w a sc : Nat) (act : List Nat) : List (Nat × Nat) :=
  let bytes := act.map (fun i => a + i * w / 8)
  let blocks := act.map (fun i => sc + i / 32)
  joinRuns ((bytes.eraseDups).map (fun b => (b, 1))) ++ joinRuns ((blocks.eraseDups).map (fun b => (b, 1)))

/-- The blocks that have active lanes. -/
def activeBlocks (l : Nat) (act : List Nat) : List Nat := (List.range (l / 32)).filter (fun b => act.any (fun i => i / 32 = b))

/-- Post-increment of the scale address, for VLDQ and VSTQ. -/
def State.scaleStep (s : State) (k : CoreId) (f : VMForm) (l : Nat) : State :=
  if f.inc = 1 then s.modRun k (fun r => r.step f.sab.toNat (l / 32)) else s

def execVldq (k : CoreId) (f : VMForm) (s : State) : Out :=
  let q := f.sub.toNat
  let w := qBits q
  let ext := fun (r : VRun) (act : List Nat) (a : Nat) => quantRanges w a (r.addr f.sab.toNat) act
  vmStep k f { fmts := .zero, scale := true, mz := true, sub := true } (decide (q < 3)) 64 (fun r _ act a => ext r act a)
    (fun r l act a s => s.vLoad k r (ext r act a) (fun rd s =>
      let vs := act.map (fun i =>
        let v := blockVal (rd (r.addr f.sab.toNat + i / 32) 1) (elemAt q [BitVec.ofNat 8 (rd (a + i * w / 8) 1)] (if w = 8 then 0 else i % 2)) (elemExp q)
        (i, if v.isNan then (fmtFP32.qnan, xNAN_INPUT)
          else let o := fmtFP32.round 0 0 v; (fmtFP32.flush r.strict o.1, vMask r.strict o.2)))
      let val := fun i => ((vs.find? (fun e => e.1 = i)).map (·.2.1)).getD 0
      let s := s.modSlot k (fun x => x.vput f.vd.toNat l (f.mz = 1) act val)
      ((s.vRaise k r f.vd.toNat (vs.map (fun e => (e.1, e.2.2)))).scaleStep k f l).vmEnd k r f true (l * w / 8))) s

/-- One block of a VSTQ: its scale byte, its element bytes, its lanes' flags, from the active lanes (R143). In strict mode too an element that rounds
raises no INEXACT (log 125). -/
def vstqBlock (s : State) (x : Slot) (strict : Bool) (f : VMForm) (w a b : Nat) (lanes : List Nat) (draws : List Nat) :
    Nat × List (Nat × List Byte) × List (Nat × Exc) :=
  let e := blockEncode w (f.sub.toNat / 4) f.rm.toNat draws (lanes.map (fun i => fmtFP32.read strict (x.vget f.vd.toNat i)))
  let qs := lanes.zip e.2.1
  let q := fun i => ((qs.find? (fun p => p.1 = i)).map (·.2))
  let bytes :=
    if w = 8 then qs.map (fun p => (a + p.1, [BitVec.ofInt 8 p.2]))
    else ((List.range 16).filter (fun j => (q (32 * b + 2 * j)).isSome || (q (32 * b + 2 * j + 1)).isSome)).map (fun j =>
      let at' := a + 16 * b + j
      let old := (s.byte at').toNat
      let nib := fun (i : Nat) (o : Nat) => match q i with | some v => (BitVec.ofInt 4 v).toNat | none => o
      (at', [BitVec.ofNat 8 (nib (32 * b + 2 * j) (old % 16) + 16 * nib (32 * b + 2 * j + 1) (old / 16))]))
  (e.1, bytes, lanes.zip e.2.2)

def execVstq (k : CoreId) (f : VMForm) (s : State) : Out :=
  let q := f.sub.toNat % 4
  let w := qBits q
  vmStep k f { fmts := .zero, scale := true, mz := true, sub := true, rounds := true } (decide (q < 2)) 64
    (fun r _ act a => quantRanges w a (r.addr f.sab.toNat) act)
    (fun r l act a s =>
      let sc := r.addr f.sab.toNat
      let dr := s.drawsFor k f.rm.toNat act.length
      let x := dr.2.slot k
      let outs := (activeBlocks l act).map (fun b =>
        let lanes := act.filter (fun i => i / 32 = b)
        (b, vstqBlock dr.2 x r.strict f w a b lanes ((dr.1.drop (rank act (32 * b))).take lanes.length)))
      let s := dr.2.vStore k r (outs.flatMap (fun o => o.2.2.1))
      let s := s.vStore k r (outs.map (fun o => (sc + o.1, [BitVec.ofNat 8 o.2.1])))
      ((s.vRaise k r f.vd.toNat (outs.flatMap (fun o => o.2.2.2))).scaleStep k f l).vmEnd k r f false (l * w / 8)) s

def execVldm (k : CoreId) (f : VMForm) (s : State) : Out :=
  vmStep k f { fmts := .zero, mask := false } (maskDest f.vd) 64 (fun _ l _ a => [(a, l / 8)])
    (fun r l _ a s => s.vLoad k r [(a, l / 8)] (fun rd s =>
      let v := rd a (l / 8)
      (s.modSlot k (fun x => x.mput f.vd.toNat l false (List.range l) (fun i => tb v i))).vmEnd k r f true (l / 8))) s

def execVstm (k : CoreId) (f : VMForm) (s : State) : Out :=
  vmStep k f { fmts := .zero, mask := false } (decide (f.vd.toNat < 8)) 64 (fun _ l _ a => [(a, l / 8)])
    (fun r l _ a s =>
      let m := (s.slot k).mget f.vd.toNat
      (s.vStore k r [(a, bytesOf (l / 8) m.toNat)]).vmEnd k r f false (l / 8)) s

/-- VSTW: active lanes stored contiguously (R140). -/
def execVstw (k : CoreId) (f : VMForm) (s : State) : Out :=
  let e := vBytes f.fmt.toNat
  vmStep k f { fmts := .all } true e (fun _ _ act a => if act = [] then [] else [(a, e * act.length)])
    (fun r _ act a s =>
      let x := s.slot k
      (s.vStore k r (act.map (fun i => (a + e * rank act i, bytesOf e (x.vget f.vd.toNat i))))).vmEnd k r f false (e * act.length)) s

/-- VLDR: contiguous elements into active lanes (R140). -/
def execVldr (k : CoreId) (f : VMForm) (s : State) : Out :=
  let e := vBytes f.fmt.toNat
  let ext := fun (act : List Nat) (a : Nat) => if act = [] then [] else [(a, e * act.length)]
  vmStep k f { fmts := .all, mz := true } true e (fun _ _ act a => ext act a)
    (fun r l act a s => s.vLoad k r (ext act a) (fun rd s =>
      (s.modSlot k (fun x => x.vput f.vd.toNat l (f.mz = 1) act (fun i => rd (a + e * rank act i) e))).vmEnd k r f true (e * act.length))) s

/-! ### Control instructions and the command itself -/

/-- VEND: the engine is free for the next VEXEC, and this one completes later (R130). -/
def execVend (k : CoreId) (f : VCForm) (s : State) : Out :=
  vecStep k (fun _ _ => f.ci = 0 && f.aj = 0 && f.rsv = 0 && f.imm = 0) (fun r s =>
    (s.wrapAdd (slotB k) F.VEC_INSTR_ISSUED 1).modSlot k (fun x => { x with vrun := none, vtail := x.vtail ++ [r] })) s

/-- VBNZ: a count of 0 stays 0 and the branch is not taken. -/
def execVbnz (k : CoreId) (f : VCForm) (s : State) : Out :=
  vecStep k (fun _ _ => f.aj = 0 && f.rsv = 0) (fun r s =>
    let c := r.count f.ci.toNat
    (s.modRun k (fun r => r.setCount f.ci.toNat (c - 1))).vRetire k (c ≠ 0) (if 1 < c then r.pc + 8 * f.imm.toInt else r.pc + 8)) s

def execVsetc (k : CoreId) (f : VCForm) (s : State) : Out :=
  vecStep k (fun _ _ => f.aj = 0 && f.rsv = 0) (fun r s =>
    (s.modRun k (fun r => r.setCount f.ci.toNat f.imm.toNat)).vRetire k true (r.pc + 8)) s

def execVadda (k : CoreId) (f : VCForm) (s : State) : Out :=
  vecStep k (fun _ _ => f.ci = 0 && f.rsv = 0) (fun r s =>
    (s.modRun k (fun r => r.step f.aj.toNat (f.imm.signExtend 48).toNat)).vRetire k true (r.pc + 8)) s

/-- VEXEC: the dequeued command's microprogram starts; its address and count registers are loaded (Table 5-1, R128). -/
def execVexec (k : CoreId) (s : State) : Out :=
  .next (
    match (s.slot k).vrun with
    | none => s
    | some r =>
      if r.started then s
      else
        let d := r.f.q.desc
        let a := [d.w4, d.w5, d.w6, d.w7].zipIdx.foldl (fun m e => SMap.put 0 m e.2 (e.1.setWidth 48)) []
        s.modRun k (fun r => { r with
          bank := r.f.q.bank, pc := d.vEntry, strict := d.vMode = 1, a := a, c := SMap.put 0 [] 0 (d.w3.setWidth 32), started := true }))

/-- The oldest VEXEC that has issued VEND completes (R130). -/
def execVexecComplete (k : CoreId) (s : State) : Out :=
  .next (
    match (s.slot k).vtail with
    | r :: rest => if s.signalStalls k .vector r.f then s else (s.modSlot k (fun x => { x with vtail := rest })).complete k .vector r.f
    | [] => s)

end Sys2Proof.Machine
end

