-- ==== Sys2Proof/Machine/Dequeue.lean ====
section
/-! DEFINITION. ENGINE_DEQUEUE (R188, R190): the ready head that an engine takes, its wait, and the checks of Table 7-6. -/

namespace Sys2Proof.Machine

/-! ### Collective bodies (R329, R331, R332) -/

/-- Fields that a collective command uses, as parts of W2, W3, W4, W5, W6 and W7; every other bit must be zero. DEDUCED, log 60. -/
def collFields (c : Nat) : List (List (Nat × Nat)) :=
  let whole : List (List (Nat × Nat)) := [[(0, 9), (16, 40)], [(0, 48)], [(0, 58)], [(0, 38)], [(0, 56)], []]
  match c with
  | 0x18 => [[(0, 9), (12, 44)], [(0, 48)], [(0, 58)], [(0, 38)], [(0, 56)], []]
  | 0x19 => [[(0, 9), (12, 3), (16, 40)], [(0, 48)], [(0, 58)], [(0, 38)], [(0, 56)], []]
  | 0x1A => whole
  | 0x1B => [[(0, 9), (16, 40)], [(0, 54)], [(0, 58)], [(0, 38)], [(0, 56)], []]
  | 0x1C => [[(0, 9), (16, 40)], [(0, 54)], [(0, 58)], [(0, 38)], [(0, 56)], []]
  | 0x1D => [[(0, 9), (19, 37)], [], [(48, 10)], [], [(0, 56)], []]
  | 0x1E => [[(0, 9), (16, 40)], [(0, 48)], [(0, 58)], [(0, 38)], [(0, 56)], [(0, 6)]]
  | _ => [[(0, 12), (24, 16)], [], [(48, 10)], [], [], []]

/-- The axis that a channel has, or will have once its pending binds have taken effect (R325). -/
def Chan.axisFor (x : Chan) : Option Nat :=
  ((x.ops.filter (fun o => o.code = 0x1F)).getLast?.map (fun o => o.desc.cAxis)).or (if x.bound then some x.axis else none)

/-- A whole extent in the Granary. -/
def inGranary (r : Nat × Nat) : Bool := decide (r.1 + r.2 ≤ 0x0001_0000_0000)

/-- What a collective command reads and writes, for a ring length and an own position (Table 12-1). -/
def collExtents (d : Desc) (n pos : Nat) : List (Nat × Nat) :=
  let b := d.cBytes
  match d.code with
  | 0x18 => [(d.cSrc, b), (d.cDst, b)]
  | 0x19 => [(d.cSrc, b), (d.cDst, b / n)]
  | 0x1A => [(d.cSrc, b), (d.cDst, n * b)]
  | 0x1B => [(d.cSrc, b), (d.cDst, b)]
  | 0x1C => (d.cSrc, b) :: (if d.cRoot = pos then [(d.cDst, n * b)] else [])
  | 0x1E => [(d.cSrc, b), (d.cDst, b)]
  | _ => []

/-- The body's part of check 2. A partition in no slice has no ring: N is 0, and no ROOT is below it (R324, R332, log 73). -/
def State.collBodyOk (s : State) (k : CoreId) (d : Desc) : Bool :=
  let fs := [d.w2, d.w3, d.w4, d.w5, d.w6, d.w7].zip (collFields d.code)
  let ax := (s.chan d.cChan).axisFor
  let g := s.ringOf k (ax.getD 0)
  let n := g.2.2.1
  let moves := d.code ≠ 0x1D && d.code ≠ 0x1F
  fs.all (fun e : W64 × List (Nat × Nat) => onlyFields e.1 e.2) && d.sigScope ≠ 1 &&
  (if d.code = 0x1F then d.cAxis < 6
   else
    ax.isSome && (s.sliceOf k).isSome && (n = 1 || (decide (d.cStreamP < 0xFFE) && decide (d.cStreamM < 0xFFE))) &&
    (!moves || (decide (d.cOper < 3) && decide (d.cType < 4) && decide (d.cBytes ≠ 0) && decide (d.cBytes % 64 = 0) && decide (d.cChunk ≠ 0) &&
      (collExtents d n g.2.2.2.1).all inGranary && inGranary (d.cDst, 1))) &&
    (!(d.code = 0x19 || (d.code = 0x18 && d.cAlg = 1)) || decide (d.cBytes % (128 * n) = 0)) &&
    decide (d.cRoot < n) && decide (d.cShift < n) && (d.code ≠ 0x1E || decide (d.cShift ≠ 0)))

/-- Extents of a collective command on its channel's axis. -/
def State.collRanges (s : State) (k : CoreId) (d : Desc) : List (Nat × Nat) :=
  let g := s.ringOf k ((s.chan d.cChan).axisFor.getD 0)
  collExtents d g.2.2.1 g.2.2.2.1

/-! ### The checks by engine -/

/-- The data mover's checks (Table 7-6, R257). -/
def State.moverChecks (s : State) (k : CoreId) (d : Desc) : Checked :=
  let c := d.code
  if c = 0x16 ∨ c = 0x17 then
    let rs := windrowRows k d
    s.checks k d true (windrowBodyOk d) (s.sigFallow d || rs.any (fun r => s.touchesFallow r.1 r.2)) true (rs.all (s.inOwnPart k))
  else if 0x18 ≤ c ∧ c ≤ 0x1F then
    let rs := s.collRanges k d
    s.checks k d true (s.collBodyOk k d) (s.sigFallow d || rs.any (fun r => s.touchesFallow r.1 r.2)) (d.cSrc % 64 = 0 && d.cDst % 64 = 0)
      (rs.all (s.inOwnPart k))
  else s.checks k d (0x10 ≤ c && c ≤ 0x14) (s.moverBodyOk d) (s.moverFallow k d) d.moverAligned (s.moverExtents k d)

/-- The vector engine's checks: a VEXEC names no extent (R129, R183). -/
def State.vecChecks (s : State) (k : CoreId) (d : Desc) : Checked :=
  s.checks k d (d.code = 0x30) (vexecBodyOk d (s.lanes k)) (s.sigFallow d) true true

def State.engineChecks (s : State) (k : CoreId) (e : Engine) (d : Desc) : Checked :=
  match e with
  | .matrix => s.matChecks k d
  | .vector => s.vecChecks k d
  | .dataMover => s.moverChecks k d

/-! ### Dequeue -/

/-- The engine's dequeue count, and the slot with one dequeue more and the entry gone. -/
def Slot.dequeue (x : Slot) (e : Engine) (order : Nat) : Nat × Slot :=
  let rest := fun q : List QEntry => q.filter (fun h => h.order ≠ order)
  match e with
  | .matrix => (x.matSeq, { x with matQ := rest x.matQ, matSeq := (x.matSeq + 1) % 2 ^ 32 })
  | .vector => (x.vecSeq, { x with vecQ := rest x.vecQ, vecSeq := (x.vecSeq + 1) % 2 ^ 32 })
  | .dataMover => (x.dmSeq, { x with dmQ := rest x.dmQ, dmSeq := (x.dmSeq + 1) % 2 ^ 32 })

/-- A command is past dequeue. A stale VEXEC has no microprogram to run: it goes to those that await completion. -/
def Slot.inPipe (x : Slot) (e : Engine) (f : Flight) : Slot :=
  match e with
  | .matrix => { x with matPipe := x.matPipe ++ [f] }
  | .dataMover => { x with dmPipe := x.dmPipe ++ [f] }
  | .vector =>
    let r : VRun := { f := f, bank := f.q.bank, pc := f.q.desc.vEntry, strict := f.q.desc.vMode = 1 }
    if f.done then { x with vtail := x.vtail ++ [r] } else { x with vrun := some r }

/-- ENGINE_DEQUEUE. A stale command is counted and completes in its order with a STALE record (R188, R192, R198). -/
def execEngineDequeue (k : CoreId) (e : Engine) (s : State) : Out :=
  .next (
    let x := s.slot k
    if !s.slotLive k || !x.engineRoom e then s
    else
      match readyHead (s.leftFor k e) (x.queue (engineNo e)) with
      | none => s
      | some (h, bypass) =>
        let t := x.dequeue e h.order
        let f : Flight := { q := h, seq := t.1, tDeq := s.stamp }
        let s := (s.setSlot k t.2).takeWait k h
        let s := if bypass then s.wrapAdd (slotB k) F.DM_WAIT_BYPASS 1 else s
        match s.engineChecks k e h.desc with
        | .halt code => s.faultCmd k e h code
        | .stale =>
          (s.satAdd (slotB k) F.EPOCH_DISCARDS_STALE_CMDS 1).modSlot k (fun x => x.inPipe e { f with done := true, status := 1 })
        | .ok => s.modSlot k (fun x => x.inPipe e f))

end Sys2Proof.Machine
end

