-- ==== Sys2Proof/Machine/Plan.lean ====
section
/-! DEFINITION. The loader's checks of a job image's plan (codes 0x03 to 0x11 and 0x80 of Table 15-11). The plan section's encoding is the toolchain's, so what it
holds is the free value Config.planOf (log 16); what each rule then asks of it is computed here. -/

namespace Sys2Proof.Machine

/-- The outcome of a check: code (0 none), warnings, UNIT, CYCLE_PASS, FURROW_ID, SECTION, DETAIL (Table 15-10). -/
structure Finding where
  code : Nat := 0
  warnings : Nat := 0
  unit : Nat := 0xFFFF
  cyclePass : Nat := 0
  furrow : Nat := 0
  sect : Nat := 0xFFFF
  detail : Nat := 0
deriving DecidableEq, Repr

/-- The first of several outcomes. -/
def firstFinding : List (Option Finding) → Option Finding
  | [] => none
  | some f :: _ => some f
  | none :: t => firstFinding t

/-- The first member of a list that breaks a rule, reported. -/
def breaks {α : Type} (l : List α) (bad : α → Bool) (report : α → Finding) : Option Finding := (l.find? bad).map report

/-- A finding that names a furrow. -/
def PlanFurrow.finding (f : PlanFurrow) (code detail : Nat) : Finding :=
  { code := code, unit := f.unit, cyclePass := f.pass, furrow := f.id, detail := detail }

/-! ### What a schedule asks -/

/-- Passes from one Pass of the cycle to another, going on round the cycle. -/
def passesFrom (cycle a b : Nat) : Nat := (b + cycle - a % cycle) % cycle

/-- The run windows of three Passes of two furrows overlap (R52). -/
def windowsMeet (cycle a b : Nat) : Bool := passesFrom cycle a b < 3 || passesFrom cycle b a < 3

/-- The units and Passes of the cycle in which furrows are planned. -/
def Plan.cells (p : Plan) : List (Nat × Nat) := (p.furrows.map (fun f => (f.unit, f.pass))).eraseDups
/-- The furrows of one unit in one Pass, in order. -/
def Plan.at (p : Plan) (c : Nat × Nat) : List PlanFurrow := p.furrows.filter (fun f => f.unit = c.1 && f.pass = c.2)

/-- The engine edges of a furrow: its spans, and a Bin furrow's replay reserve (R42, R234). -/
def PlanFurrow.edges (f : PlanFurrow) : Nat :=
  f.spans.foldl (fun n x => n + x.edges) 0 + (if 0x1000 ≤ f.unit && f.unit < 0x2000 then cdiv f.journal 4 else 0)

/-- A unit's Pass with remote commands, in reference clk: each span at the worst stretch, each remote command's data ready before its first slot and its completion where
R203 puts it. The clk at which the last furrow ends; none where data comes too late (R42). -/
def spansEnd (spans : List PlanSpan) : Option Nat :=
  spans.foldl (fun t x => t.bind (fun t =>
    let t := t + cdiv (x.edges * 16) 15
    match x.remote with
    | none => some t
    | some r => if t ≤ r.1 then some (max t r.2) else none)) (some 0)

/-- R42: the furrows of a unit's Pass fit its budget. -/
def State.overBudget (s : State) (fs : List PlanFurrow) : Bool :=
  let spans := fs.flatMap (·.spans)
  if spans.any (fun x => x.remote.isSome) then
    match spansEnd spans with
    | none => true
    | some t => s.budget < t
  else s.edgeBudget < fs.foldl (fun n f => n + f.edges) 0

def State.chkBudget (s : State) (p : Plan) : Option Finding :=
  breaks p.cells (fun c => s.overBudget (p.at c)) (fun c =>
    { code := 0x08, unit := c.1, cyclePass := c.2, detail := (p.at c).foldl (fun n f => n + f.edges) 0 })

/-- R45: fewer than two balk Passes of a unit in the cycle. -/
def chkBalk (cycle : Nat) (p : Plan) : Option Finding :=
  breaks (p.furrows.map (·.unit)).eraseDups (fun u => cycle < (p.cells.filter (fun c => c.1 = u)).length + 2) (fun u => { code := 0x09, unit := u })

/-! ### Encodings found from the image (R113, R129, R133, R160, R161, R188) -/

/-- The offset of the first unassigned word that a program surely reaches: from its beginning to the first transfer of control. -/
def unassigned (word : Nat → Nat) (step : Nat) (known ends : Nat → Bool) : Nat → Nat → Option Nat
  | 0, _ => none
  | n + 1, o => if !known (word o) then some o else if ends (word o) then none else unassigned word step known ends n (o + step)

/-- A word of the control core that transfers control or stops. -/
def coreEnds (w : Nat) : Bool := (0x30 ≤ w % 256 && w % 256 ≤ 0x38) || w % 256 = 0x61 || w % 256 = 0x62 || w % 256 = 0x59

def PlanIssue.desc (i : PlanIssue) : Desc :=
  let w := fun n => i.words.getD n 0
  { w0 := w 0, w1 := w 1, w2 := w 2, w3 := w 3, w4 := w 4, w5 := w 5, w6 := w 6, w7 := w 7 }

def PlanIssue.eng (i : PlanIssue) : Engine := if i.engine = 0 then .matrix else if i.engine = 1 then .vector else .dataMover

/-- A descriptor of the image that its engine would refuse. -/
def State.issueFails (s : State) (i : PlanIssue) : Bool :=
  match s.physOf i.cluster with
  | none => false
  | some k => match s.engineChecks k i.eng i.desc with | .halt _ => true | _ => false

/-- `im` gives a cluster's bank image: its byte offset in the image, its section and its bytes as little-endian numbers. -/
def State.chkEncoding (s : State) (p : Plan) (im : List (Nat × Nat × Nat × (Nat → Nat → Nat))) : Option Finding :=
  let k : CoreId := ⟨0, 0⟩
  let core := fun x : Nat × Nat × Nat × (Nat → Nat → Nat) => unassigned (fun o => x.2.2.2 o 4) 4 (fun w => (decodeCore w k).isSome) coreEnds 4096 0
  let vector := fun (x : Nat × Nat × Nat × (Nat → Nat → Nat)) (i : PlanIssue) =>
    if i.engine = 1 && i.cluster = x.1 then
      unassigned (fun o => x.2.2.2 o 8) 8 (fun w => (decodeVec w k).isSome) (fun w => w % 256 = 0x70 || w % 256 = 0x71) 2048 i.desc.vEntry
    else none
  firstFinding (im.map (fun x => ((core x).or (p.issues.findSome? (vector x))).map (fun o =>
      ({ code := 0x0A, unit := x.1, sect := x.2.2.1, detail := x.2.1 + o } : Finding))) ++
    [breaks p.issues s.issueFails (fun i => { code := 0x0A, unit := i.cluster, detail := i.offset })])

/-! ### Order of accesses (R48, R52, R106, R109, R139, R156 to R158, R235) -/

/-- A furrow reads a tile entry, vector or mask register that it has not written (R48, R106). -/
def PlanFurrow.readsUnwritten (f : PlanFurrow) : Option Nat :=
  (f.regs.zipIdx.find? (fun e => !e.1.2 && !(f.regs.take e.2).any (fun x => x.2 && x.1 = e.1.1))).map (·.1.1)

def PlanAccess.hits (a b : PlanAccess) : Bool := overlap a.lo a.len b.lo b.len

/-- A furrow writes what it has read and not first written itself (R52). -/
def PlanFurrow.rewrites (f : PlanFurrow) : Option PlanAccess :=
  (f.accesses.zipIdx.find? (fun e => e.1.write && !e.1.free && (f.accesses.take e.2).zipIdx.any (fun r =>
    !r.1.write && !r.1.free && r.1.hits e.1 &&
      !(f.accesses.take r.2).any (fun w => w.write && w.lo ≤ r.1.lo && r.1.lo + r.1.len ≤ w.lo + w.len)))).map (·.1)

/-- A command reads bytes that an earlier command of the furrow wrote, without a wait for its token (R109, R139). -/
def PlanFurrow.readsEarly (f : PlanFurrow) : Option PlanAccess :=
  (f.accesses.zipIdx.find? (fun e => !e.1.write && (f.accesses.take e.2).any (fun w =>
    w.write && w.cmd ≠ e.1.cmd && w.hits e.1 && !e.1.after.contains w.cmd))).map (·.1)

/-- Two furrows that R52 keeps apart: what one reads or writes, another writes within three Passes; two Bin units of a plot in one Pass write the same lines (R235). -/
def crosses (cycle : Nat) (f g : PlanFurrow) : Option PlanAccess :=
  let bins := 0x1000 ≤ f.unit && f.unit < 0x2000 && 0x1000 ≤ g.unit && g.unit < 0x2000 && f.unit / 8 = g.unit / 8 && f.pass = g.pass
  g.accesses.find? (fun w => w.write && f.accesses.any (fun a => a.hits w &&
    (if a.free || w.free then bins && a.write else if a.write then windowsMeet cycle f.pass g.pass else passesFrom cycle f.pass g.pass < 3)))

/-- Two furrows of one core: they store to one line while their windows overlap (R156), or write one register in one Pass (R157). -/
def clashes (cycle : Nat) (f g : PlanFurrow) : Option Nat :=
  if f.unit ≠ g.unit then none
  else (f.lines.find? (fun l => windowsMeet cycle f.pass g.pass && g.lines.contains l)).or (f.gregs.find? (fun r => f.pass = g.pass && g.gregs.contains r))

/-- The pairs of different furrows, in both orders. -/
def Plan.pairs (p : Plan) : List (PlanFurrow × PlanFurrow) :=
  let fs := p.furrows.zipIdx
  fs.flatMap (fun a => (fs.filter (fun b => b.2 ≠ a.2)).map (fun b => (a.1, b.1)))

def chkOrder (cycle : Nat) (p : Plan) : Option Finding :=
  firstFinding (
    p.furrows.map (fun f => f.readsUnwritten.map (f.finding 0x0B)) ++
    p.furrows.map (fun f => (f.rewrites.or f.readsEarly).map (fun a => f.finding 0x0B a.lo)) ++
    p.pairs.map (fun e => (crosses cycle e.1 e.2).map (fun a => e.2.finding 0x0B a.lo)) ++
    p.pairs.map (fun e => (clashes cycle e.1 e.2).map (e.2.finding 0x0B)) ++
    p.outside.map (fun o => (o.2.2.find? (fun r => (p.at (o.1, o.2.1)).any (fun f => f.gregs.contains r))).map (fun r =>
      ({ code := 0x0B, unit := o.1, cyclePass := o.2.1, detail := r } : Finding))))

/-! ### Tokens and capacities (R57, R195, R196, R234, R268, R311, R333, R359, R364) -/

def chkTokens (p : Plan) : Option Finding :=
  firstFinding (
    p.furrows.map (fun f => (f.tokens.find? (fun t => t.2.1 ≠ t.2.2)).map (fun t => f.finding 0x0C t.1)) ++
    p.furrows.map (fun f => if f.drill.1 && !f.drill.2 then some (f.finding 0x0C 0) else none) ++
    [breaks p.counts (fun c => 0xFFFF < c.2.2) (fun c => { code := 0x0C, unit := c.1, detail := c.2.1 }),
     breaks p.held (fun h => 128 < h.2) (fun h => { code := 0x0C, unit := h.1, detail := h.2 })])

/-- The separate extents of a furrow's writes between two addresses: those at whose beginning no other of them stands or ends. -/
def PlanFurrow.extentsIn (f : PlanFurrow) (lo hi : Nat) : Nat :=
  let ws := (f.accesses.filter (fun a => a.write && overlap a.lo a.len lo (hi - lo))).map (fun a => (max a.lo lo, min (a.lo + a.len) hi))
  (ws.eraseDups.filter (fun w => !ws.any (fun v => v.1 < w.1 && w.1 ≤ v.2))).map (·.1) |>.eraseDups.length

/-- The most extents that a table's memory needs open in one Pass (R57). -/
def Plan.openMost (p : Plan) (lo hi : Nat) : Nat :=
  ((p.furrows.map (·.pass)).eraseDups.map (fun n => (p.furrows.filter (fun f => f.pass = n)).foldl (fun m f => m + f.extentsIn lo hi) 0)).foldl max 0

/-- Code 0x0D for a table: the count needed and the count there is. -/
def tooMany (unit need have_ : Nat) : Option Finding := if have_ < need then some { code := 0x0D, unit := unit, detail := need } else none

def State.chkCapacity (s : State) (p : Plan) : Option Finding :=
  firstFinding (
    (List.range 32).map (fun q => tooMany 0xFFFF (p.openMost (lineAddr q 0) (lineAddr q 0x20_0000)) 256) ++
    [tooMany 0xFFFF (p.openMost 0x0080_0000_0000 0x0100_0000_0000) 1024] ++
    p.furrows.map (fun f =>
      if 0x1000 ≤ f.unit && f.unit < 0x2000 && decide (s.rd (plotB ((f.unit - 0x1000) / 8)) F.BIN_CFG_JOURNAL_LINES (f.unit % 8) < f.journal) then
        some (f.finding 0x0D f.journal) else none) ++
    p.senders.map (fun e => tooMany 0xFFFF e.2 40) ++
    [tooMany 0xFFFF p.received.eraseDups.length 2048] ++
    p.buffers.map (fun b => (tooMany (0x3000 + b.1) b.2.1 64).or ((tooMany (0x3000 + b.1) b.2.2.1 64).or (tooMany (0x3000 + b.1) b.2.2.2 16))) ++
    p.wstacks.map (fun x => (s.physOf x.1).bind (fun k =>
      tooMany x.1 x.2.2.2 (s.rd (slotB k) F.WR_REGION_RING_LINES x.2.1 + s.rd (slotB k) F.WR_SPILL_SPILL_LINES x.2.1))))

/-! ### The Barn and delivery (R50, R51, R55, R251) -/

/-- Bytes that R251 counts for one access: 512 for each block read or wholly written, 1,024 for each partly written. -/
def PlanAccess.barnBytes (a : PlanAccess) : Nat :=
  if regionOf a.lo ≠ .barn then 0
  else
    (unitsOf 512 a.lo a.len).foldl (fun n b => n + (if !a.write || (a.lo ≤ 512 * b && 512 * b + 512 ≤ a.lo + a.len) then 512 else 1024)) 0

/-- R251: (576 − 8 × ELASTIC_MIN) × EDGE_BUDGET bytes in any Pass. -/
def State.chkBarn (s : State) (p : Plan) : Option Finding :=
  let bytes := fun n => (p.furrows.filter (fun f => f.pass = n)).foldl (fun m f => f.accesses.foldl (fun m a => m + a.barnBytes) m) 0
  breaks (p.furrows.map (·.pass)).eraseDups (fun n => (576 - 8 * s.rd barnB F.BARN_CFG_ELASTIC_MIN) * s.edgeBudget < bytes n)
    (fun n => { code := 0x0E, cyclePass := n, detail := bytes n })

/-- Slots of the Pass on a port that no reservation holds. -/
def State.unreserved (s : State) (n : Nat) : Nat := ((List.range (s.passLen / 25)).filter (fun k => (s.slotRaw n k).isNone)).length

/-- The boundary, in Passes from the sender's, at which a marker of a path is delivered (Table 2-2). -/
def State.deliveredAfter (s : State) (clk : Nat) : Nat := cdiv (s.budget + 40 + clk + s.rd seqB F.COMMIT_CFG_COMMIT_GUARD) s.passLen

/-- R50: a consumer before its delivery; R51: collectives and host-window transfers of what the Pass itself writes; R55: more frames of one furrow than a port's unreserved
slots carry. -/
def State.chkDelivery (s : State) (cycle : Nat) (p : Plan) : Option Finding :=
  let fresh := fun (f : PlanFurrow) (r : Nat × Nat) =>
    p.furrows.any (fun g => g.pass = f.pass && g.accesses.any (fun a => a.write && overlap a.lo a.len r.1 r.2))
  firstFinding (
    p.deliveries.map (fun d =>
      let n := passesFrom cycle d.2.1 d.2.2.1
      if (if n = 0 then cycle else n) < s.deliveredAfter d.1 then
        some { code := 0x0F, unit := d.2.2.2.1, cyclePass := d.2.2.1, furrow := d.2.2.2.2 } else none) ++
    p.furrows.map (fun f => (f.handed.find? (fresh f)).map (fun r => f.finding 0x0F r.1)) ++
    p.furrows.map (fun f => (f.sends.find? (fun e => 13 * s.unreserved e.1 < e.2)).map (fun e => f.finding 0x0F e.2)))

/-! ### Slots (R308, R309, R311, R318, R335) -/

/-- The hops of a plan that leave by this module's ports. -/
def Plan.ownHops (p : Plan) : List (Nat × PlanStream × PlanHop) := p.streams.flatMap (fun t => t.hops.filterMap (fun h => h.port.map (fun n => (n, t, h))))

/-- A reservation differs from the entry that its slot has (R304). -/
def State.unlisted (s : State) (slice : Nat) (e : Nat × PlanStream × PlanHop) : Option Nat :=
  let pass := s.passLen / 25
  ((List.range e.2.2.slots).map (fun i => (e.2.2.start + i) % pass)).find? (fun k =>
    match s.slotRaw e.1 k with
    | some r => r.1 ≠ slice || r.2.1 ≠ e.2.2.source || (e.2.2.source = 0xC && r.2.2 ≠ e.2.1.stream)
    | none => true)

/-- HOP_CLK of a hop: measured here for the module's own ports. -/
def State.hopOf (s : State) (h : PlanHop) : Nat := match h.port with | some n => s.rd (portB n) F.PORT_HOP_HOP_CLK | none => h.hopClk

/-- The least offset of the run after a hop (R308, R335). -/
def State.leastOffset (s : State) (t : PlanStream) (h : PlanHop) : Nat := cdiv (s.hopOf h + h.latency + (if t.adds then 17 else 9)) 25

/-- A hop and the one after it. -/
def PlanStream.steps (t : PlanStream) : List (PlanHop × PlanHop) := t.hops.zip (t.hops.drop 1)

/-- The run after a hop begins too early (R308). -/
def State.tooSoon (s : State) (t : PlanStream) : Option PlanHop :=
  (t.steps.find? (fun e => passesFrom (s.passLen / 25) e.1.start e.2.start < s.leastOffset t e.1)).map (·.2)

/-- Frames of a run that wait at its port in slot `k`: those that the run before has brought by then and this one has not yet sent (R308). -/
def State.earlyIn (s : State) (t : PlanStream) (a b : PlanHop) (k : Nat) : Nat :=
  let pass := s.passLen / 25
  let from_ := (a.start + s.leastOffset t a) % pass
  let wait := passesFrom pass from_ b.start
  let d := passesFrom pass from_ k
  13 * min a.slots d - 13 * min b.slots (d - wait)

/-- The most frames that wait early on a VC of a port in any slot. -/
def State.earlyMost (s : State) (p : Plan) (n vc : Nat) : Nat :=
  let here := p.streams.flatMap (fun t => (t.steps.filter (fun e => e.2.port = some n && e.2.vc = vc)).map (fun e => (t, e.1, e.2)))
  ((List.range (s.passLen / 25)).map (fun k => here.foldl (fun m x => m + s.earlyIn x.1 x.2.1 x.2.2 k) 0)).foldl max 0

/-- A team whose member's reserved frames exceed the other members' unreserved slots (R318). -/
def State.noRefuge (s : State) (n : Nat) : Bool :=
  let others := (s.teamOf n).filter (· ≠ n)
  others ≠ [] && decide (others.foldl (fun m q => m + 13 * s.unreserved q) 0 < 13 * (s.passLen / 25 - s.unreserved n))

def State.chkSlots (s : State) (slice : Nat) (p : Plan) : Option Finding :=
  let pass := s.passLen / 25
  let slots := fun e : Nat × PlanStream × PlanHop => (List.range e.2.2.slots).map (fun i => (e.1, (e.2.2.start + i) % pass))
  let all := p.ownHops.flatMap slots
  let at_ := fun (n k : Nat) => ({ code := 0x07, unit := 0x3000 + n, detail := k } : Finding)
  let used := (p.ownHops.map (·.1)).eraseDups
  firstFinding (
    p.ownHops.map (fun e => (s.unlisted slice e).map (at_ e.1)) ++
    [breaks all (fun x => 1 < (all.filter (· = x)).length) (fun x => at_ x.1 x.2)] ++
    p.ownHops.map (fun e => if 13 * e.2.2.slots < e.2.1.frames then some (at_ e.1 e.2.2.start) else none) ++
    p.streams.map (fun t => (s.tooSoon t).map (fun h => at_ (h.port.getD 0) h.start)) ++
    used.map (fun n => ((List.range 2).find? (fun v => 128 < s.earlyMost p n v)).map (fun _ => at_ n 0)) ++
    used.map (fun n => if s.unreserved n < cdiv (s.rd routeB F.ROUTE_CFG_UNRES_MIN * s.passLen) 400 then some (at_ n 0) else none) ++
    used.map (fun n =>
      let least := cdiv (2 * s.rd (portB n) F.PORT_HOP_HOP_CLK * 1000) 1871 + 16
      if s.rd (portB n) F.PORT_VC_CREDITS 0 < least || s.rd (portB n) F.PORT_VC_CREDITS 1 < least then some (at_ n 0) else none) ++
    (List.range 12).map (fun n => if s.noRefuge n then some (at_ n 0) else none))

/-! ### Collectives and mapping (R325, R346, R348, R352, R356 to R362, R371) -/

/-- Does an axis's role admit a collective command (Table 13-1)? CBIND on every axis whose role is not none. -/
def roleAdmits (role code : Nat) : Bool :=
  match role with
  | 0 => [0x18, 0x19, 0x1A, 0x1D, 0x1E, 0x1F].contains code
  | 1 => [0x18, 0x19, 0x1A, 0x1B, 0x1D, 0x1F].contains code
  | 2 => [0x1B, 0x1D, 0x1F].contains code
  | 3 => [0x1A, 0x1C, 0x1D, 0x1E, 0x1F].contains code
  | 4 => [0x18, 0x19, 0x1A, 0x1D, 0x1E, 0x1F].contains code
  | _ => false

def State.opFails (s : State) (o : PlanOp) : Bool :=
  s.rd routeB F.AXIS_WIDTH o.axis = 0 || !roleAdmits (s.rd routeB F.AXIS_ROLE o.axis) o.code || o.others.any (· ≠ o.axis) || o.planned + 2 < o.inLine

/-- Two steps hold one verdict slot at the same time (R346). -/
def stepsClash (a b : Nat × Nat × Nat × Nat) : Bool := a.1 = b.1 && a.2.1 ≠ b.2.1 && a.2.2.1 ≤ b.2.2.2 && b.2.2.1 ≤ a.2.2.2

def State.chkColl (s : State) (p : Plan) : Option Finding :=
  firstFinding [
    breaks p.ops s.opFails (fun o => { code := 0x10, detail := o.channel }),
    breaks p.steps (fun a => p.steps.any (stepsClash a)) (fun a => { code := 0x10, detail := a.1 }),
    breaks p.verdicts (fun _ => true) (fun m => { code := 0x10, detail := m })]

/-- R357, R358, R361, R371; the merge of host and lodger is the plan's one list of furrows (R360, R362). -/
def chkMapping (p : Plan) : Option Finding :=
  let no := fun b : Bool => if b then some ({ code := 0x11 } : Finding) else none
  firstFinding [
    no (p.layers.any (fun l => 1 < l.eraseDups.length)), no (decide (8 < p.stages)),
    breaks p.wstacks (fun a => p.wstacks.any (fun b => a.1 = b.1 && a.2.1 = b.2.1 && a.2.2.1 ≠ b.2.2.1)) (fun a => { code := 0x11, unit := a.1, detail := a.2.1 }),
    breaks p.owned (fun a => p.owned.any (fun b => a.1 ≠ b.1 && a.2 = b.2)) (fun a => { code := 0x11, detail := a.2.2 }),
    breaks p.reshards (fun r => r.1 ≠ r.2.1 || r.1 ≠ r.2.2) (fun r => { code := 0x11, detail := r.1 })]

/-! ### The plan as a whole -/

/-- Code 0x03: a plot that the plan names is fallow (R5). -/
def State.chkPlanFallow (s : State) (p : Plan) : Option Finding := breaks p.plots (fun n => decide (32 ≤ n) || s.fallowPlot n) (fun n => { code := 3, detail := n })

/-- Code 0x04: a range or queue pair that the plan names is not of the image's partitions. -/
def State.chkPlanRights (s : State) (parts : List Nat) (p : Plan) : Option Finding :=
  firstFinding [
    breaks (p.ranges ++ p.furrows.flatMap (fun f => f.accesses.map (fun a => (a.lo, a.len)))) (fun r => !s.inParts parts r.1 r.2) (fun r => { code := 4, detail := r.1 }),
    breaks p.queuePairs (fun q => !s.rdB hostB F.QP_OWNER_VALID q || !parts.contains (s.rd hostB F.QP_OWNER_PART q)) (fun q => { code := 4, detail := q })]

/-- Code 0x05: the axes are not those that the plan assumes; DETAIL is the offset of AXIS_a. -/
def State.chkAxes (s : State) (p : Plan) : Option Finding :=
  breaks (List.range 6) (fun a =>
    (s.rd routeB F.AXIS_LSB a, s.rd routeB F.AXIS_WIDTH a, s.rd routeB F.AXIS_WRAP a, s.rd routeB F.AXIS_LENGTH a) ≠ p.axes.getD a (0, 0, 0, 0))
    (fun a => { code := 5, detail := 0x100 + 8 * a })

/-- The codes from 0x08 to 0x11, in the order of Table 15-11. -/
def State.chkSchedule (s : State) (cycle : Nat) (p : Plan) (im : List (Nat × Nat × Nat × (Nat → Nat → Nat))) : Option Finding :=
  firstFinding [
    s.chkBudget p, chkBalk cycle p, s.chkEncoding p im, chkOrder cycle p, chkTokens p, s.chkCapacity p, s.chkBarn p, s.chkDelivery cycle p, s.chkColl p,
    chkMapping p]

/-- The warnings: chains of more than 2^20 terms; the first names its unit, Pass, furrow and length (R79, R405). Nothing is refused for them, and CODE stays zero. -/
def planWarnings (p : Plan) : Finding :=
  match p.chains.filter (fun c => 2 ^ 20 < c.2.2.2) with
  | [] => {}
  | c :: t => { warnings := t.length + 1, unit := c.1, cyclePass := c.2.1, furrow := c.2.2.1, detail := c.2.2.2 }

end Sys2Proof.Machine
end

