-- ==== Sys2Proof/Machine/Loader.lean ====
section
/-! DEFINITION. The loader (R401 to R405): loader pages, job images, the checks of Table 15-11 that rest on the image's
other sections, and the four operations. -/

namespace Sys2Proof.Machine

/-! ### Loader pages (R402) -/

/-- The page of a partition: the first bytes of its lowest Barn extent; none while that extent is being filled (R435). -/
def State.loaderPage (s : State) (part : Nat) : Option Nat :=
  let mine := (List.range 64).filter (fun e => s.rdB hayB F.BARN_EXT_VALID e && decide (s.rd hayB F.BARN_EXT_PART e = part))
  match mine with
  | [] => none
  | e :: t =>
    let low := t.foldl (fun x y => if s.rd hayB F.BARN_EXT_BASE y < s.rd hayB F.BARN_EXT_BASE x then y else x) e
    if s.rdB hayB F.BARN_EXT_FILLING low then none else some (0x0080_0000_0000 + s.rd hayB F.BARN_EXT_BASE low * 0x20_0000)

/-- A request (Table 15-10). -/
structure LoaderReq where
  addr : Nat
  op : Nat
  tag : Nat
  seq : Nat
  image : Nat
  len : Nat
  start : Nat
  digest : List Byte
deriving DecidableEq, Repr

/-- The request in slot `i` of a partition's page, if it is new: committed, with a SEQ other than its report's and an OP that is not reserved (log 64). -/
def State.loaderReq (s : State) (part i : Nat) : Option LoaderReq :=
  (s.loaderPage part).bind (fun page =>
    let a := page + 128 * i
    let bs := s.bytes a 128
    let r : LoaderReq :=
      { addr := a, op := num bs 0 1, tag := num bs 2 2, seq := num bs 4 4, image := num bs 8 8, len := num bs 0x10 8, start := num bs 0x18 6,
        digest := sub bs 0x20 32 }
    if s.blocked none a 64 || r.seq = num bs 0x40 4 || !(decide (1 ≤ r.op) && decide (r.op ≤ 4)) then none else some r)

/-- The partition, slot and request that the loader takes next: in the order of partition and then slot (R403). -/
def State.loaderNext (s : State) : Option (Nat × Nat × LoaderReq) :=
  (List.range 32).findSome? (fun p =>
    if s.rdB hayB F.PART_VALID p then (List.range 32).findSome? (fun i => (s.loaderReq p i).map (fun r => (p, i, r))) else none)

/-- The Steward runs its firmware. -/
def State.stewardRuns (s : State) : Bool := s.boot.stewardOk && decide (s.boot.stewardDom = .run)

/-! ### Reports -/

/-- The 64 bytes of a report. -/
def reportBytes (stamp seq status : Nat) (f : Finding) : List Byte :=
  [ pack [(0, 32, seq), (32, 8, status), (40, 8, f.code), (48, 16, min f.warnings 0xFFFF)],
    pack [(0, 16, f.unit), (16, 16, f.cyclePass), (32, 16, f.furrow), (48, 16, f.sect)],
    BitVec.ofNat 64 f.detail, BitVec.ofNat 64 stamp, 0, 0, 0, 0 ].flatMap wordBytes

/-- Write a request's report, outside every furrow, and count a refusal (R403, R407). -/
def State.loaderReport (s : State) (part : Nat) (r : LoaderReq) (status : Nat) (f : Finding) : State :=
  let s := (s.memWrite false false 28 (r.addr + 64) (reportBytes s.stamp r.seq status f)).2
  let s := s.wr rstB F.LOADER_STAT_BUSY 0
  if status = 2 then
    ((s.satAdd rstB F.LOADER_STAT_REFUSALS 1).wr rstB F.LOADER_STAT_LAST_CODE f.code).wr rstB F.LOADER_STAT_LAST_PART part
  else s

/-! ### Job images (R401) -/

/-- A section entry (Table 15-9), with its index. -/
structure Section where
  idx : Nat
  type : Nat
  owner : Nat
  target : Nat
  offset : Nat
  length : Nat
  addr : Nat
  rsv : Nat
deriving DecidableEq, Repr

def sectionsOf (img : List Byte) : List Section :=
  (List.range (num img 0x0A 2)).map (fun i =>
    let f := fun o n => num img (256 + 32 * i + o) n
    { idx := i, type := f 0 1, owner := f 1 1, target := f 2 2, offset := f 8 8, length := f 0x10 8, addr := f 0x18 8, rsv := f 4 4 })

/-- The image with its BODY_HASH field taken as zero. -/
def unhashed (img : List Byte) : List Byte := img.take 0x50 ++ List.replicate 48 0 ++ img.drop 0x80

/-- The byte offset of the first field that breaks R401, Table 15-8 or Table 15-9. -/
def formatFault (img : List Byte) : Option Nat :=
  let n := img.length
  let head : List (Nat × Bool) :=
    [ (0x00, num img 0 4 = 0x4A54_5550), (0x04, num img 4 2 = 1), (0x06, num img 6 2 < 4), (0x0A, 256 + 32 * num img 0x0A 2 ≤ n),
      (0x0C, num img 0x0C 4 = n && n % 64 = 0 && 256 ≤ n), (0x15, num img 0x15 1 ≠ 0), (0x18, num img 0x18 2 ≠ 0), (0x1A, num img 0x1A 2 = 0),
      (0x50, (sha384 (unhashed img)).toNat = num img 0x50 48), (0x98, num img 0x98 104 = 0) ]
  let entry := fun x : Section =>
    let o := 256 + 32 * x.idx
    [ (o, decide (1 ≤ x.type) && decide (x.type ≤ 5)), (o + 1, decide (x.owner ≤ 1)), (o + 2, decide (x.type ≤ 2) || decide (x.target = 0)),
      (o + 4, decide (x.rsv = 0)), (o + 8, decide (x.offset + x.length ≤ n)),
      (o + 0x10, !decide (x.type ≤ 2) || decide (x.length ≤ 16384)), (o + 0x18, x.type = 3 || x.type = 4 || decide (x.addr = 0)) ]
  ((head ++ (sectionsOf img).flatMap entry).find? (fun e : Nat × Bool => !e.2)).map (·.1)

/-- The image's partitions. -/
def imageParts (img : List Byte) : List Nat := (List.range 32).filter (fun p => tb (num img 0x1C 4) p)

/-- Every offset of a register-settings section lies in a plot or cluster block (R401). -/
def settingsRange (x : Section) : List Nat := (List.range (x.length / 8)).map (fun i => x.addr + 8 * i)

/-! ### The checks of Table 15-11, one by one -/

def chkFormat (img : List Byte) : Option Finding := (formatFault img).map (fun o => { code := 1, detail := o })

def State.chkTarget (s : State) (img : List Byte) : Option Finding :=
  if num img 0x16 2 = s.device ∧ tb (num img 8 1) (s.fuses.grade - 1) ∧ num img 9 1 = 0xB0 then none else some { code := 2 }

/-- The plot that a section lands in, where it is one of a plot's. -/
def sectionPlots (x : Section) : List Nat :=
  if x.type = 1 ∨ x.type = 2 then [x.target / 16]
  else if x.type = 3 then (match regionOf x.addr with | .granary _ => plotsTouched x.addr x.length | _ => [])
  else if x.type = 4 then (settingsRange x).filterMap (fun o => (plotOfOff o).map (·.1))
  else []

def State.chkFallow (s : State) (img : List Byte) : Option Finding :=
  (sectionsOf img).findSome? (fun x =>
    ((sectionPlots x).find? (fun p => decide (32 ≤ p) || s.fallowPlot p)).map (fun p =>
      { code := 3, sect := x.idx, unit := if x.type ≤ 2 then x.target else 0xFFFF, detail := p }))

/-- An image reaches the partitions of the tenant whose page holds the request, and their plots and extents (log 65); its slice lists them (R314). -/
def State.chkRights (s : State) (part : Nat) (img : List Byte) : Option Finding :=
  let ps := imageParts img
  let tenant := s.rd hayB F.PART_TENANT part
  let mine := fun p => ps.any (fun q => s.partOf p = some q)
  let badPart := ps.find? (fun q => !s.rdB hayB F.PART_VALID q || s.rd hayB F.PART_TENANT q ≠ tenant || s.sliceOfPart q ≠ some (num img 0x15 1))
  match badPart with
  | some q => some { code := 4, detail := q }
  | none =>
    (sectionsOf img).findSome? (fun x =>
      let ok :=
        if x.type ≤ 2 then mine (x.target / 16) && (s.physOf x.target).isSome
        else if x.type = 3 then s.inParts ps x.addr x.length
        else if x.type = 4 then x.addr % 8 = 0 && (settingsRange x).all (fun o => (plotOfOff o).any (fun p => mine p.1) && (blockAt o).isSome)
        else true
      if ok then none else some { code := 4, sect := x.idx, unit := if x.type ≤ 2 then x.target else 0xFFFF, detail := x.addr })

/-- The values that the plan assumes; axis geometry is the plan section's. DETAIL is the header offset of the field. -/
def State.chkConfig (s : State) (img : List Byte) : Option Finding :=
  ([ (0x10, num img 0x10 2 = s.passLen), (0x12, num img 0x12 1 = s.rd seqB F.COMMIT_CFG_COMMIT_GUARD),
     (0x13, num img 0x13 1 = s.rd routeB F.ROUTE_CFG_UNRES_MIN), (0x14, num img 0x14 1 = s.rd barnB F.BARN_CFG_ELASTIC_MIN) ] : List (Nat × Bool)).find?
    (fun e => !e.2) |>.map (fun e => { code := 5, detail := e.1 })

/-- HOP_PLAN byte 2n bounds PORT_HOP.HOP_CLK of port Fn, in units of 4 clk; 0 leaves the port unused. -/
def State.chkHop (s : State) (img : List Byte) : Option Finding :=
  (List.range 12).findSome? (fun n =>
    let most := 4 * num img (0x80 + 2 * n) 1
    let hop := s.rd (portB n) F.PORT_HOP_HOP_CLK
    if most ≠ 0 ∧ most < hop then some { code := 6, unit := 0x3000 + n, detail := hop } else none)

/-- A BRK word in an IM section of an image without the DEBUG flag; DETAIL is its offset in the image (log 66). -/
def chkDebug (img : List Byte) : Option Finding :=
  if tb (num img 6 2) 0 then none
  else
    (sectionsOf img).findSome? (fun x =>
      if x.type ≠ 1 then none
      else ((List.range (x.length / 4)).find? (fun i => num img (x.offset + 4 * i) 4 = 0x62)).map (fun i =>
        { code := 0x12, unit := x.target, sect := x.idx, detail := x.offset + 4 * i }))

/-- LOAD while an image of the partition is loaded and not started, or while a section's target may not be written (R167). -/
def State.chkBusy (s : State) (part : Nat) (img : List Byte) : Option Finding :=
  if (s.boot.images.find? part).any (fun i => !i.started) then some { code := 0x13 }
  else
    (sectionsOf img).findSome? (fun x =>
      let free :=
        match s.physOf x.target with
        | some k =>
          let y := s.slot k
          if x.type = 1 then y.writable (if y.started then !y.active else y.active) else x.type ≠ 2 || y.core.halted
        | none => true
      if free then none else some { code := 0x13, unit := x.target, sect := x.idx })

/-! ### Installing (R401, R403) -/

/-- Bits of a register that a setting may reach: its RW fields. -/
def rwMask (r : Reg) : Nat := packN (r.fields.map (fun f => (f.lo, f.w, if f.acc = .rw then 2 ^ f.w - 1 else 0)))

/-- One register setting. -/
def State.setting (s : State) (off v : Nat) : State :=
  match blockAt off with
  | none => s
  | some b =>
    match regIn b.2 (off - b.1) with
    | some r => s.regStore .steward b.1 r.1 r.2 v (rwMask r.1)
    | none => s

/-- Install one section. -/
def State.install (s : State) (img : List Byte) (x : Section) : State :=
  let bs := sub img x.offset x.length
  match x.type, s.physOf x.target with
  | 1, some k =>
    s.modSlot k (fun y =>
      let b := if y.started then !y.active else y.active
      y.setIm b (memPuts (y.im b) 0 bs))
  | 2, some k => s.modSlot k (fun y => { y with dmem := memPuts y.dmem 0 bs })
  | 3, _ => (s.memWrite false false 28 x.addr bs).2
  | 4, _ => (settingsRange x).zipIdx.foldl (fun s e => s.setting e.1 (num bs (8 * e.2) 8)) s
  | _, _ => s

/-- Clusters for which an image holds an IM bank. -/
def imageClusters (img : List Byte) : List Nat := ((sectionsOf img).filter (fun x => x.type = 1)).map (·.target)

/-! ### The verdict (R403) -/

/-- The bank images of an image: cluster, offset, section, and the numbers that stand in them. -/
def imageBanks (img : List Byte) : List (Nat × Nat × Nat × (Nat → Nat → Nat)) :=
  ((sectionsOf img).filter (fun x => x.type = 1)).map (fun x =>
    (x.target, x.offset, x.idx, fun o n => if o + n ≤ x.length then num img (x.offset + o) n else 0))

/-- The module with an image's register settings: the plan is measured against them. -/
def State.withSettings (s : State) (img : List Byte) : State :=
  ((sectionsOf img).filter (fun x => x.type = 4)).foldl (fun s x => s.install img x) s

/-- Codes 0x04 to 0x07, which START checks again. -/
def State.againstModule (s : State) (part : Nat) (img : List Byte) (p : Plan) : List (Option Finding) :=
  [s.chkRights part img, s.chkPlanRights (imageParts img) p, s.chkConfig img, s.chkAxes p, s.chkHop img, s.chkSlots (num img 0x15 1) p]

/-- Every check of LOAD in the order of Table 15-11: the refusal, or the plan's warnings. -/
def State.loadChecks (s : State) (part : Nat) (img : List Byte) : Finding :=
  let p := Config.planOf img
  (firstFinding ([chkFormat img, s.chkTarget img, s.chkFallow img, s.chkPlanFallow p] ++ s.againstModule part img p ++
    [(s.withSettings img).chkSchedule (num img 0x18 2) p (imageBanks img), chkDebug img, s.chkBusy part img])).getD (planWarnings p)

/-! ### Operations (R403) -/

/-- The loader's read of an image. -/
inductive ImageRead where
  | held
  | failed
  | bytes (bs : List Byte)
deriving DecidableEq, Repr

/-- The image's bytes; an open extent holds the read, and answers it with an error once it closes uncommitted (R57). A read that fails counts as bytes that changed
(log 64). -/
def State.imageBytes (s : State) (a n : Nat) : ImageRead × State :=
  let free : State := { s with boot.imgRead := none }
  if s.boot.imgRead = some (a, n, true) then (.failed, free)
  else if s.blocked none a n then (.held, { (if s.boot.imgRead = some (a, n, false) then s else s.countHeld) with boot.imgRead := some (a, n, false) })
  else
    let r := free.memRead false true 28 a n
    (if r.1 = rOK then .bytes r.2.1 else .failed, r.2.2)

/-- CHECK and LOAD up to the verdict, and what follows an acceptance. -/
def State.checkImage (s : State) (part : Nat) (r : LoaderReq) (accept : List Byte → State → State) : State :=
  if !s.inPart part r.image r.len then s.loaderReport part r 2 { code := 4, detail := r.image }
  else if r.image % 64 ≠ 0 then s.loaderReport part r 2 { code := 1 }
  else
    match s.imageBytes r.image r.len with
    | (.held, s) => s
    | (.failed, s) => s.loaderReport part r 2 { code := 1 }
    | (.bytes img, s) =>
      let f := s.loadChecks part img
      if f.code ≠ 0 then s.loaderReport part r 2 f else (accept img s).loaderReport part r (if f.warnings = 0 then 1 else 3) f

/-- LOAD installs the sections and keeps the image's place and digest. -/
def State.loadImage (s : State) (part : Nat) (r : LoaderReq) (img : List Byte) : State :=
  let s := (sectionsOf img).foldl (fun s x => s.install img x) s
  let kept : Image := { addr := r.image, len := r.len, digest := sub img 0x20 48 }
  ({ s with boot.images := s.boot.images.insert part kept }).satAdd rstB F.LOADER_STAT_LOADS 1

/-- Passes from the current one to START_PASS, which is 48 bits wide. -/
def State.passesTo (s : State) (start : Nat) : Nat := (start + 2 ^ 48 - s.passNum) % 2 ^ 48

/-- START's rechecks, then 0x14 and 0x15. -/
def State.startChecks (s : State) (part : Nat) (r : LoaderReq) (i : Image) (img : List Byte) : Finding :=
  let d := s.passesTo r.start
  (firstFinding (s.againstModule part img (Config.planOf img) ++
    [chkDebug img, if r.digest = i.digest.take 32 then none else some { code := 0x14 },
     if 4 ≤ d ∧ d < 2 ^ 47 then none else some { code := 0x15, detail := s.passNum }])).getD {}

/-- Start a core that was never started, or request the switch of a started one at B(START_PASS). -/
def State.startCluster (s : State) (start : Nat) (n : Nat) : State :=
  match s.physOf n with
  | none => s
  | some k =>
    if (s.slot k).started then
      let at' := s.passIdx + s.passesTo start
      (s.requestSwitch k 0).modSlot k (fun x => { x with switchPass := at' })
    else
      ((s.modCore k (fun c => { c with regs := c.regs.put 0 1 (BitVec.ofNat 64 start) })).wr (slotB k) F.CORE_DBG_RESUME_PC 0).resumeAt k 0

def State.startImage (s : State) (part : Nat) (r : LoaderReq) : State :=
  match s.boot.images.find? part with
  | none => s.loaderReport part r 2 { code := 0x14 }
  | some i =>
    match s.imageBytes i.addr i.len with
    | (.held, s) => s
    | (.failed, s) => s.loaderReport part r 2 { code := 1 }
    | (.bytes img, s) =>
      let f := s.startChecks part r i img
      if f.code ≠ 0 then s.loaderReport part r 2 f
      else
        let s := (imageClusters img).foldl (fun s n => s.startCluster r.start n) s
        ({ s with boot.images := s.boot.images.insert part { i with started := true } }).loaderReport part r 4 {}

/-- The boundary halts the cores of a partition that is being unloaded. -/
def State.unloadBoundary (s : State) : State :=
  match s.boot.unload with
  | some (p, i, false) => { (s.partSlots p).foldl State.haltReq s with boot.unload := some (p, i, true) }
  | _ => s

/-- UNLOADED is reported once the queues have drained; the request is then done. -/
def State.unloadEnd (s : State) (r : LoaderReq) : State :=
  match s.boot.unload with
  | some (p, _, true) =>
    if s.drained p then
      ({ s with boot.unload := none, boot.images := s.boot.images.erase p }).loaderReport p r 5 {}
    else s
  | _ => s

/-- The request that a row names is the one the loader takes next, and no UNLOAD is in hand. -/
def loaderOp (op : Nat) (part req : Fin 32) (f : LoaderReq → State → State) (s : State) : State :=
  match s.loaderNext with
  | some (p, i, r) => if s.stewardRuns && s.boot.unload.isNone && p = part.val && i = req.val && r.op = op then f r s else s
  | none => s

/-! ### The rows -/

/-- LOADER_SCAN: the Steward finds the next new request, if there is one, and has it in hand. -/
def execLoaderScan (s : State) : Out :=
  .next (if s.stewardRuns then s.wr rstB F.LOADER_STAT_BUSY (b2n (s.loaderNext.isSome || s.boot.unload.isSome)) else s)

/-- LOADER_CHECK. -/
def execLoaderCheck (part req : Fin 32) (s : State) : Out :=
  .next (loaderOp 1 part req (fun r s => s.checkImage part.val r (fun _ s => s)) s)

/-- LOADER_LOAD. -/
def execLoaderLoad (part req : Fin 32) (s : State) : Out :=
  .next (loaderOp 2 part req (fun r s => s.checkImage part.val r (fun img s => s.loadImage part.val r img)) s)

/-- LOADER_START. -/
def execLoaderStart (part req : Fin 32) (s : State) : Out :=
  .next (loaderOp 3 part req (fun r s => s.startImage part.val r) s)

/-- LOADER_UNLOAD: taken in hand for the next boundary; once the queues have drained after it, reported. -/
def execLoaderUnload (part req : Fin 32) (s : State) : Out :=
  .next (
    match s.boot.unload with
    | some (p, i, true) =>
      if s.stewardRuns && p = part.val && i = req.val then (match s.loaderReq p i with | some r => s.unloadEnd r | none => s) else s
    | some _ => s
    | none =>
      loaderOp 4 part req (fun _ s => ({ s with boot.unload := some (part.val, req.val, false) }).wr rstB F.LOADER_STAT_BUSY 1) s)

end Sys2Proof.Machine
end

