-- ==== Sys2Proof/Machine/Pass.lean ====
section
/-! DEFINITION. The points of a Pass (R41, Table 2-1): vote close, commit markers, guard, boundary. A row of this file carries the field counter to the next
point of its kind; the points on the way happen in their order (log 2). -/

namespace Sys2Proof.Machine

/-! ### When the points fall -/

/-- The clk of the Pass at which the guard begins (R41). What it restores hangs on the votes, so it restores nothing before vote close (log 68). -/
def State.guardClk (s : State) : Nat := max (s.passLen - s.rd seqB F.COMMIT_CFG_COMMIT_GUARD) (s.budget + 32)

/-- The kinds of points of a Pass. -/
inductive PointKind where
  | vote
  | markers
  | guard
  | boundary
deriving DecidableEq, Repr

/-- The kind of the point that follows the last one reached: in a short Pass with a long guard the guard begins before the markers leave. -/
def State.nextKind (s : State) : PointKind :=
  match s.passPoint with
  | .window => .vote
  | .voted => if s.guardClk < s.budget + 40 then .guard else .markers
  | .marked => .guard
  | .early => .markers
  | .guard => .boundary

/-- The field count of the point that follows the last one reached. -/
def State.nextTime (s : State) : Nat :=
  let start := s.passIdx * s.passLen
  match s.nextKind with
  | .vote => start + s.budget + 32
  | .markers => start + s.budget + 40
  | .guard => start + s.guardClk
  | .boundary => start + s.passLen

/-! ### Vote close (R44, R46, R442) -/

/-- A running furrow of the core is halted as an overrun, at the instruction it executes (R44). -/
def State.overrun (s : State) (k : CoreId) : State :=
  let c := s.core k
  s.halt k 0x09 4 c.bank c.pc 0

/-- A Bin unit whose command still runs: its furrow is not committed and the posting core halts (R235). -/
def State.binOverrun (s : State) (b : BinId) : State :=
  match (s.bin b).run with
  | none => s
  | some r =>
    let s := s.modBinFurrow b (r.p.bf.getD 0) (fun f => { f with halted := true })
    let s := s.modBin b (fun x => { x with run := none, queue := x.queue.filter (fun q => !(q.poster = r.p.poster && q.serial = r.p.serial)) })
    s.overrun r.p.poster

/-- A Drill command that has not ended: its posting furrow is halted (R364). -/
def State.drillOverrun (s : State) (p : Nat) : State :=
  let x := s.drill p
  let posts := x.queue ++ (x.run.map (·.p)).toList
  posts.foldl (fun s q => (s.modFurrow q.poster q.serial (fun f => { f with halted := true })).overrun q.poster)
    (if posts = [] then s else s.setDrill p { x with queue := [], run := none })

/-- Hops between this module and another: the steps on each axis, the shorter way round where it wraps (R34). -/
def State.hopsOn (s : State) (dev a : Nat) : Nat :=
  let p := s.posOf dev a
  let q := s.posOf s.device a
  let d := max p q - min p q
  if s.rdB routeB F.AXIS_WRAP a then min d (s.rd routeB F.AXIS_LENGTH a - d) else d

/-- Clk of one hop on an axis: 57 in Short mode, 180 in KP mode (Table 2-2). The mode is that of this module's ports on the axis (log 86). -/
def State.hopClk (s : State) (a : Nat) : Nat :=
  if (List.range 12).any (fun n =>
    s.rd (portB n) F.PORT_CFG_MODE = 1 && s.rd (portB n) F.PORT_CFG_AXIS = a && s.rdB (portB n) F.PORT_CFG_FEC) then 180 else 57

/-- The boundary at which a delivery of another module's work of a Pass is planned: the first whose marker deadline its marker meets (R50, Table 2-2). -/
def State.plannedBoundary (s : State) (dev pass : Nat) : Nat :=
  let path := (s.axes.map (fun a => s.hopsOn dev a * s.hopClk a)).foldl (· + ·) 0
  pass + cdiv (s.budget + 40 + path + s.rd seqB F.COMMIT_CFG_COMMIT_GUARD) s.passLen

/-- The Pass that a marker names, of which it carries the low 16 bits (R49). -/
def State.markerPass (s : State) (m : Marker) : Nat := s.passIdx - (s.passIdx + 0x1_0000 - m.pass % 0x1_0000) % 0x1_0000

/-- Furrows of a stream of another module that failed and have not been delivered since. -/
def State.owedOn (s : State) (dev stream : Nat) : Nat :=
  ((s.fab.owedFrom.find? (fun e => e.1 = dev && e.2.1 = stream)).map (·.2.2)).getD 0

/-- A held signal is past the boundary at which its delivery was planned: its maker runs later than planned or failed in its planned Pass, or its marker is late
(R50, R54). -/
def State.heldLate (s : State) (h : Held) : Bool :=
  match h.owner with
  | .furrow k n => (s.furrow? k n).any (·.late)
  | .bin b n => ((s.bin b).furrows.find? (fun f => f.serial = n)).any (fun f => decide (2 ≤ f.runs))
  | .remote dev stream _ batch =>
    decide (s.owedOn dev stream ≠ 0) ||
      decide (s.plannedBoundary dev
        (((s.fab.markersRx.find? (fun m => m.dev = dev && m.stream = stream && m.batch = batch)).map s.markerPass).getD h.pass) ≤ s.passIdx)
  | _ => false

/-- The tokens that a core's furrow waits for: in its TWAIT, and in the heads of its queues. -/
def State.awaited (s : State) (k : CoreId) : List Nat :=
  let x := s.slot k
  let own := match x.core.wait with | .token t _ => [t] | _ => []
  let need := fun q : QEntry => fld q.desc.w1 6 1 = 1 && decide (s.tok k (fld q.desc.w1 0 6) < fld q.desc.w1 8 16)
  let heads := fun l : List QEntry => (l.find? (fun q => fld q.desc.w0 8 1 = 0)).toList ++ (l.find? (fun q => fld q.desc.w0 8 1 = 1)).toList
  own ++ ((heads x.matQ ++ heads x.vecQ ++ heads x.dmQ).filter need).map (fun q => fld q.desc.w1 0 6)

/-- A furrow that stands at vote close waits for a delivery that is held past its planned boundary: it slips by one Pass (R50, R54, R56). -/
def State.awaitsLate (s : State) (k : CoreId) : Bool :=
  (s.slot k).held.any (fun h => (s.awaited k).contains h.tok && s.heldLate h)

/-- A core inside a furrow that has not finished: it overruns, unless a late delivery has displaced the furrow, which then slips (log 120). A pair that a fault has
stopped is not running (R152), and a furrow that a halt has ended is not in hand. -/
def State.coreOverrun (s : State) (k : CoreId) : State :=
  let c := s.core k
  match c.furrows.find? (fun f => !f.ended && !f.halted) with
  | some f =>
    if c.halted || (f.failed && c.wait = Wait.stopped) then s
    else if s.awaitsLate k then
      (s.modFurrow k f.serial (fun f => { f with failed := true, slipped := true })).modCore k (fun c => { c with wait := Wait.stopped })
    else s.overrun k
  | none => s

/-- The vote on a furrow (R46): one that halted or did not finish is not re-executed, one that a check failed is. -/
def voteOf (halted failed ended : Bool) : Vote :=
  if halted then .dropped else if failed then .fail else if ended then .commit else .dropped

/-- The strikes of a slot: one for each furrow that its own checks fail (R442). -/
def State.addStrikes (s : State) (k : CoreId) (n : Nat) : State :=
  if n = 0 then s
  else
    let b := slotB k
    let t := min 15 (s.rd b F.FLT_UNIT_STRIKES + n)
    let s := (s.wr b F.FLT_UNIT_STRIKES t).wr b F.FLT_UNIT_LAST_STRIKE s.passNum
    if s.rd telB F.FLT_CFG_STRIKE_LIMIT ≤ t then s.modSlot k (fun x => { x with standinDue := true }) else s

/-- The point at which a core with failed furrows goes on after their re-executions: where it stands, or after the FEND of the last one where it stands inside
it (R164). -/
def Core.resumePoint (c : Core) : Option Resume :=
  if c.reexec then c.resume
  else if c.furrows.any (fun f => f.vote = .fail && !f.ended) then none
  else some { pc := c.pc, bank := c.bank, wait := c.wait }

/-- The furrows of a core are voted. A core with failed ones stops where it stands; one that waits in PASS goes on waiting until the boundary (R164, log 99). -/
def State.voteCore (s : State) (k : CoreId) : State :=
  let c := s.core k
  if c.furrows = [] then s
  else
    let fs := c.furrows.map (fun f => { f with vote := voteOf f.halted f.failed f.ended })
    let s := s.setCore k { c with furrows := fs }
    let s := s.addStrikes k (fs.filter (fun f => f.vote = .fail && f.strike)).length
    if c.halted || !fs.any (fun f => f.vote = .fail) then s
    else s.modCore k (fun c => { c with resume := c.resumePoint, wait := match c.wait with | .none => Wait.stopped | w => w })

/-- A Bin unit's furrows are voted. -/
def BinUnit.vote (x : BinUnit) : BinUnit :=
  { x with furrows := x.furrows.map (fun f => { f with vote := voteOf f.halted f.failed true }) }

def State.binIds (s : State) : List BinId := s.bins.map (fun e => ⟨Fin.ofNat 32 (e.1 / 8), Fin.ofNat 8 e.1⟩)

/-- What happens at E + 32. -/
def State.closeVote (s : State) : State :=
  let s := s.binIds.foldl State.binOverrun s
  let s := s.drills.foldl (fun s e => s.drillOverrun e.1) s
  let s := s.allSlots.foldl State.coreOverrun s
  let s := s.allSlots.foldl State.voteCore s
  { s with bins := s.bins.map (fun e : Nat × BinUnit => (e.1, e.2.vote)), passPoint := .voted }

/-! ### Commit markers (R49) -/

/-- A sender's furrow has the result COMMIT. -/
def State.committed (s : State) (o : Owner) : Bool :=
  match o with
  | .furrow k n => (s.furrow? k n).any (fun f => f.vote = .commit)
  | _ => false

/-- The marker of a stream: bit i of FAIL is set where its i-th sender failed. -/
def State.markerFor (s : State) (t : StreamTx) : Marker :=
  let fail := t.senders.zipIdx.foldl (fun m e => setBit m e.2 (!s.committed e.1)) 0
  { dev := s.device, stream := t.stream, pass := s.passNum % 0x10000, count := t.senders.length, fail := BitVec.ofNat 40 fail }

/-- What happens at E + 40. -/
def State.markersLeave (s : State) : State :=
  let due := s.fab.streamsTx.filter (fun t => t.senders ≠ [])
  let s := due.foldl (fun s t => s.queueMarker (s.markerFor t)) s
  { s with fab.streamsTx := s.fab.streamsTx.map (fun t => { t with senders := [] }), passPoint := if s.passPoint = .early then .guard else .marked }

/-! ### The guard (R155, R157, R175, R197, R441) -/

/-- What the self-check of a unit finds, by its key: the hardware's own condition (log 41). -/
def State.selfCheck (s : State) (key : Nat) : State :=
  let r := Config.selfCheck s.draws % 4
  let s := { s with draws := s.draws + 1 }
  if key < 1000 then
    let k := coreOf key
    let s := s.wr (slotB k) F.FLT_UNIT_SELFCHECK_FAIL (b2n (r ≠ 0))
    if r = 0 then s else s.modSlot k (fun x => { x with standinDue := true })
  else { s with obs.checked := s.obs.checked ++ [(key, r)] }

/-- What a failed furrow has left in the queues and engines is discarded: its re-execution issues it again. -/
def Slot.dropIssued (x : Slot) (gone : Nat → Bool) : Slot :=
  let q := fun l : List QEntry => l.filter (fun e => !gone e.serial)
  let p := fun l : List Flight => l.filter (fun f => !gone f.q.serial)
  { x with
    matQ := q x.matQ, vecQ := q x.vecQ, dmQ := q x.dmQ, matPipe := p x.matPipe, dmPipe := p x.dmPipe
    vrun := x.vrun.filter (fun r => !gone r.f.q.serial), vtail := x.vtail.filter (fun r => !gone r.f.q.serial) }

/-- Stacks that a furrow has worked on return to their committed tops (R221). -/
def Slot.dropStacks (x : Slot) (gone : Nat → Bool) : Slot :=
  { x with wstacks := x.wstacks.map (fun e : Nat × Stack =>
      (e.1, if e.2.user.any gone then { e.2 with wtop := e.2.ctop, wframes := e.2.cframes } else e.2)) }

/-- Committed state returns to a core whose furrows are not committed; a halted core keeps working values while DEBUG_EN is 1. -/
def Slot.restore (debug : Bool) (x : Slot) : Slot :=
  let fs := x.core.furrows.filter (fun f => f.vote ≠ .commit)
  if fs = [] then x
  else
    let gone := fun n : Nat => fs.any (fun f => f.serial = n)
    let failed := fun n : Nat => fs.any (fun f => f.serial = n && f.vote = .fail)
    let y := ((fs.foldl Slot.undoTok x).dropStacks gone).dropIssued failed
    let keep := fun f : Furrow => debug && x.core.halted && f.halted
    let y := y.dropWork (fs.filter (fun f => !keep f)) (fs.any keep)
    let clear := fun f : Furrow => if f.vote = .commit then f else if keep f then { f with tok := [] } else { f with tok := [], mask := 0 }
    { y with core := { y.core with furrows := y.core.furrows.map clear } }

/-- What happens at PASS_LEN − G. -/
def State.startGuard (s : State) : State :=
  let keys := s.obs.selfCheck
  let s := keys.foldl State.selfCheck { s with obs.selfCheck := [] }
  let s := s.allSlots.foldl (fun s k => s.modSlot k (Slot.restore (s.rdB (slotB k) F.CORE_DBG_DEBUG_EN))) s
  { s with passPoint := if s.passPoint = .voted then .early else .guard }

/-! ### The boundary: pairs that failed their self-check (R446 to R448) -/

/-- A Bin unit is lost: furrows that have not committed do not, and its queue is empty. -/
def State.loseBin (s : State) (b : BinId) (reason : Nat) : State :=
  let pb := plotB b.plot.val
  let s := s.wr pb F.FLT_PLOT_BIN_LOST (setBit (s.rd pb F.FLT_PLOT_BIN_LOST) b.unit.val true)
  let s := s.modBin b (fun x => { x with queue := [], run := none, furrows := x.furrows.map (fun f => if f.vote = .commit then f else { f with vote := .dropped }) })
  s.err 0x07 3 ⟨2, b.plot.val, b.unit.val⟩ {} reason 0xFF

def State.loseDrill (s : State) (p : Nat) : State :=
  ((s.wr (plotB p) F.FLT_PLOT_DRILL_LOST 1).setDrill p {}).err 0x07 3 ⟨3, p, 0⟩ {} 1 0xFF

/-- The result of a pair's self-check takes effect. -/
def State.pairChecked (s : State) (e : Nat × Nat) : State :=
  let r := e.2
  if 3000 ≤ e.1 then s.harrowCheck (e.1 - 3000)
  else if r = 0 then s
  else if 2000 ≤ e.1 then
    let p := e.1 - 2000
    if r = 3 then s.loseDrill p
    else ((s.wr (plotB p) F.FLT_PLOT_DRILL_SINGLE 1).modDrill p (fun x => { x with injCompare := false })).err 0x08 2 ⟨3, p, 0⟩ {} (r - 1) 0
  else
    let b : BinId := ⟨Fin.ofNat 32 ((e.1 - 1000) / 8), Fin.ofNat 8 (e.1 - 1000)⟩
    let pb := plotB b.plot.val
    if r = 3 then s.loseBin b 1
    else
      let s := s.wr pb F.FLT_PLOT_BIN_SINGLE (setBit (s.rd pb F.FLT_PLOT_BIN_SINGLE) b.unit.val true)
      (s.modBin b (fun x => { x with injCompare := false })).err 0x08 2 ⟨2, b.plot.val, b.unit.val⟩ {} (r - 1) 0

def State.pairBoundary (s : State) : State :=
  s.obs.checked.foldl State.pairChecked { s with obs.checked := [] }

/-! ### The boundary: furrows commit or not (R46, R47, R53, R456) -/

/-- What becomes of a slot at the boundary. -/
inductive Fate where
  | stays
  | standin
  | lost (reason : Nat)
deriving DecidableEq, Repr

/-- A furrow of the slot has failed for the third time (R456). -/
def State.thirdFail (s : State) (k : CoreId) : Bool := (s.core k).furrows.any (fun f => f.vote = .fail && !f.slipped && decide (3 ≤ f.runs))

/-- The slot is due to be replaced by the spare (R443). -/
def State.wantsSpare (s : State) (k : CoreId) : Bool :=
  !s.thirdFail k && (s.slot k).standinDue && k.slot.val < 16 && s.rdB telB F.FLT_CFG_STANDIN_EN

/-- A slot is lost when a furrow has failed for the third time, and where a stand-in is due and none is possible (R443, R446, R456). Of two slots of a plot
that are due at one boundary the lower-numbered one takes the spare (log 101). -/
def State.fate (s : State) (k : CoreId) : Fate :=
  let p := k.plot.val
  if s.thirdFail k then .lost 2
  else if !(s.slot k).standinDue then .stays
  else if s.wantsSpare k && s.rd 0 F.PLOT_MAP_STANDIN p = 0x1F && !s.rdB 0 F.PLOT_MAP_SPARE_RETIRED p &&
    !(List.range k.slot.val).any (fun j => s.wantsSpare (coreAt p j)) then .standin
  else .lost 0

/-- The slots that do not stay as they are. -/
def State.fates (s : State) : List (CoreId × Fate) := (s.allSlots.map (fun k => (k, s.fate k))).filter (fun e => e.2 ≠ .stays)

/-- A list of fates has a slot as lost. -/
def losesSlot (fates : List (CoreId × Fate)) (k : CoreId) : Bool := fates.any (fun e => e.1 = k && e.2 ≠ .standin)

/-- Lines that a furrow has tagged become committed (R155). -/
def Slot.commitLines (x : Slot) (f : Furrow) : Slot :=
  let lines := (x.tags.filter (fun e => e.2 = f.serial)).map (·.1)
  let dmem := lines.foldl (fun m l => (List.range 64).foldl (fun (m : SMap Byte) i => m.put 0 (64 * l + i) (x.work.get 0 (64 * l + i))) m) x.dmem
  ({ x with dmem := dmem } : Slot).dropLines f.serial

/-- A stack at the boundary: that of a committed furrow takes its working top, WR_STAT shows the lines then in the ring, and no furrow operates it in the new Pass (R221). -/
def Stack.turn (t : Stack) (done : Nat → Bool) : Stack :=
  let t := if t.user.any done then { t with ctop := t.wtop, cframes := t.wframes } else t
  { t with user := none, shown := t.ctop - t.spilled }

/-- Stacks of committed furrows take their working tops. -/
def Slot.commitStacks (x : Slot) (done : Nat → Bool) : Slot := { x with wstacks := x.wstacks.map (fun e : Nat × Stack => (e.1, e.2.turn done)) }

/-- What an owner has held for delivery may be delivered. -/
def State.ownerReady (s : State) (o : Owner) : State :=
  let h := fun x : Held => if x.owner = o then { x with ready := true } else x
  let c := fun x : HeldClose => if x.owner = o then { x with ready := true } else x
  { s with slots := s.slots.map (fun e : Nat × Slot => (e.1, { e.2 with held := e.2.held.map h, heldClose := e.2.heldClose.map c })) }

/-- What an owner has held is discarded. -/
def State.ownerDiscard (s : State) (o : Owner) : State :=
  { s with slots := s.slots.map (fun e : Nat × Slot =>
      (e.1, { e.2 with held := e.2.held.filter (fun h => h.owner ≠ o), heldClose := e.2.heldClose.filter (fun h => h.owner ≠ o) })) }

/-- A furrow commits: its regions close, its signals and posted transfers go, its posted descriptors may run (R194, R228, R387). -/
def State.commitFurrow (s : State) (k : CoreId) (f : Furrow) : State :=
  let o := Owner.furrow k f.serial
  let s := (s.modSlot k (fun x => x.commitLines f)).closeExtents (fun e => e.owner = o)
  let s := s.ownerReady o
  let rel := fun p : PostedXfer => if p.issuer = k && p.q.serial = f.serial then { p with released := true } else p
  let el := fun p : Posted => if p.poster = k && p.serial = f.serial then { p with eligible := true } else p
  { s with
    host.posted := s.host.posted.map rel
    bins := s.bins.map (fun e : Nat × BinUnit => (e.1, { e.2 with queue := e.2.queue.map el })) }

/-- A furrow that has failed for the third time (R456). -/
def State.dataLost (s : State) (k : CoreId) (e : Furrow × Nat) : State :=
  if e.1.vote = .fail && !e.1.slipped && decide (3 ≤ e.1.runs) then s.err 0x16 3 (locSlot k) { furrow := e.1.id, check := e.1.check } e.2 e.1.check else s

/-- The furrows of a core are settled: commits take effect, failed ones are owed unless the core has halted or its slot is lost, the rest are dropped. -/
def State.settleCore (fates : List (CoreId × Fate)) (s : State) (k : CoreId) : State :=
  let c := s.core k
  let lost := losesSlot fates k
  let fs := c.furrows
  let done := fs.filter (fun f => f.vote = .commit)
  let fails := fs.filter (fun f => f.vote = .fail)
  let s := fs.zipIdx.foldl (fun s e => s.dataLost k e) s
  let s := s.modSlot k (fun x => x.commitStacks (fun n => done.any (fun f => f.serial = n)))
  let s := done.foldl (fun s f => s.commitFurrow k f) s
  let s := (fs.filter (fun f => f.vote ≠ .commit && f.vote ≠ .fail)).foldl (fun s f => s.dropFurrow k f.serial) s
  let s := if lost then (fails ++ c.owed).foldl (fun s f => s.dropFurrow k f.serial) s
    else if c.halted then s.reexecHalted k fails
    else s.modCore k (fun c => { c with owed := fails ++ c.owed })
  let debug := s.rdB (slotB k) F.CORE_DBG_DEBUG_EN
  let kept := if c.halted || c.stepping then fs.filter (fun f => f.halted && (debug || !f.ended)) else []
  s.modCore k (fun c => { c with furrows := [], kept := c.kept ++ kept })

/-! ### The boundary: Bin furrows (R228, R232, R456) -/

/-- Extents of a dropped Bin furrow: journaled lines hold their committed values again and close as such, the others close uncommitted. -/
def State.closeBinExtents (s : State) (o : Owner) (plot : Nat) (lines : List Nat) : State :=
  let mine := s.mx.extents.filter (fun e => e.owner = o)
  let split := mine.flatMap (fun e =>
    ((unitsOf 64 e.lo e.len).filter (fun l => !lines.contains (l - plot * 0x20_0000))).map (fun l =>
      ({ owner := o, lo := max e.lo (64 * l), len := min (e.lo + e.len) (64 * l + 64) - max e.lo (64 * l), closing := true } : Extent)))
  let s := s.closeExtents (fun e => e.owner = o)
  { s with mx.extents := s.mx.extents ++ split }

/-- A Bin furrow is settled. -/
def State.settleBin (s : State) (b : BinId) (f : BinFurrow) : State :=
  let o := Owner.bin b f.serial
  let mine := fun q : Posted => q.bf = some f.serial
  match f.vote with
  | .commit =>
    ((s.modBin b (fun x => { x with
        queue := x.queue.filter (fun q => !(q.taken && mine q)), furrows := x.furrows.filter (fun g => g.serial ≠ f.serial) })).closeExtents
      (fun e => e.owner = o)).ownerReady o
  | .fail =>
    let s := (s.replay b f).ownerDiscard o
    let s := s.modBinFurrow b f.serial (fun g => { g with vote := .undecided, failed := false, strike := false, runs := g.runs + 1 })
    let s := s.modBin b (fun x => { x with queue := x.queue.map (fun q => if mine q then { q with taken := false } else q) })
    s.satAdd seqB F.COMMIT_COUNT_REEXECUTED 1
  | _ =>
    let s := (s.replay b f).ownerDiscard o
    let s := s.modBin b (fun x => { x with furrows := x.furrows.filter (fun g => g.serial ≠ f.serial), queue := x.queue.filter (fun q => !mine q) })
    s.closeBinExtents o b.plot.val (f.journal.map (·.1))

/-- A re-execution has run on the unit: the eligible descriptors that the Pass did not reach have slipped, and the furrows that they make are counted once (R54). -/
def State.binSlips (s : State) (b : BinId) : State :=
  let slips := fun q : Posted => nextPosted q && !q.slipped && s.binGate b.plot.val q.desc = .ready
  let q := (s.bin b).queue
  let n := ((q.filter slips).map (fun q => (q.poster, q.serial))).eraseDups.length
  (s.modBin b (fun x => { x with queue := q.map (fun q => if slips q then { q with slipped := true } else q) })).satAdd seqB F.COMMIT_COUNT_SLIPPED n

/-- A Bin unit's furrows: one that fails for the third time takes the unit with it. -/
def State.settleBinUnit (s : State) (b : BinId) : State :=
  let fs := (s.bin b).furrows
  let third := fs.filter (fun f => f.vote = .fail && decide (3 ≤ f.runs))
  let s := third.foldl (fun s f => s.err 0x16 3 ⟨2, b.plot.val, b.unit.val⟩ { furrow := f.id, check := f.check } 0 f.check) s
  let ends := fun f : BinFurrow => if third ≠ [] && f.vote = .fail then { f with vote := .dropped } else f
  let s := if fs.any (fun f => 2 ≤ f.runs) then s.binSlips b else s
  let s := (fs.map ends).foldl (fun s f => s.settleBin b f) s
  if third = [] then s else s.loseBin b 2

/-- Posted work whose furrow has not committed is discarded (R228, R387). -/
def State.dropPosts (s : State) : State :=
  { s with
    bins := s.bins.map (fun e : Nat × BinUnit => (e.1, { e.2 with queue := e.2.queue.filter (·.eligible) }))
    host.posted := s.host.posted.filter (·.released) }

/-! ### The boundary: markers (R49, R50) -/

/-- A committed sender of another module: its regions close, and with them those of an earlier run over the same bytes. -/
def State.remoteCommit (s : State) (m : Marker) (i : Nat) : State :=
  let o := Owner.remote m.dev m.stream i m.batch
  let mine := s.mx.extents.filter (fun e => e.owner = o)
  let older := fun e : Extent =>
    match e.owner with
    | .remote d t _ b => d = m.dev && t = m.stream && decide (b < m.batch) && mine.any (fun q => overlap q.lo q.len e.lo e.len)
    | _ => false
  (s.closeExtents (fun e => e.owner = o || older e)).ownerReady o

/-- Deliveries of a marker that are made later than planned: all of a marker whose planned boundary has gone by, else as many as this stream owes for furrows that
have failed (R50, R64, log 86). -/
def State.deliveryCount (s : State) (m : Marker) : State :=
  let good := ((List.range m.count).filter (fun i => !m.fail.getLsbD i)).length
  let owed := s.owedOn m.dev m.stream
  let paid := min owed good
  let held := if s.plannedBoundary m.dev (s.markerPass m) < s.passIdx then good else paid
  let rest := s.fab.owedFrom.filter (fun e => !(e.1 = m.dev && e.2.1 = m.stream))
  let left := owed - paid + (m.count - good)
  { s.satAdd seqB F.HOLD_COUNT_HELD_DELIVERIES held with fab.owedFrom := if left = 0 then rest else rest ++ [(m.dev, m.stream, left)] }

/-- A marker is delivered: what a failed sender held here is discarded and its regions stay open. -/
def State.markerDelivered (s : State) (m : Marker) : State :=
  (List.range m.count).foldl (fun s i =>
    if m.fail.getLsbD i then s.ownerDiscard (.remote m.dev m.stream i m.batch) else s.remoteCommit m i) (s.deliveryCount m)

/-- Markers that arrived by the deadline are delivered; the others wait for the next boundary. -/
def State.markerBoundary (s : State) (deadline : Nat) : State :=
  let now := s.fab.markersRx.filter (fun m => m.arrived ≤ deadline)
  let late := s.fab.markersRx.filter (fun m => decide (deadline < m.arrived))
  now.foldl State.markerDelivered { s with fab.markersRx := late }

/-! ### The boundary: extents that close uncommitted (R44, R57) -/

/-- Reads held on extents that close uncommitted will be answered NOT_COMMITTED. -/
def State.denyReads (s : State) (gone : List Extent) : State :=
  let hit := fun r : Nat × Nat => gone.any (fun e => overlap e.lo e.len r.1 r.2)
  let f := fun x : Flight => if x.heldOn.any hit then { x with denied := true } else x
  let u := fun x : UnitRun => if x.heldOn.any hit then { x with denied := true } else x
  let slot := fun x : Slot => { x with
    matPipe := x.matPipe.map f, dmPipe := x.dmPipe.map f, vrun := x.vrun.map (fun r => { r with f := f r.f }) }
  let glean := fun (p : Nat) (g : GleanSt) => { g with req := g.req.map (fun q =>
    if q.held.contains (q.start + q.next) && hit (lineAddr p (q.start + q.next), 64) then { q with denied := true } else q) }
  let qp := fun x : Qp => { x with entries := x.entries.map (fun e => if e.heldOn.any hit then { e with denied := true } else e) }
  { s with
    slots := s.slots.map (fun e : Nat × Slot => (e.1, slot e.2))
    bins := s.bins.map (fun e : Nat × BinUnit => (e.1, { e.2 with run := e.2.run.map u }))
    drills := s.drills.map (fun e : Nat × DrillUnit => (e.1, { e.2 with run := e.2.run.map u }))
    mx.glean := s.mx.glean.map (fun e : Nat × GleanSt => (e.1, glean e.1 e.2))
    hay := (match s.hay.heldRec with
      | some r => if hit r then { s.hay with verifying := some (List.replicate r.2 0), heldRec := none } else s.hay
      | none => s.hay)
    boot := { s.boot with imgRead := s.boot.imgRead.map (fun r => (r.1, r.2.1, r.2.2 || hit (r.1, r.2.1))) }
    host.qps := s.host.qps.map (fun e : Nat × Qp => (e.1, qp e.2))
    host.posted := s.host.posted.map (fun x => if x.heldOn.any hit then { x with denied := true } else x)
    coll.chans := s.coll.chans.map (fun e : Nat × Chan =>
      (e.1, { e.2 with ops := e.2.ops.map (fun o => if o.heldOn.any hit then { o with denied := true } else o) })) }

/-- A furrow of this module that has ended without commit and is not owed: what its last commands have written closes uncommitted too (R174). -/
def State.dead (s : State) (o : Owner) : Bool :=
  match o with
  | .furrow k n => !((s.core k).furrows ++ (s.core k).owed).any (fun f => f.serial = n)
  | _ => false

/-- Host extents whose write is complete close (R385); extents of furrows that are over without commit close uncommitted. -/
def State.extentBoundary (s : State) : State :=
  let s := { s with mx.extents := s.mx.extents.map (fun e : Extent => if s.dead e.owner then { e with closing := true } else e) }
  let gone := s.mx.extents.filter (·.closing)
  let s := { s with mx.hostExtents := s.mx.hostExtents.filter (fun e => !e.closing) }
  let s := if gone = [] then s else s.denyReads gone
  s.closeExtents (·.closing)

/-- An access that was held is served, unless an extent still holds it. -/
def State.retryHeld (gone : List Extent) (s : State) (h : HeldAccess) : State :=
  let denied := !h.write && gone.any (fun e => overlap e.lo e.len h.lo h.len)
  if !denied && !h.write && s.blocked none h.lo h.len then { s with mx.heldAccess := s.mx.heldAccess ++ [h] } else s.serveHeld h denied

/-! ### The boundary: held signals, epochs, close markers (R193, R194, R199, R200) -/

def Owner.away (o : Owner) : Bool :=
  match o with
  | .remote _ _ _ _ => true
  | _ => false

/-- Held signals whose maker has committed are applied; those of a furrow of this module that has not are discarded. An overflow by the cluster's own engine halts at its
command (R171), one from elsewhere at the next instruction, with the sender in the record (R193, R497). -/
def State.applyHeld (s : State) (k : CoreId) : State :=
  let held := (s.slot k).held
  let s := s.modSlot k (fun x => { x with held := held.filter (fun h => !h.ready && h.owner.away) })
  (held.filter (·.ready)).foldl (fun s h =>
    s.addTok k h.tok h.count (fun s =>
      match h.own with
      | some (source, q) => s.haltCmd k 0x07 source q
      | none => let c := s.core k; s.halt k 0x07 3 c.bank c.pc 0 {} (some h.sender))) s

/-- The epoch advances. -/
def Slot.epochTurn (x : Slot) : Slot :=
  match x.advance with
  | some n => if n = x.cur then { x with advance := none } else { x with prev := x.cur, cur := n, prevOpen := true, advance := none }
  | none => x

/-- Close markers act. -/
def State.applyCloses (s : State) (k : CoreId) : State :=
  let hs := (s.slot k).heldClose
  let s := s.modSlot k (fun x => { x with heldClose := hs.filter (fun h => !h.ready && h.owner.away) })
  (hs.filter (·.ready)).foldl (fun s h =>
    if (s.slot k).prev = h.close then s.modSlot k (fun x => { x with prevOpen := false }) else s.stalePkt k) s

def State.signalBoundary (s : State) : State :=
  let s := s.allSlots.foldl State.applyHeld s
  let s := { s with slots := s.slots.map (fun e : Nat × Slot => (e.1, e.2.epochTurn)) }
  s.allSlots.foldl State.applyCloses s

/-! ### The boundary: stand-ins and losses (R22, R443 to R446) -/

/-- The work that carries a slot's name follows it to the spare. -/
def Owner.moved (k d : CoreId) (o : Owner) : Owner :=
  match o with
  | .furrow q n => .furrow (if q = k then d else q) n
  | _ => o

def State.rename (s : State) (k d : CoreId) : State :=
  let at' := fun q : CoreId => if q = k then d else q
  let ext := fun e : Extent => { e with owner := e.owner.moved k d }
  let post := fun p : Posted => { p with poster := at' p.poster }
  let run := fun r : UnitRun => { r with p := post r.p }
  let slot := fun x : Slot => { x with
    held := x.held.map (fun h => { h with owner := h.owner.moved k d }), heldClose := x.heldClose.map (fun h => { h with owner := h.owner.moved k d }) }
  let bin := fun x : BinUnit => { x with
    queue := x.queue.map post, run := x.run.map run, furrows := x.furrows.map (fun f => { f with poster := at' f.poster }) }
  let chan := fun x : Chan => { x with ops := x.ops.map (fun o => { o with issuer := at' o.issuer }) }
  { s with
    mx.extents := s.mx.extents.map ext
    slots := s.slots.map (fun e : Nat × Slot => (e.1, slot e.2))
    bins := s.bins.map (fun e : Nat × BinUnit => (e.1, bin e.2))
    drills := s.drills.map (fun e : Nat × DrillUnit => (e.1, { e.2 with queue := e.2.queue.map post, run := e.2.run.map run }))
    host.posted := s.host.posted.map (fun p => { p with issuer := at' p.issuer })
    coll.chans := s.coll.chans.map (fun e : Nat × Chan => (e.1, chan e.2)) }

/-- The stored fields of a cluster block move to the spare's (R443). SR_SEED, whose reset value is a fuse of the slot, is copied as a value. -/
def State.copyBlock (s : State) (k d : CoreId) : State :=
  let a := slotB k * 64
  let n := 0x100000 * 64
  let seed := s.rd (slotB k) F.SR_SEED_SEED
  let mine := s.csr.keep (fun q => decide (a ≤ q) && decide (q < a + n))
  let s := (s.clearCsr (slotB k) (slotB k + 0x100000)).clearCsr (slotB d) (slotB d + 0x100000)
  let s := { s with csr := mine.foldl (fun (m : SMap Nat) (e : Nat × Nat) => m.insert (e.1 - a + slotB d * 64) e.2) s.csr }
  (s.wr (slotB d) F.SR_SEED_SEED seed).wr (slotB d) F.FLT_UNIT_STRIKES 0

/-- A slot out of service: halted, isolated, empty (R444). -/
def retiredSlotState : Slot := { clusterDom := .held }

/-- S16 takes over the committed state of a slot (R443): not its queues, its commands in hand, its tiles and vector registers. -/
def State.standIn (s : State) (k : CoreId) : State :=
  let d := coreAt k.plot.val 16
  let p := k.plot.val
  let l := k.slot.val
  let detail := s.rd (slotB k) F.FLT_UNIT_SELFCHECK_FAIL + 16 * s.rd (slotB k) F.FLT_UNIT_STRIKES
  let s := s.branchFlush k
  let s := (s.copyBlock k d).rename k d
  let x := (s.slot k).dropKept
  let y := s.slot d
  let spare : Slot := { x with
    core := { x.core with injLockstep := false, injMem := false }
    matQ := [], vecQ := [], dmQ := [], matPipe := [], dmPipe := [], vrun := none, vtail := []
    matSeq := y.matSeq, vecSeq := y.vecSeq, dmSeq := y.dmSeq, tiles := y.tiles, vregs := y.vregs, mregs := y.mregs, genDraws := 0
    injResidue := false, injMatCompare := false, injMatParity := false, injVecCompare := false, injVecParity := false
    clusterDom := y.clusterDom, coreDom := y.coreDom, standinDue := false }
  let s := (s.setSlot d spare).setSlot k retiredSlotState
  let s := (s.wr 0 F.PLOT_MAP_STANDIN l p).wr 0 F.PLOT_MAP_RETIRED (setBit (s.rd 0 F.PLOT_MAP_RETIRED p) l true) p
  s.err 0x06 2 (locSlot k) {} l detail

/-- A cluster slot is lost (R445, R446). -/
def State.loseSlot (s : State) (k : CoreId) (reason : Nat) : State :=
  let p := k.plot.val
  let l := if k.slot.val < 16 then k.slot.val else s.rd 0 F.PLOT_MAP_STANDIN p
  let s := s.branchFlush k
  let s := (s.clearCsr (slotB k) (slotB k + 0x100000)).setSlot k retiredSlotState
  let s := if k.slot.val < 16 then s.wr 0 F.PLOT_MAP_RETIRED (setBit (s.rd 0 F.PLOT_MAP_RETIRED p) l true) p
    else s.wr 0 F.PLOT_MAP_SPARE_RETIRED 1 p
  s.err 0x07 3 (locSlot k) {} reason l

def State.meetFate (s : State) (e : CoreId × Fate) : State :=
  match e.2 with
  | .stays => s
  | .standin => s.standIn e.1
  | .lost r => s.loseSlot e.1 r

/-! ### The boundary: upkeep -/

/-- STRIKES returns to zero after STRIKE_WINDOW Passes without a strike (R442). -/
def State.strikeWindow (s : State) (k : CoreId) : State :=
  let b := slotB k
  if s.rd b F.FLT_UNIT_STRIKES ≠ 0 &&
    decide (s.rd telB F.FLT_CFG_STRIKE_WINDOW ≤ (s.passNum + 2 ^ 48 - s.rd b F.FLT_UNIT_LAST_STRIKE) % 2 ^ 48) then s.wr b F.FLT_UNIT_STRIKES 0
  else s

/-- CMP_WIDX: up to the first slot held for a re-execution that has not committed (R202). -/
def State.ringIndex (s : State) (k : CoreId) : State :=
  let x := s.slot k
  let heldSlots := x.core.owed.flatMap (fun f => f.ring ++ f.ringHeld)
  let n := heldSlots.foldl min x.ringTaken
  if s.rd (slotB k) F.CMP_WIDX_WIDX = n % 2 ^ 32 then s else s.wr (slotB k) F.CMP_WIDX_WIDX n

/-- A domain that is clear and waits for its release (R418). -/
def Dom.released (d : Dom) : Dom := if d = .cleared then .run else d

def State.releaseDomains (s : State) : State :=
  { s with
    slots := s.slots.map (fun e : Nat × Slot => (e.1, { e.2 with clusterDom := e.2.clusterDom.released, coreDom := e.2.coreDom.released }))
    boot.plotDoms := s.boot.plotDoms.filter (fun e => e.2 ≠ .cleared), boot.stewardDom := s.boot.stewardDom.released }

/-- Members of teams that are not UP at the boundary (R318). -/
def State.lostMembers (s : State) : List Nat :=
  (List.range 12).filter (fun n => s.rd (portB n) F.PORT_CFG_MODE = 1 && decide (s.pst n ≠ pUP))

/-- Each plot's Glean takes its pace for the Pass (R216). -/
def State.gleanPace (s : State) (p : Nat) : State :=
  let n := s.rd (plotB p) F.GLEAN_CFG_LINES_PER_PASS
  if (s.glean p).pace = n then s else s.modGlean p (fun g => { g with pace := n })

/-- The watchdog counts Passes; a Steward domain in reset holds its count at zero (R409, R413). -/
def State.wdogNext (s : State) : Nat := if s.boot.stewardDom = .run then s.boot.wdogCount + 1 else 0

/-- What the module's own parts do at a boundary, in no order that shows. -/
def State.upkeep (s : State) : State :=
  let s := (s.barnBoundary).seqBoundary
  let s := (s.railBoundary.passFlags).congBoundary
  let s := (List.range 12).foldl State.laneBoundary s
  let s := { s with fab.lost := s.lostMembers, boot.wdogCount := s.wdogNext }
  let s := (List.range 32).foldl State.gleanPace s
  let s := s.allSlots.foldl State.strikeWindow s
  let s := s.allSlots.foldl State.ringIndex s
  let s := s.host.qps.foldl (fun s e => s.notify e.1) s
  s.releaseDomains.fillBoundary

/-! ### The boundary: bank switches and launches (R163, R164, R168, R170, R496) -/

/-- The banks exchange roles. A core in PASS goes on at the entry offset, one that owes re-executions goes there after them, a running one at its next PASS. -/
def Slot.switchBanks (x : Slot) (entry : Nat) : Slot :=
  let y := { x with active := !x.active, switch := none, switchPass := 0 }
  let c := x.core
  if c.halted then y
  else if c.owed ≠ [] then { y with core := { c with resume := some { pc := entry, bank := y.active } } }
  else
    match c.wait with
    | .pass _ _ => { y with core := { c with pc := entry, bank := y.active, wait := Wait.none, planned := none } }
    | _ => { y with oldBank := some entry }

def State.switchDue (s : State) (k : CoreId) : State :=
  let x := s.slot k
  let inPass := match x.core.wait with | .pass _ _ => true | _ => false
  match x.switch with
  | some e =>
    if x.switchPass ≤ s.passIdx && !x.draining then
      let s := s.setSlot k (x.switchBanks e)
      if inPass && x.core.owed.isEmpty then s.stepDone k else s
    else s
  | none => s

/-- A PASS is released at the first boundary that is neither before its target nor that of the Pass in which the core last worked (R163). -/
def State.passRelease (s : State) (k : CoreId) (target : Nat) : State :=
  if passAhead target s.passNum || (s.core k).lastPass.any (fun l => decide (s.passIdx ≤ l)) then s
  else (s.modCore k (fun c => { c with lastPass := some s.passIdx, planned := some target })).retire k

/-- A core at the boundary: its bank switch, then its re-executions, or the end of its wait. -/
def State.launch (s : State) (k : CoreId) : State :=
  if !s.coreLive k then s
  else
    let s := s.switchDue k
    let c := s.core k
    if c.halted then s
    else if c.owed ≠ [] then s.launchOwed k
    else
      match c.wait with
      | .pass m _ => s.passRelease k m
      | .fbegin id => s.beginFurrow k id
      | .stopped => s.modCore k (fun c => { c with wait := Wait.none })
      | _ => s

/-! ### The boundary (R41) -/

/-- B(n): the commit of the Pass before takes effect, then what was held, then stand-ins, upkeep and change records, then the launches of the new Pass. -/
def State.boundary (s : State) : State :=
  let deadline := s.fieldCount - s.rd seqB F.COMMIT_CFG_COMMIT_GUARD
  let s := s.pairBoundary
  let fates := s.fates
  let s := s.allSlots.foldl (State.settleCore fates) s
  let s := s.binIds.foldl State.settleBinUnit s
  let s := s.dropPosts
  let s := s.markerBoundary deadline
  let s := s.collBoundary deadline
  let gone := s.mx.extents.filter (fun e => e.closing || s.dead e.owner)
  let s := s.extentBoundary.collStarts
  let s := s.signalBoundary
  let s := fates.foldl State.meetFate s
  let s := s.upkeep
  let waiting := s.mx.heldAccess
  let s := waiting.foldl (State.retryHeld gone) { s with mx.heldAccess := [] }
  let s := ((s.applyDue).unloadBoundary).dbgBoundary
  let s := s.traceBoundary
  (s.allSlots.foldl State.launch s).snapBoundary

/-- The first boundary after the time state has reached LOCKED or ROOT (R63); start-up is complete (R392), and the watchdog starts (R413). -/
def State.firstBoundary (s : State) : State :=
  let s := { s with firstPass := true }
  let s := if s.bootState = 5 then (s.setBoot 6).wr rstB F.BOOT_TIME_STAMP s.stamp else s
  { s.boundary with boot.wdogCount := 0 }

/-! ### The rows -/

/-- The next point, at its clk. -/
def State.nextPoint (s : State) : State :=
  let s' := s.runTo s.nextTime
  match s.nextKind with
  | .vote => s'.closeVote
  | .markers => s'.markersLeave
  | .guard => s'.startGuard
  | .boundary => { s'.boundary with passPoint := .window }

/-- The points up to the next one of a kind; four points make a Pass. -/
def State.toPoint (p : PointKind) : Nat → State → State
  | 0, s => s
  | n + 1, s => if s.nextKind = p then s.nextPoint else State.toPoint p n s.nextPoint

/-- A row of this file: before the first Pass no Pass has points. -/
def State.pointRow (s : State) (p : PointKind) : State := if s.firstPass then s.toPoint p 4 else s

/-- PASS_BOUNDARY. The first one falls at the first multiple of PASS_LEN once the module is timed. -/
def execPassBoundary (s : State) : Out :=
  .next (
    if s.firstPass then s.toPoint .boundary 4
    else if s.timed then (s.runTo ((s.fieldCount + s.passLen - 1) / s.passLen * s.passLen)).firstBoundary
    else s)

def execVoteClose (s : State) : Out := .next (s.pointRow .vote)
def execCommitMarkerSend (s : State) : Out := .next (s.pointRow .markers)
def execGuardStart (s : State) : Out := .next (s.pointRow .guard)

/-- One point, if the clk that passes next reaches it. -/
def State.pointBy (t : Nat) (s : State) : State := if s.nextTime ≤ t then s.nextPoint else s

/-- `n` bytes of an instruction bank as a number. -/
def Slot.imWord (x : Slot) (b : Bool) (off n : Nat) : Nat := ofBytes ((List.range n).map (fun i => (x.im b).get 0 (off + i)))

/-- A fetch that finds an unassigned opcode is code 0x01, for the core at its program counter (R160) and for a microprogram at its next instruction
(R133). An assigned word is a command of its own (log 126). -/
def State.fetchIllegal (s : State) (k : CoreId) : State :=
  let x := s.slot k
  let c := s.core k
  let s := if s.issuing k && !s.breakpoint k && (decodeCore (x.imWord c.bank c.pc 4) k).isNone then s.fetched k (fun s => s.haltCore k 0x01) else s
  match (s.slot k).vrun with
  | some r => if r.started && (decodeVec (x.imWord r.bank r.pc 8) k).isNone then s.vecHalt k r 0x01 else s
  | none => s

/-- One reference clk passes, with the points of the Pass that fall on it (log 2). -/
def State.tick (s : State) : State :=
  let t := s.fieldCount + 1
  if s.firstPass then (Nat.repeat (State.pointBy t) 4 (s.allSlots.foldl State.fetchIllegal s)).runTo t
  else
    let s := s.elapse 1
    if s.timed && s.phase = 0 then s.firstBoundary else s

end Sys2Proof.Machine
end

