-- ==== Sys2Proof/Machine/Dispatch.lean ====
section
/-! DEFINITION. The meaning of every command: one arm per constructor, each a direct call of that command's own meaning. -/

namespace Sys2Proof.Machine

/-- What a command does to everything but the queue. -/
def exec (i : Instr) (s : State) : Host.Outcome State Fault Refusal :=
  match i with
  | .passBoundary => Sys2Proof.Machine.execPassBoundary s
  | .voteClose => Sys2Proof.Machine.execVoteClose s
  | .commitMarkerSend => Sys2Proof.Machine.execCommitMarkerSend s
  | .guardStart => Sys2Proof.Machine.execGuardStart s
  | .add k f => Sys2Proof.Machine.execAdd k f s
  | .sub k f => Sys2Proof.Machine.execSub k f s
  | .andR k f => Sys2Proof.Machine.execAndR k f s
  | .orR k f => Sys2Proof.Machine.execOrR k f s
  | .xorR k f => Sys2Proof.Machine.execXorR k f s
  | .sll k f => Sys2Proof.Machine.execSll k f s
  | .srl k f => Sys2Proof.Machine.execSrl k f s
  | .sra k f => Sys2Proof.Machine.execSra k f s
  | .mul k f => Sys2Proof.Machine.execMul k f s
  | .mulhu k f => Sys2Proof.Machine.execMulhu k f s
  | .slt k f => Sys2Proof.Machine.execSlt k f s
  | .sltu k f => Sys2Proof.Machine.execSltu k f s
  | .minS k f => Sys2Proof.Machine.execMinS k f s
  | .maxS k f => Sys2Proof.Machine.execMaxS k f s
  | .addi k f => Sys2Proof.Machine.execAddi k f s
  | .andi k f => Sys2Proof.Machine.execAndi k f s
  | .ori k f => Sys2Proof.Machine.execOri k f s
  | .xori k f => Sys2Proof.Machine.execXori k f s
  | .slli k f => Sys2Proof.Machine.execSlli k f s
  | .srli k f => Sys2Proof.Machine.execSrli k f s
  | .srai k f => Sys2Proof.Machine.execSrai k f s
  | .slti k f => Sys2Proof.Machine.execSlti k f s
  | .lui k f => Sys2Proof.Machine.execLui k f s
  | .ld k f => Sys2Proof.Machine.execLd k f s
  | .lw k f => Sys2Proof.Machine.execLw k f s
  | .st k f => Sys2Proof.Machine.execSt k f s
  | .sw k f => Sys2Proof.Machine.execSw k f s
  | .beq k f => Sys2Proof.Machine.execBeq k f s
  | .bne k f => Sys2Proof.Machine.execBne k f s
  | .blt k f => Sys2Proof.Machine.execBlt k f s
  | .bge k f => Sys2Proof.Machine.execBge k f s
  | .bltu k f => Sys2Proof.Machine.execBltu k f s
  | .bgeu k f => Sys2Proof.Machine.execBgeu k f s
  | .dbnz k f => Sys2Proof.Machine.execDbnz k f s
  | .jal k f => Sys2Proof.Machine.execJal k f s
  | .jalr k f => Sys2Proof.Machine.execJalr k f s
  | .issue k f => Sys2Proof.Machine.execIssue k f s
  | .issueQueueFree k => Sys2Proof.Machine.execIssueQueueFree k s
  | .twait k f => Sys2Proof.Machine.execTwait k f s
  | .twaitSatisfied k => Sys2Proof.Machine.execTwaitSatisfied k s
  | .tsig k f => Sys2Proof.Machine.execTsig k f s
  | .fbegin k f => Sys2Proof.Machine.execFbegin k f s
  | .fend k f => Sys2Proof.Machine.execFend k f s
  | .fendRetire k => Sys2Proof.Machine.execFendRetire k s
  | .pass k f => Sys2Proof.Machine.execPass k f s
  | .rdpass k f => Sys2Proof.Machine.execRdpass k f s
  | .rdfc k f => Sys2Proof.Machine.execRdfc k f s
  | .sim k f => Sys2Proof.Machine.execSim k f s
  | .imsw k f => Sys2Proof.Machine.execImsw k f s
  | .csrr k f => Sys2Proof.Machine.execCsrr k f s
  | .csrw k f => Sys2Proof.Machine.execCsrw k f s
  | .nop k f => Sys2Proof.Machine.execNop k f s
  | .halt k f => Sys2Proof.Machine.execHalt k f s
  | .brk k f => Sys2Proof.Machine.execBrk k f s
  | .engineDequeue k e => Sys2Proof.Machine.execEngineDequeue k e s
  | .mmul k => Sys2Proof.Machine.execMmul k s
  | .mout k => Sys2Proof.Machine.execMout k s
  | .tsave k => Sys2Proof.Machine.execTsave k s
  | .tload k => Sys2Proof.Machine.execTload k s
  | .tzero k => Sys2Proof.Machine.execTzero k s
  | .matrixComplete k => Sys2Proof.Machine.execMatrixComplete k s
  | .vexec k => Sys2Proof.Machine.execVexec k s
  | .vexecComplete k => Sys2Proof.Machine.execVexecComplete k s
  | .vld k f => Sys2Proof.Machine.execVld k f s
  | .vst k f => Sys2Proof.Machine.execVst k f s
  | .vldb k f => Sys2Proof.Machine.execVldb k f s
  | .vldq k f => Sys2Proof.Machine.execVldq k f s
  | .vstq k f => Sys2Proof.Machine.execVstq k f s
  | .vldm k f => Sys2Proof.Machine.execVldm k f s
  | .vstm k f => Sys2Proof.Machine.execVstm k f s
  | .vstw k f => Sys2Proof.Machine.execVstw k f s
  | .vldr k f => Sys2Proof.Machine.execVldr k f s
  | .vadd k f => Sys2Proof.Machine.execVadd k f s
  | .vsub k f => Sys2Proof.Machine.execVsub k f s
  | .vmul k f => Sys2Proof.Machine.execVmul k f s
  | .vfma k f => Sys2Proof.Machine.execVfma k f s
  | .vfms k f => Sys2Proof.Machine.execVfms k f s
  | .vfnma k f => Sys2Proof.Machine.execVfnma k f s
  | .vdiv k f => Sys2Proof.Machine.execVdiv k f s
  | .vsqrt k f => Sys2Proof.Machine.execVsqrt k f s
  | .vmin k f => Sys2Proof.Machine.execVmin k f s
  | .vmax k f => Sys2Proof.Machine.execVmax k f s
  | .vabs k f => Sys2Proof.Machine.execVabs k f s
  | .vneg k f => Sys2Proof.Machine.execVneg k f s
  | .vmov k f => Sys2Proof.Machine.execVmov k f s
  | .vspli k f => Sys2Proof.Machine.execVspli k f s
  | .viota k f => Sys2Proof.Machine.execViota k f s
  | .vcvt k f => Sys2Proof.Machine.execVcvt k f s
  | .vrcp k f => Sys2Proof.Machine.execVrcp k f s
  | .vrsq k f => Sys2Proof.Machine.execVrsq k f s
  | .vexp2 k f => Sys2Proof.Machine.execVexp2 k f s
  | .vlog2 k f => Sys2Proof.Machine.execVlog2 k f s
  | .vexp k f => Sys2Proof.Machine.execVexp k f s
  | .vtanh k f => Sys2Proof.Machine.execVtanh k f s
  | .verf k f => Sys2Proof.Machine.execVerf k f s
  | .vand k f => Sys2Proof.Machine.execVand k f s
  | .vor k f => Sys2Proof.Machine.execVor k f s
  | .vxor k f => Sys2Proof.Machine.execVxor k f s
  | .vshl k f => Sys2Proof.Machine.execVshl k f s
  | .vshr k f => Sys2Proof.Machine.execVshr k f s
  | .vcmp k f => Sys2Proof.Machine.execVcmp k f s
  | .mand k f => Sys2Proof.Machine.execMand k f s
  | .mor k f => Sys2Proof.Machine.execMor k f s
  | .mxor k f => Sys2Proof.Machine.execMxor k f s
  | .mnot k f => Sys2Proof.Machine.execMnot k f s
  | .mfirst k f => Sys2Proof.Machine.execMfirst k f s
  | .mcnt k f => Sys2Proof.Machine.execMcnt k f s
  | .vwin k f => Sys2Proof.Machine.execVwin k f s
  | .vres k f => Sys2Proof.Machine.execVres k f s
  | .vrsum k f => Sys2Proof.Machine.execVrsum k f s
  | .vrmax k f => Sys2Proof.Machine.execVrmax k f s
  | .vrmin k f => Sys2Proof.Machine.execVrmin k f s
  | .vbcl k f => Sys2Proof.Machine.execVbcl k f s
  | .vend k f => Sys2Proof.Machine.execVend k f s
  | .vbnz k f => Sys2Proof.Machine.execVbnz k f s
  | .vsetc k f => Sys2Proof.Machine.execVsetc k f s
  | .vadda k f => Sys2Proof.Machine.execVadda k f s
  | .dcopy k => Sys2Proof.Machine.execDcopy k s
  | .dfill k => Sys2Proof.Machine.execDfill k s
  | .dsig k => Sys2Proof.Machine.execDsig k s
  | .dclose k => Sys2Proof.Machine.execDclose k s
  | .dpost k => Sys2Proof.Machine.execDpost k s
  | .wpush k => Sys2Proof.Machine.execWpush k s
  | .wpop k => Sys2Proof.Machine.execWpop k s
  | .dmCommandComplete k => Sys2Proof.Machine.execDmCommandComplete k s
  | .postedTransfer => Sys2Proof.Machine.execPostedTransfer s
  | .callred k => Sys2Proof.Machine.execCallred k s
  | .credsc k => Sys2Proof.Machine.execCredsc k s
  | .callgat k => Sys2Proof.Machine.execCallgat k s
  | .cbcast k => Sys2Proof.Machine.execCbcast k s
  | .cgather k => Sys2Proof.Machine.execCgather k s
  | .cverd k => Sys2Proof.Machine.execCverd k s
  | .crot k => Sys2Proof.Machine.execCrot k s
  | .cbind k => Sys2Proof.Machine.execCbind k s
  | .collectiveRoomAccept k => Sys2Proof.Machine.execCollectiveRoomAccept k s
  | .cbindTakesEffect c => Sys2Proof.Machine.execCbindTakesEffect c s
  | .cverdContribute c => Sys2Proof.Machine.execCverdContribute c s
  | .crotStart c => Sys2Proof.Machine.execCrotStart c s
  | .earlyPacketHoldExpiry n c opSeq => Sys2Proof.Machine.execEarlyPacketHoldExpiry n c opSeq s
  | .binDequeue b => Sys2Proof.Machine.execBinDequeue b s
  | .bzero b => Sys2Proof.Machine.execBzero b s
  | .bscale b => Sys2Proof.Machine.execBscale b s
  | .bacc b => Sys2Proof.Machine.execBacc b s
  | .bnorm b => Sys2Proof.Machine.execBnorm b s
  | .bsgdm b => Sys2Proof.Machine.execBsgdm b s
  | .badam b => Sys2Proof.Machine.execBadam b s
  | .bcast b => Sys2Proof.Machine.execBcast b s
  | .drillDequeue p => Sys2Proof.Machine.execDrillDequeue p s
  | .dwinnow p => Sys2Proof.Machine.execDwinnow p s
  | .dresow p => Sys2Proof.Machine.execDresow p s
  | .windrowSpill k stack lines => Sys2Proof.Machine.execWindrowSpill k stack lines s
  | .windrowRefill k stack lines => Sys2Proof.Machine.execWindrowRefill k stack lines s
  | .granaryRepair p => Sys2Proof.Machine.execGranaryRepair p s
  | .gleanSweep p => Sys2Proof.Machine.execGleanSweep p s
  | .gleanRequest p => Sys2Proof.Machine.execGleanRequest p s
  | .gleanRequestDone p => Sys2Proof.Machine.execGleanRequestDone p s
  | .barnRefresh => Sys2Proof.Machine.execBarnRefresh s
  | .barnMr4Read reports => Sys2Proof.Machine.execBarnMr4Read reports s
  | .barnUpkeep => Sys2Proof.Machine.execBarnUpkeep s
  | .barnRetireRequest pkg => Sys2Proof.Machine.execBarnRetireRequest pkg s
  | .barnEccClear => Sys2Proof.Machine.execBarnEccClear s
  | .barnEccInject pkg => Sys2Proof.Machine.execBarnEccInject pkg s
  | .granEccClear p => Sys2Proof.Machine.execGranEccClear p s
  | .injectSingle p => Sys2Proof.Machine.execInjectSingle p s
  | .injectDouble p => Sys2Proof.Machine.execInjectDouble p s
  | .frameTransmit n => Sys2Proof.Machine.execFrameTransmit n s
  | .frameReceive n fr fresh wrong => Sys2Proof.Machine.execFrameReceive n fr fresh wrong s
  | .ack n sym => Sys2Proof.Machine.execAck n sym s
  | .nak n sym => Sys2Proof.Machine.execNak n sym s
  | .credit n sym => Sys2Proof.Machine.execCredit n sym s
  | .timeSync n sym delay => Sys2Proof.Machine.execTimeSync n sym delay s
  | .marker n sym => Sys2Proof.Machine.execMarker n sym s
  | .hello n sym => Sys2Proof.Machine.execHello n sym s
  | .laneMap n sym => Sys2Proof.Machine.execLaneMap n sym s
  | .linkDown n sym => Sys2Proof.Machine.execLinkDown n sym s
  | .timeSyncSend n => Sys2Proof.Machine.execTimeSyncSend n s
  | .ackTimer n => Sys2Proof.Machine.execAckTimer n s
  | .helloResend n => Sys2Proof.Machine.execHelloResend n s
  | .laneMapResend n => Sys2Proof.Machine.execLaneMapResend n s
  | .laneLockLoss n lane => Sys2Proof.Machine.execLaneLockLoss n lane s
  | .laneSignalDetect n lanes => Sys2Proof.Machine.execLaneSignalDetect n lanes s
  | .pmdTrainingDone n lanes medium => Sys2Proof.Machine.execPmdTrainingDone n lanes medium s
  | .pmdTrainingTimeout n => Sys2Proof.Machine.execPmdTrainingTimeout n s
  | .autoRetrainTimer n => Sys2Proof.Machine.execAutoRetrainTimer n s
  | .linkTimeoutExpiry n => Sys2Proof.Machine.execLinkTimeoutExpiry n s
  | .portShutdownComplete n => Sys2Proof.Machine.execPortShutdownComplete n s
  | .portDrainComplete n => Sys2Proof.Machine.execPortDrainComplete n s
  | .portEnable n => Sys2Proof.Machine.execPortEnable n s
  | .portDisable n => Sys2Proof.Machine.execPortDisable n s
  | .portDrain n => Sys2Proof.Machine.execPortDrain n s
  | .portDrainClear n => Sys2Proof.Machine.execPortDrainClear n s
  | .retrain n => Sys2Proof.Machine.execRetrain n s
  | .portCountClear n => Sys2Proof.Machine.execPortCountClear n s
  | .spareNow n lane => Sys2Proof.Machine.execSpareNow n lane s
  | .routePacket src => Sys2Proof.Machine.execRoutePacket src s
  | .scheduledWrite => Sys2Proof.Machine.execScheduledWrite s
  | .elasticWrite => Sys2Proof.Machine.execElasticWrite s
  | .elasticReadRequest => Sys2Proof.Machine.execElasticReadRequest s
  | .elasticResponse => Sys2Proof.Machine.execElasticResponse s
  | .signalOnly => Sys2Proof.Machine.execSignalOnly s
  | .epochClose => Sys2Proof.Machine.execEpochClose s
  | .csrRequest => Sys2Proof.Machine.execCsrRequest s
  | .scheduledAck => Sys2Proof.Machine.execScheduledAck s
  | .reductionPartial n => Sys2Proof.Machine.execReductionPartial n s
  | .reductionData => Sys2Proof.Machine.execReductionData s
  | .grant => Sys2Proof.Machine.execGrant s
  | .ringBreak => Sys2Proof.Machine.execRingBreak s
  | .ringAbort => Sys2Proof.Machine.execRingAbort s
  | .reductionVerdict => Sys2Proof.Machine.execReductionVerdict s
  | .hostPacketIngress => Sys2Proof.Machine.execHostPacketIngress s
  | .hwrite => Sys2Proof.Machine.execHwrite s
  | .hread => Sys2Proof.Machine.execHread s
  | .doorbell => Sys2Proof.Machine.execDoorbell s
  | .mrdata => Sys2Proof.Machine.execMrdata s
  | .mwack => Sys2Proof.Machine.execMwack s
  | .probe => Sys2Proof.Machine.execProbe s
  | .sqEntryFetch q => Sys2Proof.Machine.execSqEntryFetch q s
  | .qcopyIn q => Sys2Proof.Machine.execQcopyIn q s
  | .qcopyOut q => Sys2Proof.Machine.execQcopyOut q s
  | .qsignal q => Sys2Proof.Machine.execQsignal q s
  | .qnop q => Sys2Proof.Machine.execQnop q s
  | .hostTimeoutExpiry tag => Sys2Proof.Machine.execHostTimeoutExpiry tag s
  | .probeTimer => Sys2Proof.Machine.execProbeTimer s
  | .qpEnable q => Sys2Proof.Machine.execQpEnable q s
  | .qpDisable q => Sys2Proof.Machine.execQpDisable q s
  | .qpDrainComplete q => Sys2Proof.Machine.execQpDrainComplete q s
  | .loaderScan => Sys2Proof.Machine.execLoaderScan s
  | .loaderCheck part req => Sys2Proof.Machine.execLoaderCheck part req s
  | .loaderLoad part req => Sys2Proof.Machine.execLoaderLoad part req s
  | .loaderStart part req => Sys2Proof.Machine.execLoaderStart part req s
  | .loaderUnload part req => Sys2Proof.Machine.execLoaderUnload part req s
  | .bootStart => Sys2Proof.Machine.execBootStart s
  | .optionBlockVerified flashOk block sig => Sys2Proof.Machine.execOptionBlockVerified flashOk block sig s
  | .granaryFillDone spareFails => Sys2Proof.Machine.execGranaryFillDone spareFails s
  | .bootImageVerified slotB image => Sys2Proof.Machine.execBootImageVerified slotB image s
  | .barnFillDone failed => Sys2Proof.Machine.execBarnFillDone failed s
  | .stewardInitDone ok => Sys2Proof.Machine.execStewardInitDone ok s
  | .stewardInitTimeout => Sys2Proof.Machine.execStewardInitTimeout s
  | .noNeighbourTimeout => Sys2Proof.Machine.execNoNeighbourTimeout s
  | .holdoverExpiry => Sys2Proof.Machine.execHoldoverExpiry s
  | .rstGo who target confirm => Sys2Proof.Machine.execRstGo who target confirm s
  | .rstHold who target confirm => Sys2Proof.Machine.execRstHold who target confirm s
  | .rstRelease who target => Sys2Proof.Machine.execRstRelease who target s
  | .resetLPulse ns => Sys2Proof.Machine.execResetLPulse ns s
  | .pwrGoodLow => Sys2Proof.Machine.execPwrGoodLow s
  | .railsStop => Sys2Proof.Machine.execRailsStop s
  | .refclkLoss => Sys2Proof.Machine.execRefclkLoss s
  | .watchdogExpiry => Sys2Proof.Machine.execWatchdogExpiry s
  | .wdogKick who => Sys2Proof.Machine.execWdogKick who s
  | .criticalError unit word => Sys2Proof.Machine.execCriticalError unit word s
  | .isolationTimeout target => Sys2Proof.Machine.execIsolationTimeout target s
  | .domainClearDone target => Sys2Proof.Machine.execDomainClearDone target s
  | .fabricDrainDone => Sys2Proof.Machine.execFabricDrainDone s
  | .fabricDrainLimit => Sys2Proof.Machine.execFabricDrainLimit s
  | .fabricClearDone => Sys2Proof.Machine.execFabricClearDone s
  | .changeRecordSubmit => Sys2Proof.Machine.execChangeRecordSubmit s
  | .changeRecordVerified => Sys2Proof.Machine.execChangeRecordVerified s
  | .plotJoinFillDone p => Sys2Proof.Machine.execPlotJoinFillDone p s
  | .barnExtentFillDone e => Sys2Proof.Machine.execBarnExtentFillDone e s
  | .attestationRequest => Sys2Proof.Machine.execAttestationRequest s
  | .attestationReportWritten => Sys2Proof.Machine.execAttestationReportWritten s
  | .sequencerDisagreement outvoted => Sys2Proof.Machine.execSequencerDisagreement outvoted s
  | .regulatorPhaseLoss rail => Sys2Proof.Machine.execRegulatorPhaseLoss rail s
  | .thermalSense temps => Sys2Proof.Machine.execThermalSense temps s
  | .powerSense vin iin pin avg => Sys2Proof.Machine.execPowerSense vin iin pin avg s
  | .errorRecordWrite => Sys2Proof.Machine.execErrorRecordWrite s
  | .congestionRecord => Sys2Proof.Machine.execCongestionRecord s
  | .pcSample => Sys2Proof.Machine.execPcSample s
  | .traceBlockWrite => Sys2Proof.Machine.execTraceBlockWrite s
  | .tracePostEnd => Sys2Proof.Machine.execTracePostEnd s
  | .traceStart => Sys2Proof.Machine.execTraceStart s
  | .traceStop => Sys2Proof.Machine.execTraceStop s
  | .traceRestart => Sys2Proof.Machine.execTraceRestart s
  | .traceMarkWrite k v => Sys2Proof.Machine.execTraceMarkWrite k v s
  | .telSnap => Sys2Proof.Machine.execTelSnap s
  | .clearPeaks => Sys2Proof.Machine.execClearPeaks s
  | .dbgStopGo => Sys2Proof.Machine.execDbgStopGo s
  | .resume k => Sys2Proof.Machine.execResume k s
  | .step k => Sys2Proof.Machine.execStep k s
  | .haltReq k => Sys2Proof.Machine.execHaltReq k s
  | .imCtlSwitch k => Sys2Proof.Machine.execImCtlSwitch k s
  | .imWindowWrite who k bankB off size v => Sys2Proof.Machine.execImWindowWrite who k bankB off size v s
  | .epochAdvance k => Sys2Proof.Machine.execEpochAdvance k s
  | .cmpRingWrite k v => Sys2Proof.Machine.execCmpRingWrite k v s
  | .tokenRegWrite k reg v => Sys2Proof.Machine.execTokenRegWrite k reg v s
  | .srSeedWrite k v => Sys2Proof.Machine.execSrSeedWrite k v s
  | .wrRegionWrite k stack spill v => Sys2Proof.Machine.execWrRegionWrite k stack spill v s
  | .binCfgWrite b v => Sys2Proof.Machine.execBinCfgWrite b v s
  | .csrWrite who off size v => Sys2Proof.Machine.execCsrWrite who off size v s
  | .matCheckClear k => Sys2Proof.Machine.execMatCheckClear k s
  | .injectResidue k => Sys2Proof.Machine.execInjectResidue k s
  | .matInjectCompare k => Sys2Proof.Machine.execMatInjectCompare k s
  | .injectParity k => Sys2Proof.Machine.execInjectParity k s
  | .vecCheckClear k => Sys2Proof.Machine.execVecCheckClear k s
  | .vecInjectCompare k => Sys2Proof.Machine.execVecInjectCompare k s
  | .vecInjectParity k => Sys2Proof.Machine.execVecInjectParity k s
  | .coreCheckClear k => Sys2Proof.Machine.execCoreCheckClear k s
  | .injectLockstep k => Sys2Proof.Machine.execInjectLockstep k s
  | .injectMem k => Sys2Proof.Machine.execInjectMem k s
  | .binCheckClear b => Sys2Proof.Machine.execBinCheckClear b s
  | .binInjectCompare b => Sys2Proof.Machine.execBinInjectCompare b s
  | .drillCheckClear p => Sys2Proof.Machine.execDrillCheckClear p s
  | .drillInjectCompare p => Sys2Proof.Machine.execDrillInjectCompare p s
  | .collCheckClear => Sys2Proof.Machine.execCollCheckClear s
  | .collInject n => Sys2Proof.Machine.execCollInject n s
  | .channelClear c => Sys2Proof.Machine.execChannelClear c s
  | .i3cWrite off v => Sys2Proof.Machine.execI3cWrite off v s
  | .i3cRead off => Sys2Proof.Machine.execI3cRead off s
  | .bypass => Sys2Proof.Machine.execBypass s
  | .idcode => Sys2Proof.Machine.execIdcode s
  | .samplePreload pins preload => Sys2Proof.Machine.execSamplePreload pins preload s
  | .extest cells => Sys2Proof.Machine.execExtest cells s
  | .extestPulse cells => Sys2Proof.Machine.execExtestPulse cells s
  | .extestTrain cells => Sys2Proof.Machine.execExtestTrain cells s
  | .clamp => Sys2Proof.Machine.execClamp s
  | .highz => Sys2Proof.Machine.execHighz s
  | .csrAccess write off v => Sys2Proof.Machine.execCsrAccess write off v s
  | .siteFuse group value => Sys2Proof.Machine.execSiteFuse group value s
  | .siteFuseBurnDone readBack => Sys2Proof.Machine.execSiteFuseBurnDone readBack s
  | .ptTestEnable n on => Sys2Proof.Machine.execPtTestEnable n on s
  | .ptTestClear n => Sys2Proof.Machine.execPtTestClear n s
  | .ptMarginGo n => Sys2Proof.Machine.execPtMarginGo n s
  | .marginScanDone n errors => Sys2Proof.Machine.execMarginScanDone n errors s
  | .pwrGoodHigh => Sys2Proof.Machine.execPwrGoodHigh s
  | .reservedTypeSymbol n sym => Sys2Proof.Machine.execReservedTypeSymbol n sym s
  | .ptCheckerLock n lane => Sys2Proof.Machine.execPtCheckerLock n lane s
  | .ptCheckerLockLoss n lane => Sys2Proof.Machine.execPtCheckerLockLoss n lane s
  | .i3cDynamicAddressAssign addr => Sys2Proof.Machine.execI3cDynamicAddressAssign addr s

end Sys2Proof.Machine
end

