-- ==== Sys2Proof/Safety.lean ====
section
/-! DEFINITION. The terms that the claims use: sound states, when an instruction executes normally, and what a command leaves as it was. -/

namespace Sys2Proof.Machine

/-- Memory is in canonical form and the register store lists rising bit addresses. -/
def State.sound (s : State) : Bool := Memory.wf s.mem && s.csr.sorted

/-- A command completes in a state that has a property. -/
def Completes (c : Instr) (s : State) (p : State → Prop) : Prop := ∃ t, exec c s = .next t ∧ p t

/-- An instruction of a core executes normally: the core issues (it is live, not halted, not waiting), no breakpoint stops it, no forced lockstep
mismatch waits (R152, R180), it is not single-stepped (R179), it is not the last of the bank (R161), and no bit of its memories is flipped (R153). -/
def State.executes (s : State) (k : CoreId) : Bool :=
  s.issuing k && !s.breakpoint k && !(s.core k).injLockstep && !(s.core k).stepping && decide ((s.core k).pc < 16380) &&
    (s.slot k).imErrA.isEmpty && (s.slot k).imErrB.isEmpty && (s.slot k).dmErr.isEmpty

/-- Nothing outside the register store and the slots has changed. -/
def SameOutside (s t : State) : Prop :=
  t.pending = s.pending ∧ t.fieldCount = s.fieldCount ∧ t.passPoint = s.passPoint ∧ t.firstPass = s.firstPass ∧ t.opt = s.opt ∧ t.fuses = s.fuses ∧
  t.mem = s.mem ∧ t.mx = s.mx ∧ t.bins = s.bins ∧ t.drills = s.drills ∧ t.fab = s.fab ∧ t.coll = s.coll ∧ t.host = s.host ∧ t.boot = s.boot ∧
  t.hay = s.hay ∧ t.obs = s.obs

/-- Every register field but those of a list reads as before. -/
def SameRegisters (except : List Nat) (s t : State) : Prop :=
  ∀ b f i, fkey b f i ∉ except → t.rd b f i = s.rd b f i

/-- Every byte of memory reads as before. -/
def SameMemory (s t : State) : Prop := ∀ a, t.byte a = s.byte a

/-- The slots of every other cluster are as before. -/
def SameOthers (k : CoreId) (s t : State) : Prop := ∀ j, j ≠ k → t.slot j = s.slot j

/-- Of its own slot a core instruction has changed the core alone, and what the branch trace gathers. -/
def SameSlot (k : CoreId) (s t : State) : Prop :=
  ({ t.slot k with core := {}, brStart := none, brTargets := [] } : Slot) = { s.slot k with core := {}, brStart := none, brTargets := [] }

/-- The frame of an instruction that writes general registers only: of the module, the core's general registers `rds`, its program counter, the mask of its
furrow and CORE_INSTR.RETIRED may change. -/
def CoreFrame (k : CoreId) (rds : List (BitVec 5)) (s t : State) : Prop :=
  SameOutside s t ∧ SameOthers k s t ∧ SameSlot k s t ∧ SameRegisters [fkey (slotB k) F.CORE_INSTR_RETIRED 0] s t ∧
  (∀ r, r ∉ rds → t.g k r = s.g k r) ∧
  (t.core k).halted = false ∧ (t.core k).wait = Wait.none ∧ (t.core k).inFurrow = (s.core k).inFurrow ∧ (t.core k).halt = (s.core k).halt

/-- The started microprogram of a cluster whose next instruction lies in the bank (R132). -/
abbrev State.running (s : State) (k : CoreId) (r : VRun) : Prop := (s.slot k).vrun = some r ∧ r.started = true ∧ r.pc + 8 < 16384

/-- A vector instruction has issued: the next one follows, and of the rest of the module no memory and no other slot has changed. -/
def VecIssued (k : CoreId) (r : VRun) (s t : State) : Prop :=
  (t.slot k).vrun.map (·.pc) = some (r.pc + 8) ∧ SameOthers k s t ∧ SameMemory s t

/-- Every other vector register keeps its value. -/
def SameVectors (k : CoreId) (vd : Nat) (s t : State) : Prop := ∀ reg i, i < 256 → reg ≠ vd → (t.slot k).vget reg i = (s.slot k).vget reg i

/-- The lanes of a vector register that a mask names take their values; an inactive lane keeps its own, or is zero with MZ (R127). -/
def LanesTake (k : CoreId) (vd msk : Nat) (mz : Bool) (v : Nat → Nat) (s t : State) : Prop :=
  (∀ i, i < s.lanes k → (t.slot k).vget vd i =
    (if ((s.slot k).mget msk).getLsbD i then v i else if mz then 0 else (s.slot k).vget vd i)) ∧ SameVectors k vd s t

/-- The same for the bits of a mask register (R135). -/
def BitsTake (k : CoreId) (vd msk : Nat) (mz : Bool) (v : Nat → Bool) (s t : State) : Prop :=
  (∀ i, i < s.lanes k → ((t.slot k).mget vd).getLsbD i =
    (if ((s.slot k).mget msk).getLsbD i then v i else if mz then false else ((s.slot k).mget vd).getLsbD i)) ∧
  (∀ m, m ≠ vd → (t.slot k).mget m = (s.slot k).mget m) ∧ (t.slot k).vregs = (s.slot k).vregs

/-- No memory, cluster, Bin unit or Drill has changed, no fuse has burned, and no time has passed. -/
def SameWork (s t : State) : Prop :=
  t.pending = s.pending ∧ t.fieldCount = s.fieldCount ∧ t.mem = s.mem ∧ t.mx = s.mx ∧ t.slots = s.slots ∧ t.bins = s.bins ∧ t.drills = s.drills ∧ t.fuses = s.fuses

/-- A saturating count has gone up by one. -/
def CountsOne (b : Nat) (f : Field) (i : Nat) (s t : State) : Prop := t.rd b f i = min (s.rd b f i + 1) (2 ^ f.w - 1)

/-- Every memory line reads without an error and no wrapper or extent stands in the way. -/
def State.clean (s : State) : Prop :=
  s.mx.granBad = [] ∧ s.mx.barnBad = [] ∧ s.mx.granInj = [] ∧ s.mx.barnInj = none ∧ s.mx.extents = [] ∧ s.mx.hostExtents = [] ∧
    s.boot.imgRead = none ∧ ∀ p, s.plotOpen p = true

end Sys2Proof.Machine
end

