-- ==== Sys2Proof/Certificates/Slice0/Obligations.lean ====
section
/-! DEFINITION. The statements for the provers. Each docstring names the rule it follows; `Completes c s p` says that command `c` answers a next state
with the property `p`. -/

open Sys2Proof Sys2Proof.Machine

/-! ### The queue and the clock -/

/-- A step runs the command at the front of the queue, with the queue's rest. -/
def Obligations.StepRunsTheFrontCommand : Prop :=
  ∀ (c : Instr) (rest : List Instr) (s : State), s.pending = c :: rest → step s = exec c { s with pending := rest }

/-- With nothing commanded, and no Pass begun, one reference clk passes (R31; log 2): the field counter advances by one, and memory, slots, Bin units, Drills and
queues stay as they are. -/
def Obligations.IdleClkAdvancesTheFieldCounter : Prop :=
  ∀ s : State, s.pending = [] → s.firstPass = false → s.timed = false →
    ∃ t, step s = .next t ∧ t.fieldCount = s.fieldCount + 1 ∧ t.pending = [] ∧ t.mem = s.mem ∧ t.slots = s.slots ∧ t.bins = s.bins ∧
      t.drills = s.drills ∧ t.fab = s.fab ∧ t.mx = s.mx

/-! ### The control core (chapter 6) -/

/-- The register instructions of Table 6-2: gd takes the result, g0 stays zero, and nothing else of the module changes but the program counter and
CORE_INSTR (R154, R160). -/
def Obligations.RegisterArithmetic : Prop :=
  ∀ (k : CoreId) (f : RForm) (s : State), s.executes k = true → f.rsv = 0 → f.fn = 0 →
    let a := s.g k f.ra
    let b := s.g k f.rb
    let n := b.toNat % 64
    let gives := fun (c : Instr) (v : W64) =>
      Completes c s (fun t => t.g k f.rd = (if f.rd = 0 then 0 else v) ∧ (t.core k).pc = (s.core k).pc + 4 ∧ CoreFrame k [f.rd] s t)
    gives (.add k f) (BitVec.ofNat 64 (a.toNat + b.toNat)) ∧ gives (.sub k f) (BitVec.ofInt 64 (a.toInt - b.toInt)) ∧
    gives (.andR k f) (a &&& b) ∧ gives (.orR k f) (a ||| b) ∧ gives (.xorR k f) (a ^^^ b) ∧
    gives (.sll k f) (BitVec.ofNat 64 (a.toNat * 2 ^ n)) ∧ gives (.srl k f) (BitVec.ofNat 64 (a.toNat / 2 ^ n)) ∧
    gives (.sra k f) (a.sshiftRight n) ∧ gives (.mul k f) (BitVec.ofNat 64 (a.toNat * b.toNat)) ∧
    gives (.mulhu k f) (BitVec.ofNat 64 (a.toNat * b.toNat / 2 ^ 64)) ∧ gives (.slt k f) (if a.toInt < b.toInt then 1 else 0) ∧
    gives (.sltu k f) (if a.toNat < b.toNat then 1 else 0) ∧ gives (.minS k f) (if a.toInt ≤ b.toInt then a else b) ∧
    gives (.maxS k f) (if a.toInt ≤ b.toInt then b else a)

/-- The immediate instructions of Table 6-2: IMM14 sign-extended for ADDI and SLTI, zero-extended for the logical ones, a shift amount below 64 for the shifts; LUI places its
sign-extended immediate 14 bits up. NOP, RDPASS and RDFC (Table 6-2): RDPASS gives the number of the current Pass, RDFC the field counter; NOP changes nothing but the
program counter. -/
def Obligations.ImmediateAndClockInstructions : Prop :=
  (∀ (k : CoreId) (f : IForm) (u : UForm) (s : State), s.executes k = true →
     let a := s.g k f.ra
     let x := f.imm.signExtend 64
     let z := f.imm.setWidth 64
     let n := f.imm.toNat
     let gives := fun (c : Instr) (rd : BitVec 5) (v : W64) =>
       Completes c s (fun t => t.g k rd = (if rd = 0 then 0 else v) ∧ (t.core k).pc = (s.core k).pc + 4 ∧ CoreFrame k [rd] s t)
     gives (.addi k f) f.rd (a + x) ∧ gives (.andi k f) f.rd (a &&& z) ∧ gives (.ori k f) f.rd (a ||| z) ∧ gives (.xori k f) f.rd (a ^^^ z) ∧
     gives (.slti k f) f.rd (if a.toInt < x.toInt then 1 else 0) ∧
     (n < 64 → gives (.slli k f) f.rd (BitVec.ofNat 64 (a.toNat * 2 ^ n)) ∧ gives (.srli k f) f.rd (BitVec.ofNat 64 (a.toNat / 2 ^ n)) ∧
       gives (.srai k f) f.rd (a.sshiftRight n)) ∧
     gives (.lui k u) u.rd (u.imm.signExtend 64 <<< 14)) ∧
  (∀ (k : CoreId) (f : RForm) (s : State), s.executes k = true → f.rsv = 0 → f.fn = 0 → f.ra = 0 → f.rb = 0 →
     let gives := fun (c : Instr) (v : Nat) =>
       Completes c s (fun t => t.g k f.rd = (if f.rd = 0 then 0 else BitVec.ofNat 64 v) ∧ (t.core k).pc = (s.core k).pc + 4 ∧ CoreFrame k [f.rd] s t)
     gives (.rdpass k f) (s.fieldCount / s.passLen % 2 ^ 48) ∧ gives (.rdfc k f) s.fieldCount ∧
     (f.rd = 0 → Completes (.nop k f) s (fun t => (t.core k).pc = (s.core k).pc + 4 ∧ CoreFrame k [] s t)))

/-- What a core reads of its data memory: the bytes at an address as its furrow sees them (R52, R155). -/
def Obligations.LoadsReadTheFurrowsView : Prop :=
  ∀ (k : CoreId) (f : IForm) (s : State), s.executes k = true → (s.core k).injMem = false →
    let a := (s.g k f.ra + f.imm.signExtend 64).toNat
    let value := fun n => BitVec.ofNat 64 (ofBytes ((List.range n).map (fun i =>
      let own := (s.core k).cur.any (fun u => (s.slot k).tags.find? ((a + i) / 64) = some u.serial)
      if own then (s.slot k).work.get 0 (a + i) else (s.slot k).dmem.get 0 (a + i))))
    let gives := fun (c : Instr) (v : W64) =>
      Completes c s (fun t => t.g k f.rd = (if f.rd = 0 then 0 else v) ∧ (t.core k).pc = (s.core k).pc + 4 ∧ CoreFrame k [f.rd] s t)
    (a % 8 = 0 → a + 8 ≤ 0x4000 → gives (.ld k f) (value 8)) ∧ (a % 4 = 0 → a + 4 ≤ 0x4000 → gives (.lw k f) (value 4))

/-- A store inside a furrow (R155): the line becomes the furrow's, the stored bytes read back, every other byte of core data memory reads as before, and no
committed byte has changed. -/
def Obligations.StoresGoToTheWorkingCopy : Prop :=
  ∀ (k : CoreId) (f : IForm) (u : Furrow) (s : State), s.executes k = true → (s.core k).cur = some u →
    let a := (s.g k f.ra + f.imm.signExtend 64).toNat
    let stores := fun (c : Instr) (n : Nat) =>
      Completes c s (fun t =>
        (∀ i, i < n → t.dmByte k (a + i) = BitVec.ofNat 8 ((s.g k f.rd).toNat / 2 ^ (8 * i))) ∧
        (∀ b, (b < a ∨ a + n ≤ b) → t.dmByte k b = s.dmByte k b) ∧
        (t.slot k).dmem = (s.slot k).dmem ∧ (t.slot k).tags.find? (a / 64) = some u.serial ∧ (t.core k).pc = (s.core k).pc + 4 ∧
        SameOthers k s t ∧ SameMemory s t ∧ (∀ r, t.g k r = s.g k r))
    ((s.slot k).tags.find? (a / 64) = none ∨ (s.slot k).tags.find? (a / 64) = some u.serial) →
    (a % 8 = 0 → a + 8 ≤ 0x4000 → stores (.st k f) 8) ∧ (a % 4 = 0 → a + 4 ≤ 0x4000 → stores (.sw k f) 4)

/-- Branches (Table 6-2): to the program counter plus four times the offset where the condition holds, else to the next instruction; DBNZ counts its register down first. JAL
and JALR leave the address of the next instruction in gd and go to their target (Table 6-2). -/
def Obligations.BranchesAndJumps : Prop :=
  (∀ (k : CoreId) (f : BForm) (s : State), s.executes k = true →
     let a := s.g k f.ra
     let b := s.g k f.rb
     let target := ((s.core k).pc : Int) + 4 * f.off.toInt
     0 ≤ target → target ≤ 16380 → target % 4 = 0 →
     let goes := fun (c : Instr) (taken : Prop) [Decidable taken] =>
       Completes c s (fun t => (t.core k).pc = (if taken then target.toNat else (s.core k).pc + 4) ∧ (∀ r, t.g k r = s.g k r) ∧
         SameOthers k s t ∧ SameMemory s t ∧ (t.core k).halted = false)
     goes (.beq k f) (a = b) ∧ goes (.bne k f) (a ≠ b) ∧ goes (.blt k f) (a.toInt < b.toInt) ∧ goes (.bge k f) (b.toInt ≤ a.toInt) ∧
     goes (.bltu k f) (a.toNat < b.toNat) ∧ goes (.bgeu k f) (b.toNat ≤ a.toNat) ∧
     (f.rb = 0 → Completes (.dbnz k f) s (fun t =>
       (t.core k).pc = (if a ≠ 1 then target.toNat else (s.core k).pc + 4) ∧ t.g k f.ra = (if f.ra = 0 then 0 else a - 1) ∧
       (∀ r, r ≠ f.ra → t.g k r = s.g k r) ∧ SameOthers k s t ∧ SameMemory s t))) ∧
  (∀ (k : CoreId) (u : UForm) (f : IForm) (s : State), s.executes k = true →
     let pc := (s.core k).pc
     let goes := fun (c : Instr) (rd : BitVec 5) (target : Nat) =>
       Completes c s (fun t => (t.core k).pc = target ∧ t.g k rd = (if rd = 0 then 0 else BitVec.ofNat 64 (pc + 4)) ∧
         (∀ r, r ≠ rd → t.g k r = s.g k r) ∧ SameOthers k s t ∧ SameMemory s t)
     (let target := (pc : Int) + 4 * u.imm.toInt
      0 ≤ target → target ≤ 16380 → target % 4 = 0 → goes (.jal k u) u.rd target.toNat) ∧
     (let target := (s.g k f.ra + f.imm.signExtend 64).toNat
      target ≤ 16380 → target % 4 = 0 → goes (.jalr k f) f.rd target))

/-- SIM writes eight bytes of the inactive bank, and IMSW requests the switch (R168, Table 6-2). -/
def Obligations.InstructionMemoryInstructions : Prop :=
  ∀ (k : CoreId) (r : RForm) (i : IForm) (s : State), s.executes k = true →
    let x := s.slot k
    let a := (s.g k r.ra).toNat
    (r.rsv = 0 → r.fn = 0 → r.rd = 0 → a % 8 = 0 → a < 16384 → x.writable (!x.active) = true →
      Completes (.sim k r) s (fun t =>
        (∀ j, j < 8 → ((t.slot k).im (!x.active)).get 0 (a + j) = BitVec.ofNat 8 ((s.g k r.rb).toNat / 2 ^ (8 * j))) ∧
        (∀ b, (b < a ∨ a + 8 ≤ b) → ((t.slot k).im (!x.active)).get 0 b = (x.im (!x.active)).get 0 b) ∧
        (t.slot k).im x.active = x.im x.active ∧ (t.slot k).active = x.active ∧ (t.core k).pc = (s.core k).pc + 4 ∧ SameOthers k s t ∧ SameMemory s t)) ∧
    (i.rd = 0 → Completes (.imsw k i) s (fun t =>
      (t.slot k).switch = some ((s.g k i.ra + i.imm.signExtend 64).toNat % 16384 / 4 * 4) ∧ (t.slot k).active = x.active ∧
      (t.core k).pc = (s.core k).pc + 4 ∧ SameOthers k s t ∧ SameMemory s t))

/-- The tokens of R193: a TWAIT or a waiting one takes its count from what the ready heads of the engines leave, a TSIG adds its own, at once and inside the furrow; the furrow's account notes it (R197). ISSUE copies the
64 bytes at its address behind the entries of a queue that has room, and waits where it has none; the entry follows once one has freed (R166). -/
def Obligations.TokensAndIssues : Prop :=
  (∀ (k : CoreId) (f : TForm) (u : Furrow) (s : State), s.slotLive k = true → (s.core k).cur = some u → f.rsv = 0 → f.count ≠ 0 →
     let n := f.count.toNat
     let tok := f.tok.toNat
     let changed := fun (d : Int) (t : State) =>
       (t.tok k tok : Int) = s.tok k tok + d ∧ (∀ j, j ≠ tok → t.tok k j = s.tok k j) ∧ (t.core k).pc = (s.core k).pc + 4 ∧
       SameOthers k s t ∧ SameMemory s t
     (s.executes k = true → n ≤ s.leftForCore k tok → Completes (.twait k f) s (changed (-n))) ∧
     (s.executes k = true → s.tok k tok + n ≤ 0xFFFF → Completes (.tsig k f) s (changed n)) ∧
     (s.executes k = true → s.leftForCore k tok < n → Completes (.twait k f) s (fun t => (t.core k).wait = Wait.token tok n ∧ ∀ j, t.tok k j = s.tok k j)) ∧
     ((s.core k).wait = Wait.token tok n → n ≤ s.leftForCore k tok → (s.core k).injLockstep = false → (s.core k).stepping = false → (s.core k).pc < 16380 →
       Completes (.twaitSatisfied k) s (changed (-n)))) ∧
  (∀ (k : CoreId) (f : RForm) (u : Furrow) (s : State), (s.core k).cur = some u → (s.core k).injMem = false → (s.slot k).dmErr = [] →
     let q := f.fn.toNat
     let a := (s.g k f.ra).toNat
     let depth := if q = 2 then 64 else 32
     let queued := fun (q a : Nat) (t : State) =>
       ∃ e : QEntry, (t.slot k).queue q = (s.slot k).queue q ++ [e] ∧ e.desc = descOf ((List.range 64).map (fun i => s.dmByte k (a + i))) ∧
         e.pc = (s.core k).pc ∧ e.bank = (s.core k).bank ∧ e.serial = u.serial ∧ (t.core k).pc = (s.core k).pc + 4 ∧ SameOthers k s t ∧ SameMemory s t
     (s.executes k = true → f.rsv = 0 → f.rd = 0 → f.rb = 0 → q < 3 → a % 64 = 0 → a + 64 ≤ 0x4000 →
       (((s.slot k).queue q).length < depth → Completes (.issue k f) s (queued q a)) ∧
       (depth ≤ ((s.slot k).queue q).length → Completes (.issue k f) s (fun t => (t.core k).wait = Wait.issue q a ∧ (t.slot k).queue q = (s.slot k).queue q))) ∧
     (∀ q a, q < 3 → (s.core k).wait = Wait.issue q a → ((s.slot k).queue q).length < (if q = 2 then 64 else 32) → (s.core k).injLockstep = false →
       (s.core k).stepping = false → (s.core k).pc < 16380 → Completes (.issueQueueFree k) s (queued q a)))

/-- FBEGIN in the furrow window begins a furrow: the next slot of the Pass, the entry state of R157, a fresh serial number. At or after vote close it waits for the
boundary (R496). FEND retires once the furrow's commands have completed, and the furrow has finished (R165). PASS waits for a boundary; where a bank switch has left the
core on the old bank it does not wait and goes on at the entry offset of the new one (R163, R168). -/
def Obligations.FurrowsAndPasses : Prop :=
  ∀ (k : CoreId) (u : UForm) (r : RForm) (i : IForm) (s : State), (s.core k).reexec = false → (s.core k).injLockstep = false → (s.core k).stepping = false →
    (s.core k).pc < 16380 →
    (s.executes k = true → u.rd = 0 → u.imm.toNat < 0x10000 → (s.core k).inFurrow = false → (s.core k).furrows.length < 8 → s.passPoint = .window →
      s.firstPass = true → Completes (.fbegin k u) s (fun t =>
        ∃ f : Furrow, (t.core k).furrows = (s.core k).furrows ++ [f] ∧ f.id = u.imm.toNat ∧ f.pc = (s.core k).pc ∧ f.bank = (s.core k).bank ∧
          f.entry = (s.core k).regs ∧ f.mask = 0 ∧ f.serial = (s.core k).serial ∧ f.ended = false ∧ f.vote = .undecided ∧
          (t.core k).inFurrow = true ∧ (t.core k).slot = (s.core k).furrows.length ∧ (t.core k).pc = (s.core k).pc + 4 ∧ SameOthers k s t ∧ SameMemory s t)) ∧
    (s.executes k = true → u.rd = 0 → u.imm.toNat < 0x10000 → (s.core k).inFurrow = false → s.passPoint ≠ .window →
      Completes (.fbegin k u) s (fun t => (t.core k).wait = Wait.fbegin u.imm.toNat ∧ (t.core k).furrows = (s.core k).furrows ∧ (t.core k).pc = (s.core k).pc)) ∧
    (∀ f, (s.core k).cur = some f → f.cmds = 0 →
      let done := fun t : State => (t.core k).inFurrow = false ∧ (t.core k).pc = (s.core k).pc + 4 ∧
        (t.core k).furrows = (s.core k).furrows.map (fun g => if g.serial = f.serial then { g with ended := true } else g) ∧ SameMemory s t
      (s.executes k = true → r.rsv = 0 → r.fn = 0 → r.rd = 0 → r.ra = 0 → r.rb = 0 → Completes (.fend k r) s done) ∧
      ((s.core k).wait = Wait.fend → Completes (.fendRetire k) s done)) ∧
    (s.executes k = true → (s.core k).inFurrow = false → i.rd = 0 →
      ((s.slot k).oldBank = none → Completes (.pass k i) s (fun t =>
        (t.core k).wait = Wait.pass ((s.g k i.ra + i.imm.signExtend 64).toNat % 2 ^ 48) i ∧ (t.core k).pc = (s.core k).pc ∧ (∀ r, t.g k r = s.g k r) ∧
        SameOthers k s t ∧ SameMemory s t)) ∧
      (∀ e, (s.slot k).oldBank = some e → Completes (.pass k i) s (fun t =>
        (t.core k).wait = Wait.none ∧ (t.core k).pc = e ∧ (t.core k).bank = (s.slot k).active ∧ (t.slot k).oldBank = none ∧ (∀ r, t.g k r = s.g k r) ∧
        SameMemory s t)))

/-- HALT with code 0 halts with reason 0x0C, a code of 0x80 to 0xFF with itself, any other operand with 0x02, BRK with 0x0B; CORE_HALT names the source core, the bank, the address and the time
(R171, R172, R177). Queues are discarded but under 0x0B (R174, R178). -/
def Obligations.HaltingInstructions : Prop :=
  ∀ (k : CoreId) (u : UForm) (r : RForm) (s : State), s.executes k = true →
    let code := u.imm.toNat
    let halts := fun (reason : Nat) (t : State) =>
      (t.core k).halted = true ∧ (t.core k).halt.reason = reason ∧ (t.core k).halt.source = 0 ∧ (t.core k).halt.addr = (s.core k).pc ∧
      (t.core k).halt.bank = (s.core k).bank ∧ (t.core k).halt.time = s.fieldCount % 2 ^ 64 ∧ (t.core k).pc = (s.core k).pc ∧ SameMemory s t
    (u.rd = 0 → (code = 0 ∨ (0x80 ≤ code ∧ code ≤ 0xFF)) → Completes (.halt k u) s (fun t =>
      halts (if code = 0 then 0x0C else code) t ∧ (t.slot k).matQ = [] ∧ (t.slot k).vecQ = [] ∧ (t.slot k).dmQ = [] ∧ (t.slot k).vrun = none)) ∧
    (u.rd ≠ 0 ∨ (1 ≤ code ∧ code < 0x80) ∨ 0xFF < code → Completes (.halt k u) s (halts 0x02)) ∧
    (r.rsv = 0 → r.fn = 0 → r.rd = 0 → r.ra = 0 → r.rb = 0 → Completes (.brk k r) s (fun t =>
      halts 0x0B t ∧ (t.slot k).matQ = (s.slot k).matQ ∧ (t.slot k).vecQ = (s.slot k).vecQ ∧ (t.slot k).dmQ = (s.slot k).dmQ))

/-! ### The points of a Pass (chapter 2) -/

/-- The points of Table 2-1, at their clk: vote close at E + 32, commit markers at E + 40, the guard at PASS_LEN − G but not before vote close (log 68), so ahead of the
markers in a short Pass with a long guard, the boundary at the end of the Pass (R41, R46, R49, R61). -/
def Obligations.PointsOfAPassFallAtTheirClk : Prop :=
  ∀ s : State, s.firstPass = true → 0 < s.passLen →
    let start := s.fieldCount / s.passLen * s.passLen
    let E := 92 * s.passLen / 100
    let G := s.rd seqB F.COMMIT_CFG_COMMIT_GUARD
    let falls := fun (c : Instr) (here after : PassPoint) (clk : Nat) =>
      s.passPoint = here → s.fieldCount ≤ clk → Completes c s (fun t => t.passPoint = after ∧ t.fieldCount = clk ∧ t.firstPass = true ∧ t.pending = s.pending)
    let guard := max (s.passLen - G) (E + 32)
    falls .voteClose .window .voted (start + E + 32) ∧ falls .passBoundary .guard .window (start + s.passLen) ∧
    falls .guardStart .marked .guard (start + guard) ∧ falls .commitMarkerSend .early .guard (start + E + 40) ∧
    (E + 40 ≤ guard → falls .commitMarkerSend .voted .marked (start + E + 40)) ∧ (guard < E + 40 → falls .guardStart .voted .early (start + guard))

/-- Vote close decides every furrow of every core (R44, R46): one that has halted or has not finished is dropped, one that a check or a read failed is to be re-executed, the
others commit. A committed furrow's lines take the place of the committed ones, byte for byte, and no other byte of core data memory changes (R47, R155). -/
def Obligations.VotesAndCommits : Prop :=
  (∀ s : State, s.firstPass = true → s.passPoint = .window →
     Completes .voteClose s (fun t => t.passPoint = .voted ∧ ∀ (k : CoreId) (f : Furrow), f ∈ (t.core k).furrows →
       f.vote = (if f.halted then .dropped else if f.failed then .fail else if f.ended then .commit else .dropped))) ∧
  (∀ (x : Slot) (f : Furrow) (a : Nat), x.tags.sorted = true →
     (x.commitLines f).dmem.get 0 a = (if x.tags.find? (a / 64) = some f.serial then x.work.get 0 a else x.dmem.get 0 a) ∧
     (x.commitLines f).tags.find? (a / 64) = (if x.tags.find? (a / 64) = some f.serial then none else x.tags.find? (a / 64)))

/-- At E + 40 the markers of the Pass leave, and every stream begins to gather its senders anew (R49); the guard may have begun by then. In the guard a furrow that has not committed loses its working lines
and its net changes to tokens (R155, R157, R197); one that halted keeps its lines while DEBUG_EN is 1 (R175). -/
def Obligations.MarkersAndGuard : Prop :=
  (∀ s : State, s.firstPass = true → s.passPoint = .voted →
     Completes .commitMarkerSend s (fun t => t.passPoint = (if s.guardClk < s.budget + 40 then .guard else .marked) ∧
       t.fab.streamsTx = s.fab.streamsTx.map (fun x => { x with senders := [] }) ∧ SameMemory s t)) ∧
  (∀ s : State, s.firstPass = true → s.passPoint = .marked ∨ (s.passPoint = .voted ∧ s.guardClk < s.budget + 40) →
     Completes .guardStart s (fun t => t.passPoint = (if s.passPoint = .marked then .guard else .early) ∧ SameMemory s t ∧ ∀ (k : CoreId) (f : Furrow), f ∈ (t.core k).furrows → f.vote ≠ .commit →
       f.tok = [] ∧
       (¬(t.rdB (slotB k) F.CORE_DBG_DEBUG_EN = true ∧ (t.core k).halted = true ∧ f.halted = true) →
         f.mask = 0 ∧ ∀ line, (t.slot k).tags.find? line ≠ some f.serial)))

/-! ### Register accesses (chapters 0, 6 and 9) -/

/-- CSRR takes a register of the core's own block into gd; CSRW stores gd's value there, here into a breakpoint register (R160, R161, R180). -/
def Obligations.CoresReachTheirOwnBlock : Prop :=
  ∀ (k : CoreId) (f : IForm) (s : State), s.executes k = true →
    let a := (s.g k f.ra + f.imm.signExtend 64).toNat
    (a % 8 = 0 → a < 0x1000 → Completes (.csrr k f) s (fun t =>
      t.g k f.rd = (if f.rd = 0 then 0 else BitVec.ofNat 64 (s.csrLoad (slotB k + a) 8)) ∧ (t.core k).pc = (s.core k).pc + 4 ∧ CoreFrame k [f.rd] s t)) ∧
    (∀ i, i < 4 → a = F.CORE_BP_OFFSET.off + 8 * i → Completes (.csrw k f) s (fun t =>
      t.rd (slotB k) F.CORE_BP_OFFSET i = (s.g k f.rd).toNat % 2 ^ 14 / 4 * 4 ∧ t.rd (slotB k) F.CORE_BP_BANK i = (s.g k f.rd).toNat / 2 ^ 16 % 2 ∧
      t.rd (slotB k) F.CORE_BP_ENABLE i = (s.g k f.rd).toNat / 2 ^ 17 % 2 ∧ (t.core k).pc = (s.core k).pc + 4 ∧ (∀ r, t.g k r = s.g k r) ∧
      SameOthers k s t ∧ SameMemory s t))

/-- The window of an instruction bank (R167): a bank that may be written takes the eight bytes; one that may not is unchanged, and IM_STAT.WRITE_ERRS counts. -/
def Obligations.InstructionMemoryWindow : Prop :=
  ∀ (k : CoreId) (b : Bool) (off : Nat) (v : W64) (s : State), off % 8 = 0 → off < 0x4000 → s.fallowPlot k.plot.val = false → s.retiredSlot k = false →
    s.slotOpen k = true →
    ((s.slot k).writable b = true → Completes (.imWindowWrite .steward k b off 8 v) s (fun t =>
      (∀ i, i < 8 → ((t.slot k).im b).get 0 (off + i) = BitVec.ofNat 8 (v.toNat / 2 ^ (8 * i))) ∧
      (∀ a, (a < off ∨ off + 8 ≤ a) → ((t.slot k).im b).get 0 a = ((s.slot k).im b).get 0 a) ∧
      (t.slot k).im (!b) = (s.slot k).im (!b) ∧ t.core k = s.core k ∧ SameOthers k s t ∧ SameRegisters [] s t ∧ SameMemory s t)) ∧
    ((s.slot k).writable b = false → Completes (.imWindowWrite .steward k b off 8 v) s (fun t =>
      t.slot k = s.slot k ∧ t.rd (slotB k) F.IM_STAT_WRITE_ERRS = min (s.rd (slotB k) F.IM_STAT_WRITE_ERRS + 1) 0xFFFF ∧ SameOthers k s t ∧ SameMemory s t))

/-- Access codes of a register write (R10, R11, R61): a read-write field takes its bits, a locked one keeps its value once the first Pass has begun, a write-one-to-clear
flag clears. -/
def Obligations.RegisterWritesFollowTheAccessCodes : Prop :=
  ∀ (v : W64) (s : State),
    Completes (.csrWrite .steward (telB + F.FLT_CFG_STRIKE_LIMIT.off) 8 v) s (fun t =>
      t.rd telB F.FLT_CFG_STRIKE_LIMIT = (if v.toNat % 16 = 0 then s.rd telB F.FLT_CFG_STRIKE_LIMIT else v.toNat % 16) ∧
      t.rd telB F.FLT_CFG_STANDIN_EN = v.toNat / 2 ^ 32 % 2 ∧ t.slots = s.slots ∧ SameMemory s t ∧
      SameRegisters [fkey telB F.FLT_CFG_STRIKE_LIMIT 0, fkey telB F.FLT_CFG_STRIKE_WINDOW 0, fkey telB F.FLT_CFG_STANDIN_EN 0] s t) ∧
    (s.firstPass = true → Completes (.csrWrite .steward (seqB + F.PASS_CFG_PASS_LEN.off) 8 v) s (fun t => t = s)) ∧
    Completes (.csrWrite .steward (telB + F.FLT_STAT_UNMASKED.off) 8 v) s (fun t =>
      t.rd telB F.FLT_STAT_UNMASKED = (if v.toNat % 2 = 1 then 0 else s.rd telB F.FLT_STAT_UNMASKED % 2) ∧
      t.rd telB F.FLT_STAT_DEGRADED = (if v.toNat / 2 % 2 = 1 then 0 else s.rd telB F.FLT_STAT_DEGRADED % 2) ∧ t.slots = s.slots ∧ SameMemory s t ∧
      SameRegisters [fkey telB F.FLT_STAT_UNMASKED 0, fkey telB F.FLT_STAT_DEGRADED 0] s t)

/-- The management path (R10, R488, R489): within its reach a write over I3C or JTAG is the register's, and a read fetches its word; outside it a write is discarded and
a read returns zero. -/
def Obligations.ManagementPathReachesItsBlocks : Prop :=
  ∀ (off v : W64) (s : State), off.toNat % 8 = 0 →
    (rstB ≤ off.toNat → off.toNat < rstB + 0x100000 →
      Completes (.i3cRead off) s (fun t => t = { s with obs.i3cData := BitVec.ofNat 64 (s.csrLoad off.toNat 8) }) ∧
      Completes (.csrAccess false off v) s (fun t => t.obs.tdo = BitVec.ofNat 64 ((s.tap .csr).csrLoad off.toNat 8) ∧ t.csr = s.csr ∧ t.mem = s.mem ∧ t.slots = s.slots) ∧
      (off.toNat = rstB + F.PWR_CAP_LIMIT.off → 1000 ≤ v.toNat % 2 ^ F.PWR_CAP_LIMIT.w → v.toNat % 2 ^ F.PWR_CAP_LIMIT.w ≤ 2000 →
        Completes (.i3cWrite off v) s (fun t => t.rd rstB F.PWR_CAP_LIMIT = v.toNat % 2 ^ F.PWR_CAP_LIMIT.w ∧ t.slots = s.slots ∧ SameMemory s t) ∧
        Completes (.csrAccess true off v) s (fun t => t.rd rstB F.PWR_CAP_LIMIT = v.toNat % 2 ^ F.PWR_CAP_LIMIT.w ∧ t.slots = s.slots ∧ SameMemory s t))) ∧
    (0x10000 ≤ off.toNat → off.toNat < rstB → (off.toNat < telB ∨ telB + 0x100 ≤ off.toNat) →
      Completes (.i3cRead off) s (fun t => t = { s with obs.i3cData := 0 }) ∧ Completes (.i3cWrite off v) s (fun t => t = s))

/-! ### Engines and the matrix engine (chapters 4 and 7) -/

/-- A dequeue takes the older of the two phases' ready heads (R190): it is ready, the first of its phase, and no ready first of the other phase is older. Its wait is taken
(R193), its entry leaves the queue, and it goes on past dequeue if the checks of Table 7-6 pass; a stale one is counted (R198), one at fault halts the core with the
check's code (R188). -/
def Obligations.DequeueTakesTheOlderReadyHead : Prop :=
  ∀ (k : CoreId) (e : Engine) (s : State) (h : QEntry) (bypass : Bool), s.slotLive k = true → (s.slot k).engineRoom e = true →
    let q := (s.slot k).queue (engineNo e)
    readyHead (s.leftFor k e) q = some (h, bypass) →
    let d := (s.slot k).dequeue e h.order
    let f : Flight := { q := h, seq := d.1, tDeq := s.fieldCount % 2 ^ 64 }
    let taken := (s.setSlot k d.2).takeWait k h
    let taken := if bypass then taken.wrapAdd (slotB k) F.DM_WAIT_BYPASS 1 else taken
    h ∈ q ∧ h.ready (s.leftFor k e) = true ∧
    (∀ x ∈ q, x.desc.phase < 2 → q.find? (fun y => y.desc.phase = x.desc.phase) = some x → x.ready (s.leftFor k e) = true → h.order ≤ x.order) ∧
    (taken.engineChecks k e h.desc = .ok → Completes (.engineDequeue k e) s (fun t =>
      t.slot k = (taken.slot k).inPipe e f ∧ (h.desc.waitEn = true → t.tok k h.desc.waitTok = s.tok k h.desc.waitTok - h.desc.waitCount) ∧
      SameOthers k s t ∧ SameMemory s t)) ∧
    (taken.engineChecks k e h.desc = .stale → Completes (.engineDequeue k e) s (fun t =>
      t.slot k = (taken.slot k).inPipe e { f with done := true, status := 1 } ∧
      t.rd (slotB k) F.EPOCH_DISCARDS_STALE_CMDS = min (s.rd (slotB k) F.EPOCH_DISCARDS_STALE_CMDS + 1) (2 ^ F.EPOCH_DISCARDS_STALE_CMDS.w - 1) ∧
      SameOthers k s t ∧ SameMemory s t)) ∧
    (∀ code, taken.engineChecks k e h.desc = .halt code → code ≠ 0x0B → (s.core k).halted = false → Completes (.engineDequeue k e) s (fun t =>
      (t.core k).halted = true ∧ (t.core k).halt.reason = code ∧ (t.core k).halt.source = engineNo e + 1 ∧ (t.core k).halt.addr = h.pc ∧
      (t.core k).halt.bank = h.bank ∧ (t.slot k).queue (engineNo e) = [] ∧ SameMemory s t))

/-- TZERO, TLOAD and TSAVE (R119): the addressed rows of the tile become zero, take bits [39:0] of the stored containers, or are stored in containers with bits [63:40]
zero; the other entries of the tiles keep their values, and the command has done its work. -/
def Obligations.TileCommands : Prop :=
  ∀ (k : CoreId) (f : Flight) (s : State),
    let d := f.q.desc
    let addressed := fun row => d.row0 ≤ row ∧ row < d.row0 + d.rows
    let addr := fun i => lineAddr k.plot.val d.aBase + i * d.aStride * 64
    let kept := fun (t : State) => ∀ tile row col, row < 256 → col < 64 → d.row0 + d.rows ≤ 256 → (tile ≠ d.tile ∨ ¬addressed row) →
      (t.slot k).tileGet tile row col = (s.slot k).tileGet tile row col
    let done := fun (t : State) => ∃ g ∈ (t.slot k).matPipe, g.seq = f.seq ∧ g.done = true ∧ g.status = 0
    (s.matNext k 0x24 = some f → Completes (.tzero k) s (fun t =>
      (∀ row col, addressed row → col < 64 → (t.slot k).tileGet d.tile row col = 0) ∧ kept t ∧ done t ∧ SameOthers k s t ∧ SameMemory s t)) ∧
    (s.matNext k 0x23 = some f → f.denied = false → s.firstBlocked (.furrow k f.q.serial) (rowRanges k d.aBase d.rows d.aStride 512) = none →
      (s.readRanges k.slot.val (rowRanges k d.aBase d.rows d.aStride 512) (s.flightCause k f)).1 = rOK → Completes (.tload k) s (fun t =>
      (∀ i col, i < d.rows → col < 64 → (t.slot k).tileGet d.tile (d.row0 + i) col = ofBytes (s.bytes (addr i + 8 * col) 5)) ∧ kept t ∧ done t ∧
      SameOthers k s t ∧ SameMemory s t)) ∧
    (s.matNext k 0x22 = some f → ownPlot k (rowSpan k d.aBase d.rows d.aStride 512) = true → s.plotOpen k.plot.val = true → Completes (.tsave k) s (fun t =>
      t.mem = (List.range d.rows).foldl (fun m i => memPuts m (addr i)
        ((List.range 64).flatMap (fun j => bytesOf 8 ((s.slot k).tileGet d.tile (d.row0 + i) j)))) s.mem ∧
      (t.slot k).tiles = (s.slot k).tiles ∧ done t ∧ SameOthers k s t))

/-- MMUL without an epilogue (R73, R77, R106): every addressed entry becomes a sum in A40, in some order, of its own value (where ACC is set) and the block results of its
row and column; every other entry keeps its value, and memory is only read. -/
def Obligations.MmulAccumulatesBlockResults : Prop :=
  ∀ (k : CoreId) (f : Flight) (s : State),
    let d := f.q.desc
    let ra := d.opA.ranges k d.rows d.kBlocks
    let rb := d.opB.ranges k d.cols d.kBlocks
    let got := s.readRanges k.slot.val (ra ++ rb) (s.flightCause k f)
    let a := (d.opA.blocks (got.2.1.take ra.length) d.rows d.kBlocks).1
    let b := (d.opB.blocks (got.2.1.drop ra.length) d.cols d.kBlocks).1
    s.matNext k 0x20 = some f → d.epi = false → f.denied = false → s.firstBlocked (.furrow k f.q.serial) (ra ++ rb) = none → got.1 = rOK →
    d.row0 + d.rows ≤ 256 →
    Completes (.mmul k) s (fun t =>
      (∀ i j, i < d.rows → j < d.cols →
        let results := ((a.getD i []).zip (b.getD j [])).map (fun p => (blockResult d.fmtA d.fmtB p.1 p.2).1)
        let start := if d.acc then (s.slot k).tileGet d.tile (d.row0 + i) j else 0
        ∃ order flags, (t.slot k).tileGet d.tile (d.row0 + i) j = (sumTerms (results.length + 1) order (start :: results) flags).1 % 2 ^ 40) ∧
      (∀ tile row col, row < 256 → col < 64 → (tile ≠ d.tile ∨ row < d.row0 ∨ d.row0 + d.rows ≤ row ∨ d.cols ≤ col) →
        (t.slot k).tileGet tile row col = (s.slot k).tileGet tile row col) ∧
      (∃ g ∈ (t.slot k).matPipe, g.seq = f.seq ∧ g.done = true ∧ g.status = 0) ∧ SameOthers k s t ∧ SameMemory s t)

/-- MOUT (R80, R114, R115): it changes no tile and, of memory, its output rows alone; each of its rows of FP32 or BF16, rounded to nearest with scalar parameters, holds the
clipped value of each entry, where no line is in error and no two rows share a line. What clipping does with a zero or an infinity that R80 does not settle is the model's
choice (log 127). -/
def Obligations.MoutWritesTheEpiloguesRows : Prop :=
  ∀ (k : CoreId) (f : Flight) (s : State),
    let d := f.q.desc
    let g := d.epiGroup
    let m := d.rows
    let n := d.cols
    let one : FVal := .fin false 1 0
    let out := rowSpan k g.oBase m g.oStride (g.rowBytes n)
    let scales := rowSpan k g.oSBase m g.oSStride (n / 32)
    let fmt := if g.target = 0 then fmtFP32 else fmtBF16
    let w := fmt.width / 8
    let value := fun i j => (Epi.entry (fmtFP32.decode g.lo) (fmtFP32.decode g.hi) ((s.slot k).tileGet d.tile (d.row0 + i) j)
      (Epi.c2 one one (fmtFP32.decode g.c)) (fmtFP32.decode g.d)).1
    s.matNext k 0x21 = some f → f.denied = false → s.firstBlocked (.furrow k f.q.serial) (g.vecRanges k) = none → (s.readRanges k.slot.val (g.vecRanges k) (s.flightCause k f)).1 = rOK →
    s.plotOpen k.plot.val = true → ownPlot k out = true → (2 ≤ g.target → ownPlot k scales = true) →
    Completes (.mout k) s (fun t =>
      (t.slot k).tiles = (s.slot k).tiles ∧ SameOthers k s t ∧ (∃ g ∈ (t.slot k).matPipe, g.seq = f.seq ∧ g.done = true ∧ g.status = 0) ∧
      (∀ a, (a < out.1 ∨ out.1 + out.2 ≤ a) → (g.target < 2 ∨ a < scales.1 ∨ scales.1 + scales.2 ≤ a) → t.byte a = s.byte a) ∧
      (g.target < 2 → g.mode = 0 → g.cVec = false → g.dVec = false → (∀ x, s.mx.granBad.get [] x = []) → (m = 1 ∨ g.rowBytes n ≤ g.oStride * 64) →
        ∀ r j i, r < m → j < n → i < w →
          t.byte (out.1 + r * g.oStride * 64 + w * j + i) = BitVec.ofNat 8 ((fmt.round 0 0 (value r j)).1 / 2 ^ (8 * i))))

/-- The oldest matrix command past dequeue completes once its work is done (R108): it leaves the engine, its flags enter EXC_SUMMARY.STICKY (R94), its furrow waits for
one command fewer (R165), and its completion record stands in the ring's next slot (R201, R202). -/
def Obligations.MatrixCommandsCompleteInOrder : Prop :=
  ∀ (k : CoreId) (f : Flight) (rest : List Flight) (u : Furrow) (s : State), (s.slot k).matPipe = f :: rest → f.done = true → s.furrow? k f.q.serial = some u →
    u.ringHeld = [] → f.q.desc.sigScope = 0 →
    let size := s.rd (slotB k) F.CMP_RING_SIZE_LOG2
    let at' := lineAddr k.plot.val (s.rd (slotB k) F.CMP_RING_BASE) + 32 * ((s.slot k).ringTaken % 2 ^ size)
    Completes (.matrixComplete k) s (fun t =>
      (t.slot k).matPipe = rest ∧ t.rd (slotB k) F.EXC_SUMMARY_STICKY = (s.rd (slotB k) F.EXC_SUMMARY_STICKY ||| f.exc.toNat) % 256 ∧
      (∃ v, t.furrow? k f.q.serial = some v ∧ v.cmds = u.cmds - 1) ∧ SameOthers k s t ∧
      (size = 0 → SameMemory s t) ∧
      (size ≠ 0 → s.plotOpen k.plot.val = true → at' + 32 ≤ lineAddr k.plot.val 0x20_0000 → s.mx.granBad.get [] (at' / 64) = [] →
        (∀ i, i < 32 → t.byte (at' + i) = ((cmpWords s k 0 f).flatMap wordBytes).getD i 0) ∧ (∀ a, (a < at' ∨ at' + 32 ≤ a) → t.byte a = s.byte a) ∧
        (t.slot k).ringTaken = (s.slot k).ringTaken + 1))

/-! ### The vector engine (chapter 5) -/

/-- The register instructions on INT32 lanes (R127, R135): the active lanes of vd take the result modulo 2^32, signed where an order or a magnitude matters. -/
def Obligations.VectorIntegerLanes : Prop :=
  ∀ (k : CoreId) (f : VRForm) (r : VRun) (s : State), s.running k r → f.fmt = 3 → f.vc = 0 → f.rm = 0 →
    let a := fun i => BitVec.ofNat 32 ((s.slot k).vget f.va.toNat i)
    let b := fun i => BitVec.ofNat 32 ((s.slot k).vget f.vb.toNat i)
    let n := f.imm.toNat % 32
    let gives := fun (c : Instr) (v : Nat → BitVec 32) =>
      Completes c s (fun t => LanesTake k f.vd.toNat f.msk.toNat (f.mz = 1) (fun i => (v i).toNat) s t ∧ VecIssued k r s t)
    (f.sub = 0 → f.imm = 0 →
      gives (.vadd k f) (fun i => a i + b i) ∧ gives (.vsub k f) (fun i => a i - b i) ∧ gives (.vmul k f) (fun i => a i * b i) ∧
      gives (.vmin k f) (fun i => if (b i).toInt < (a i).toInt then b i else a i) ∧ gives (.vmax k f) (fun i => if (a i).toInt < (b i).toInt then b i else a i) ∧
      gives (.vand k f) (fun i => a i &&& b i) ∧ gives (.vor k f) (fun i => a i ||| b i) ∧ gives (.vxor k f) (fun i => a i ^^^ b i)) ∧
    (f.vb = 0 → f.sub = 0 → f.imm = 0 →
      gives (.vabs k f) (fun i => if (a i).toInt < 0 then -(a i) else a i) ∧ gives (.vneg k f) (fun i => -(a i)) ∧ gives (.vmov k f) a) ∧
    (f.vb = 0 → f.sub = 0 → gives (.vshl k f) (fun i => a i <<< n)) ∧
    (f.vb = 0 → f.sub.toNat < 2 → gives (.vshr k f) (fun i => if f.sub = 1 then (a i).sshiftRight n else a i >>> n)) ∧
    (f.va = 0 → f.vb = 0 → f.sub = 0 → gives (.vspli k f) (fun _ => f.imm.signExtend 32)) ∧
    (f.va = 0 → f.vb = 0 → f.sub = 0 → f.imm = 0 → gives (.viota k f) (fun i => BitVec.ofNat 32 i))

/-- The register instructions on FP32, BF16 and FP16 lanes (R89 to R91, R135, R136, R144): the exact result rounded once, the canonical NaN where an operand is a NaN, the
sign operations on the bits; an approximation delivers the special values of Table 5-7. -/
def Obligations.VectorFloatingLanes : Prop :=
  ∀ (k : CoreId) (f : VRForm) (r : VRun) (s : State), s.running k r → f.fmt.toNat < 3 → f.imm = 0 →
    (f.rm = 0 ∨ (f.rm.toNat < 5 ∧ r.strict = true)) →
    let F := vFmt f.fmt.toNat
    let m := f.rm.toNat
    let val := fun (reg : BitVec 5) (i : Nat) => F.read r.strict ((s.slot k).vget reg.toNat i)
    let A := val f.va
    let B := val f.vb
    let C := val f.vc
    let rounded := fun (v : FVal) => F.flush r.strict (F.round m 0 v).1
    let gives := fun (c : Instr) (v : Nat → Nat) =>
      Completes c s (fun t => LanesTake k f.vd.toNat f.msk.toNat (f.mz = 1) v s t ∧ VecIssued k r s t)
    let fma := fun (c : Instr) (p q : FVal → FVal) => gives c (fun i =>
      if (A i).isNan || (B i).isNan || (C i).isNan then F.qnan else rounded (FVal.add (m = 3) (FVal.mul (p (A i)) (B i)).1 (q (C i))).1)
    (f.sub = 0 → fma (.vfma k f) id id ∧ fma (.vfms k f) id FVal.negate ∧ fma (.vfnma k f) FVal.negate id) ∧
    (f.vc = 0 → f.sub = 0 →
      let two := fun (c : Instr) (op : FVal → FVal → FVal) => gives c (fun i => if (A i).isNan || (B i).isNan then F.qnan else rounded (op (A i) (B i)))
      two (.vadd k f) (fun x y => (FVal.add (m = 3) x y).1) ∧ two (.vsub k f) (fun x y => (FVal.add (m = 3) x y.negate).1) ∧
      two (.vmul k f) (fun x y => (FVal.mul x y).1) ∧ two (.vdiv k f) (fun x y => (FVal.div x y).1) ∧
      (m = 0 → two (.vmin k f) FVal.minimum ∧ two (.vmax k f) FVal.maximum)) ∧
    (f.vc = 0 → f.vb = 0 → f.sub = 0 →
      let bits16 := fun i => vCut f.fmt.toNat ((s.slot k).vget f.va.toNat i)
      let top := 2 ^ (8 * vBytes f.fmt.toNat - 1)
      let approx := fun (c : Instr) (op : Approx) => gives c (fun i => (vApprox op f.fmt.toNat r.strict ((s.slot k).vget f.va.toNat i)).1)
      gives (.vsqrt k f) (fun i => if (A i).isNan then F.qnan else rounded (FVal.sqrt (A i)).1) ∧
      (m = 0 → gives (.vmov k f) bits16 ∧ gives (.vabs k f) (fun i => bits16 i % top) ∧ gives (.vneg k f) (fun i => bits16 i ^^^ top) ∧
        approx (.vrcp k f) .rcp ∧ approx (.vrsq k f) .rsq ∧ approx (.vexp2 k f) .exp2 ∧ approx (.vlog2 k f) .log2 ∧ approx (.vexp k f) .exp ∧
        approx (.vtanh k f) .tanh ∧ approx (.verf k f) .erf)) ∧
    (f.vc = 0 → f.vb = 0 → f.sub.toNat < 3 →
      gives (.vcvt k f) (fun i => F.flush r.strict (F.round m 0 ((vFmt f.sub.toNat).read r.strict ((s.slot k).vget f.va.toNat i))).1))

/-- The special values of the approximations (Table 5-7): a NaN gives the canonical NaN, and where the table names a result for the operand it is that one, rounded.
Elsewhere, and inside the format's range, what strict mode delivers lies within the bound of the table: one unit in the last place for VRCP and VRSQ, two for the exponentials and VLOG2,
three for VTANH and VERF, and one for every approximation in BF16 and FP16. -/
def Obligations.ApproximationsMeetTheirSpecialValuesAndBounds : Prop :=
  ∀ (op : Approx) (fmt x : Nat) (strict : Bool), fmt < 3 →
    let F := vFmt fmt
    let v := F.read strict x
    (v.isNan = true → vApprox op fmt strict x = (F.qnan, if F.snan (vCut fmt x) then xINVALID else 0)) ∧
    (v.isNan = false → ∀ y e, op.special v = some (y, e) → vApprox op fmt strict x = ((F.round 0 0 y).1, e)) ∧
    (∀ z, v = .fin z 0 (F.emin - (F.p - 1)) → (vApprox .rcp fmt strict x).1 = (if z then F.signBit else 0) + F.infBits ∧ (vApprox .rcp fmt strict x).2 = xDIVZERO) ∧
    (strict = true → op.special v = none → ∀ z m e, v = .fin z m e → (op.exact z m e).log2 ≤ F.emax →
      F.within (if fmt ≠ 0 then 1 else match op with | .rcp => 1 | .rsq => 1 | .exp2 => 2 | .log2 => 2 | .exp => 2 | .tanh => 3 | .erf => 3)
        (op.exact z m e) (vApprox op fmt strict x).1 = true) ∧
    (vApprox op fmt strict x).1 < 2 ^ F.width

/-- Mask instructions (R127, R135, R142): the active bits of a mask register take the comparison, the logical function or the rank; MCNT counts the bits of a mask. -/
def Obligations.VectorMasks : Prop :=
  ∀ (k : CoreId) (f : VRForm) (r : VRun) (s : State), s.running k r → f.vc = 0 → f.rm = 0 →
    let x := s.slot k
    let L := s.lanes k
    let gives := fun (c : Instr) (v : Nat → Bool) =>
      Completes c s (fun t => BitsTake k f.vd.toNat f.msk.toNat (f.mz = 1) v s t ∧ VecIssued k r s t)
    let bit := fun (m : BitVec 5) (i : Nat) => (x.mget m.toNat).getLsbD i
    let pred := fun (eq lt : Bool) => if f.sub = 0 then eq else if f.sub = 1 then !eq else if f.sub = 2 then lt else if f.sub = 3 then lt || eq
      else if f.sub = 4 then !(lt || eq) else if f.sub = 5 then !lt else decide (f.sub = 7)
    (0 < f.vd.toNat → f.vd.toNat < 8 →
      (f.imm = 0 → f.fmt = 3 → gives (.vcmp k f) (fun i =>
        let a := (BitVec.ofNat 32 (x.vget f.va.toNat i)).toInt
        let b := (BitVec.ofNat 32 (x.vget f.vb.toNat i)).toInt
        pred (a = b) (a < b))) ∧
      (f.imm = 0 → f.fmt.toNat < 3 → gives (.vcmp k f) (fun i =>
        let a := (vFmt f.fmt.toNat).read r.strict (x.vget f.va.toNat i)
        let b := (vFmt f.fmt.toNat).read r.strict (x.vget f.vb.toNat i)
        if a.isNan || b.isNan then decide (f.sub = 1) || decide (f.sub = 6) else pred (a.eq b) (a.lt b))) ∧
      (f.fmt = 0 → f.sub = 0 →
        (f.imm = 0 → f.va.toNat < 8 → f.vb.toNat < 8 →
          gives (.mand k f) (fun i => bit f.va i && bit f.vb i) ∧ gives (.mor k f) (fun i => bit f.va i || bit f.vb i) ∧
          gives (.mxor k f) (fun i => bit f.va i != bit f.vb i)) ∧
        (f.imm = 0 → f.va.toNat < 8 → f.vb = 0 → gives (.mnot k f) (fun i => !bit f.va i)) ∧
        (f.va = 0 → f.vb = 0 → f.imm.toNat ≤ L → gives (.mfirst k f) (fun i => decide (i < f.imm.toNat))))) ∧
    (f.fmt = 0 → f.sub = 0 → f.imm = 0 → f.vb = 0 → f.msk = 0 → f.mz = 0 → f.va.toNat < 8 → f.vd.toNat < 4 → Completes (.mcnt k f) s (fun t =>
      (t.slot k).vrun.map (fun q => q.count f.vd.toNat) = some ((List.range L).filter (bit f.va)).length ∧ (t.slot k).mregs = x.mregs ∧
      (t.slot k).vregs = x.vregs ∧ VecIssued k r s t))

/-- Movements and reductions (R140, R141): VWIN packs the active lanes downwards and zeros the rest, VRES spreads them again, VBCL copies one lane, and a reduction
combines the active lanes along its tree into every active lane. -/
def Obligations.VectorMovesAndReductions : Prop :=
  ∀ (k : CoreId) (f : VRForm) (r : VRun) (s : State), s.running k r → f.vb = 0 → f.vc = 0 → f.rm = 0 → f.sub = 0 →
    let x := s.slot k
    let L := s.lanes k
    let t := f.fmt.toNat
    let act := (List.range L).filter (fun i => (x.mget f.msk.toNat).getLsbD i)
    let el := fun i => x.vget f.va.toNat i % 2 ^ (8 * vBytes t)
    let gives := fun (c : Instr) (v : Nat → Nat) =>
      Completes c s (fun t => LanesTake k f.vd.toNat f.msk.toNat (f.mz = 1) v s t ∧ VecIssued k r s t)
    let reduced := fun (op : Reduce) => (vReduce op t r.strict ((List.range L).map (fun i => if i ∈ act then some (x.vget f.va.toNat i) else none))).1
    (f.imm = 0 →
      Completes (.vwin k f) s (fun u => (∀ i, i < L → (u.slot k).vget f.vd.toNat i = (act[i]?.map el).getD 0) ∧ SameVectors k f.vd.toNat s u ∧ VecIssued k r s u) ∧
      gives (.vres k f) (fun i => el (act.filter (· < i)).length) ∧
      gives (.vrsum k f) (fun _ => reduced .sum) ∧ gives (.vrmax k f) (fun _ => reduced .max) ∧ gives (.vrmin k f) (fun _ => reduced .min)) ∧
    (f.imm.toNat < L → gives (.vbcl k f) (fun _ => el f.imm.toNat))

/-- The memory instructions (R135, R137, R138, R143): in order of the active lanes, aligned, inside the own plot and held by nobody, a load fills lanes or mask bits from
memory and a store writes theirs; the address register steps with INC. -/
def Obligations.VectorMemory : Prop :=
  ∀ (k : CoreId) (f : VMForm) (r : VRun) (s : State), s.running k r → f.rsv = 0 → f.rm = 0 → r.f.denied = false → r.f.status = 0 →
    s.mx.extents = [] → s.mx.hostExtents = [] → s.mx.granBad = [] → s.plotOpen k.plot.val = true →
    let x := s.slot k
    let L := s.lanes k
    let e := vBytes f.fmt.toNat
    let a := (BitVec.ofNat 48 (r.addr f.ab.toNat) + f.off.signExtend 48).toNat
    let act := (List.range L).filter (fun i => (x.mget f.msk.toNat).getLsbD i)
    let at' := fun n => ofBytes (s.bytes n e)
    let rank := fun i => (act.filter (· < i)).length
    let own := fun lo hi => lineAddr k.plot.val 0 ≤ lo ∧ hi ≤ lineAddr k.plot.val 0x20_0000
    let stepped := fun (by' : Nat) (t : State) => (t.slot k).vrun.map (fun q => q.addr f.ab.toNat) = some (if f.inc = 1 then (r.addr f.ab.toNat + by') % 2 ^ 48 else r.addr f.ab.toNat)
    let loads := fun (c : Instr) (by' : Nat) (v : Nat → Nat) =>
      Completes c s (fun t => LanesTake k f.vd.toNat f.msk.toNat (f.mz = 1) v s t ∧ stepped by' t ∧ VecIssued k r s t)
    let stores := fun (c : Instr) (by' : Nat) (place : Nat → Option (Nat × Nat)) =>
      Completes c s (fun t => (∀ b, t.byte b = match place b with
        | some (i, j) => BitVec.ofNat 8 (x.vget f.vd.toNat i / 2 ^ (8 * j))
        | none => s.byte b) ∧ (t.slot k).vregs = x.vregs ∧ stepped by' t ∧ (t.slot k).vrun.map (·.pc) = some (r.pc + 8) ∧ SameOthers k s t)
    (f.sab = 0 → f.sub = 0 → own a (a + e * L) →
      (a % 64 = 0 → loads (.vld k f) (L * e) (fun i => at' (a + e * i)) ∧
        (f.mz = 0 → stores (.vst k f) (L * e) (fun b => if a ≤ b ∧ (b - a) / e ∈ act then some ((b - a) / e, (b - a) % e) else none))) ∧
      (a % e = 0 → loads (.vldb k f) e (fun _ => at' a) ∧ loads (.vldr k f) (e * act.length) (fun i => at' (a + e * rank i)) ∧
        (f.mz = 0 → stores (.vstw k f) (e * act.length) (fun b =>
          if a ≤ b ∧ (b - a) / e < act.length then some (act.getD ((b - a) / e) 0, (b - a) % e) else none)))) ∧
    (f.sab = 0 → f.sub = 0 → f.fmt = 0 → f.msk = 0 → f.mz = 0 → a % 64 = 0 → own a (a + L / 8) →
      (0 < f.vd.toNat → f.vd.toNat < 8 → Completes (.vldm k f) s (fun t =>
        (∀ i, i < L → ((t.slot k).mget f.vd.toNat).getLsbD i = (s.byte (a + i / 8)).getLsbD (i % 8)) ∧ stepped (L / 8) t ∧ VecIssued k r s t)) ∧
      (f.vd.toNat < 8 → Completes (.vstm k f) s (fun t =>
        (∀ b, t.byte b = if a ≤ b ∧ b < a + L / 8 then BitVec.ofNat 8 ((x.mget f.vd.toNat).toNat / 2 ^ (8 * (b - a))) else s.byte b) ∧
        stepped (L / 8) t ∧ SameOthers k s t))) ∧
    (f.fmt = 0 → a % 64 = 0 → own a (a + L) → own (r.addr f.sab.toNat) (r.addr f.sab.toNat + L / 32) →
      let sc := r.addr f.sab.toNat
      (f.sub = 0 → Completes (.vldq k f) s (fun t =>
        LanesTake k f.vd.toNat f.msk.toNat (f.mz = 1) (fun i =>
          let v := blockVal (s.byte (sc + i / 32)).toNat (elemAt 0 [s.byte (a + i)] 0) (elemExp 0)
          if v.isNan then fmtFP32.qnan else fmtFP32.flush r.strict (fmtFP32.round 0 0 v).1) s t ∧ VecIssued k r s t)) ∧
      (f.sub.toNat % 4 = 0 → f.mz = 0 → Completes (.vstq k f) s (fun t =>
        (∀ b, ¬(a ≤ b ∧ b < a + L) → ¬(sc ≤ b ∧ b < sc + L / 32) → t.byte b = s.byte b) ∧ (t.slot k).vregs = x.vregs ∧
        (t.slot k).vrun.map (·.pc) = some (r.pc + 8) ∧ SameOthers k s t)))

/-- VEXEC starts its microprogram at its entry with its address and count registers (R128); VSETC, VADDA and VBNZ act on them (R135); VEND frees the engine, and the
command completes later, in order (R130). -/
def Obligations.MicroprogramControl : Prop :=
  ∀ (k : CoreId) (f : VCForm) (r : VRun) (s : State),
    let d := r.f.q.desc
    let run := fun (t : State) (p : VRun → Prop) => (∃ q, (t.slot k).vrun = some q ∧ p q) ∧ SameOthers k s t ∧ SameMemory s t
    ((s.slot k).vrun = some r → r.started = false → Completes (.vexec k) s (fun t => run t (fun q =>
      q.started = true ∧ q.pc = fld d.w2 0 14 ∧ q.bank = r.f.q.bank ∧ q.strict = (fld d.w2 16 1 = 1 : Bool) ∧ q.addr 0 = fld d.w4 0 48 ∧ q.addr 1 = fld d.w5 0 48 ∧
      q.addr 2 = fld d.w6 0 48 ∧ q.addr 3 = fld d.w7 0 48 ∧ (∀ i, 4 ≤ i → q.addr i = 0) ∧ q.count 0 = fld d.w3 0 32 ∧ (∀ i, 0 < i → q.count i = 0)))) ∧
    (s.running k r → f.rsv = 0 →
      (f.aj = 0 → Completes (.vsetc k f) s (fun t => run t (fun q =>
        q.count f.ci.toNat = f.imm.toNat ∧ (∀ i, i ≠ f.ci.toNat → q.count i = r.count i) ∧ q.pc = r.pc + 8))) ∧
      (f.ci = 0 → Completes (.vadda k f) s (fun t => run t (fun q =>
        q.addr f.aj.toNat = (BitVec.ofNat 48 (r.addr f.aj.toNat) + f.imm.signExtend 48).toNat ∧ (∀ i, i ≠ f.aj.toNat → q.addr i = r.addr i) ∧ q.pc = r.pc + 8))) ∧
      (f.aj = 0 → (let n := (r.pc : Int) + 8 * f.imm.toInt; 0 ≤ n ∧ n < 16384) → Completes (.vbnz k f) s (fun t => run t (fun q =>
        q.count f.ci.toNat = r.count f.ci.toNat - 1 ∧ q.pc = (if 1 < r.count f.ci.toNat then ((r.pc : Int) + 8 * f.imm.toInt).toNat else r.pc + 8)))) ∧
      (f.ci = 0 → f.aj = 0 → f.imm = 0 → Completes (.vend k f) s (fun t =>
        (t.slot k).vrun = none ∧ (t.slot k).vtail = (s.slot k).vtail ++ [r] ∧ SameOthers k s t ∧ SameMemory s t))) ∧
    (∀ rest, (s.slot k).vtail = r :: rest → d.sigScope = 0 → s.rd (slotB k) F.CMP_RING_SIZE_LOG2 = 0 → Completes (.vexecComplete k) s (fun t =>
      (t.slot k).vtail = rest ∧ t.rd (slotB k) F.EXC_SUMMARY_STICKY = (s.rd (slotB k) F.EXC_SUMMARY_STICKY ||| r.f.exc.toNat) % 256 ∧
      SameOthers k s t ∧ SameMemory s t))

/-! ### The data mover and the Windrow (chapters 7 and 8) -/

/-- DCOPY and DFILL on this module (R186, R192): the rows of the destination take the bytes of the source's rows, or the pattern, in the order of the rows, and no other
byte changes. DSIG has nothing to move, DCLOSE leaves its close marker with the cluster it names (R200), and DPOST puts the descriptor it reads behind those of its unit (R228). -/
def Obligations.DataMoverCommands : Prop :=
  ∀ (k : CoreId) (f : Flight) (s : State), s.mx.extents = [] → s.mx.hostExtents = [] → s.mx.granBad = [] → s.mx.barnBad = [] → s.mx.granInj = [] →
    s.mx.barnInj = none → (∀ p, s.plotOpen p = true) →
    let d := f.q.desc
    let rs := natRuns d.dstRuns
    let put := fun (data : List Byte) => (rs.foldl (fun (acc : SMap Byte × List Byte) r => (memPuts acc.1 r.1 (acc.2.take r.2), acc.2.drop r.2)) (s.mem, data)).1
    let done := fun (t : State) => ∃ g ∈ (t.slot k).dmPipe, g.seq = f.seq ∧ g.done = true ∧ g.status = 0
    let here := s.remoteDst d = false ∧ s.posted d = false ∧ (∀ r ∈ rs, inMemory r.1 = true) ∧ inMemory d.dst = true ∧
      (∃ t, s.physOf (s.ownerOf k d) = some t ∧ (s.slot t).accepts d.epoch = true)
    (s.dmWaiting k 0x10 = f :: (s.dmWaiting k 0x10).tail → f.denied = false → here → s.remoteSrc d = false → inMemory d.src = true →
      (∀ r ∈ natRuns d.srcRuns, inMemory r.1 = true) → Completes (.dcopy k) s (fun t =>
        t.mem = put ((natRuns d.srcRuns).flatMap (fun r => s.bytes r.1 r.2)) ∧ done t ∧ SameOthers k s t)) ∧
    (s.dmWaiting k 0x11 = f :: (s.dmWaiting k 0x11).tail → here → Completes (.dfill k) s (fun t =>
        t.mem = put ((List.replicate (d.total / 8) (bytesOf 8 d.w6.toNat)).flatten) ∧ done t ∧ SameOthers k s t)) ∧
    (s.dmWaiting k 0x12 = f :: (s.dmWaiting k 0x12).tail → s.remoteDst d = false → Completes (.dsig k) s (fun t => done t ∧ SameOthers k s t ∧ SameMemory s t)) ∧
    (∀ c, s.dmWaiting k 0x13 = f :: (s.dmWaiting k 0x13).tail → s.remoteDst d = false → s.physOf d.dstCluster = some c → s.slotOpen c = true →
      (s.slot c).accepts d.epoch = true → Completes (.dclose k) s (fun t =>
        (t.slot c).heldClose = (s.slot c).heldClose ++ [{ owner := .furrow k f.q.serial, close := fld d.w4 0 8, epoch := d.epoch }] ∧ done t ∧ SameMemory s t)) ∧
    (s.dmWaiting k 0x14 = f :: (s.dmWaiting k 0x14).tail → f.denied = false → d.unit < 8 → (s.bin ⟨k.plot, Fin.ofNat 8 d.unit⟩).queue.length < 16 →
      Completes (.dpost k) s (fun t => done t ∧ SameMemory s t ∧ ∃ p : Posted, (t.bin ⟨k.plot, Fin.ofNat 8 d.unit⟩).queue = (s.bin ⟨k.plot, Fin.ofNat 8 d.unit⟩).queue ++ [p] ∧
        p.desc = descOf (s.bytes (lineAddr k.plot.val d.postLine) 64) ∧ p.poster = k ∧ p.serial = f.q.serial ∧ p.pc = f.q.pc ∧ p.eligible = false ∧ p.taken = false))

/-- A data-mover command completes in its order (R192) and makes its signal (R194): scope 0b01 adds to a token at once, scope 0b10 is held in the own cluster, scope
0b11 in the one it names, until the furrow commits; scope 0b00 makes none. -/
def Obligations.CompletionMakesTheSignal : Prop :=
  ∀ (k : CoreId) (f : Flight) (rest : List Flight) (s : State), s.slotLive k = true → (s.slot k).dmPipe = f :: rest → f.done = true → f.status = 0 → f.mute = false →
    s.rd (slotB k) F.CMP_RING_SIZE_LOG2 = 0 →
    let d := f.q.desc
    let left := fun (t : State) => (t.slot k).dmPipe = rest ∧ SameOthers k s t ∧ SameMemory s t
    (d.sigScope = 0 → Completes (.dmCommandComplete k) s (fun t => left t ∧ (t.slot k).tok = (s.slot k).tok ∧ (t.slot k).held = (s.slot k).held)) ∧
    (d.sigScope = 1 → s.tok k d.sigTok + d.sigCount ≤ 0xFFFF → Completes (.dmCommandComplete k) s (fun t => left t ∧
      t.tok k d.sigTok = s.tok k d.sigTok + d.sigCount ∧ (∀ j, j ≠ d.sigTok → t.tok k j = s.tok k j) ∧ (t.slot k).held = (s.slot k).held)) ∧
    (d.sigScope = 2 → (s.slot k).accepts d.epoch = true → (s.slot k).held.length < 128 → (∀ h ∈ (s.slot k).held, h.owner = .furrow k f.q.serial → h.tok ≠ d.sigTok) →
      Completes (.dmCommandComplete k) s (fun t => left t ∧ (t.slot k).tok = (s.slot k).tok ∧
        ∃ h : Held, (t.slot k).held = (s.slot k).held ++ [h] ∧ h.owner = .furrow k f.q.serial ∧ h.tok = d.sigTok ∧ h.count = d.sigCount ∧ h.epoch = d.epoch ∧
          h.ready = false)) ∧
    (∀ c, d.sigScope = 3 → s.physOf d.sigCluster = some c → s.slotOpen c = true → (s.slot c).accepts d.epoch = true → (s.slot c).held.length < 128 →
      (∀ h ∈ (s.slot c).held, h.owner = .furrow k f.q.serial → h.tok ≠ d.sigTok) → Completes (.dmCommandComplete k) s (fun t =>
        (t.slot k).dmPipe = rest ∧ SameMemory s t ∧ ∃ h : Held, (t.slot c).held = (s.slot c).held ++ [h] ∧ h.owner = .furrow k f.q.serial ∧ h.tok = d.sigTok ∧
          h.count = d.sigCount ∧ h.epoch = d.epoch ∧ h.ready = false))

/-- WPUSH and WPOP (R219, R220): a push puts a header line and the rows above the working top of its stack, a pop brings the top frame's rows back and lowers the working
top; the committed top waits for the commit (R221). -/
def Obligations.WindrowPushAndPop : Prop :=
  ∀ (k : CoreId) (f : Flight) (s : State), s.mx.extents = [] → s.mx.hostExtents = [] → s.mx.granBad = [] → (∀ p, s.plotOpen p = true) → f.denied = false →
    let d := f.q.desc
    let i := d.wStack
    let x := (s.slot k).stack i
    let line := fun depth => s.ringAddr k i depth
    let rows := windrowRows k d
    let done := fun (t : State) => ∃ g ∈ (t.slot k).dmPipe, g.seq = f.seq ∧ g.done = true ∧ g.status = 0
    (∀ r ∈ rows, inMemory r.1 = true ∧ r.1 < 0x0001_0000_0000) → d.wRowLines ≠ 0 →
    (s.windrowNext k 0x16 = some f → s.windrowFault k d f.q.serial true = 0 → x.resident + d.wData + 1 ≤ s.ringLines k i → Completes (.wpush k) s (fun t =>
      (t.slot k).stack i = { x with user := some f.q.serial, wtop := x.wtop + d.wData + 1, wframes := (d.wData + 1) :: x.wframes } ∧ done t ∧ SameOthers k s t ∧
      t.bytes (line x.wtop) 64 = frameHeader s d ∧
      (∀ j, j < d.wData → t.bytes (line (x.wtop + 1 + j)) 64 = s.bytes ((rows.getD (j / d.wRowLines) (0, 0)).1 + 64 * (j % d.wRowLines)) 64))) ∧
    (s.windrowNext k 0x17 = some f → s.windrowFault k d f.q.serial false = 0 → x.wframes = (d.wData + 1) :: x.wframes.tail →
      d.wData + 1 ≤ x.wtop → x.spilled ≤ x.wtop - (d.wData + 1) →
      (let h := s.bytes (line (x.wtop - (d.wData + 1))) 64; num h 4 4 = d.wData ∧ num h 0 2 = d.layer) →
      rows.Pairwise (fun a b => overlap a.1 a.2 b.1 b.2 = false) → Completes (.wpop k) s (fun t =>
      (t.slot k).stack i = { x with user := some f.q.serial, wtop := x.wtop - (d.wData + 1), wframes := x.wframes.tail } ∧ done t ∧ SameOthers k s t ∧
      (∀ j, j < d.wData → t.bytes ((rows.getD (j / d.wRowLines) (0, 0)).1 + 64 * (j % d.wRowLines)) 64 = s.bytes (line (x.wtop - d.wData + j)) 64)))

/-- Spill and refill (R224): the oldest committed lines in the ring move to the spill area when the ring is more than three quarters full, the most recently spilled ones
come back when it is less than a quarter full; the tops of the stack do not change. -/
def Obligations.WindrowSpillAndRefill : Prop :=
  ∀ (k : CoreId) (i : Fin 8) (lines : Nat) (s : State), s.mx.granBad = [] → s.mx.barnBad = [] → (∀ p, s.plotOpen p = true) →
    let x := (s.slot k).stack i.val
    let ring := s.ringLines k i.val
    (∀ depth, s.ringAddr k i.val depth + 64 ≤ 0x0001_0000_0000) →
    (∀ depth, depth < s.spillLines k i.val → 0x0080_0000_0000 ≤ s.spillAddr k i.val depth ∧ s.spillAddr k i.val depth + 64 ≤ 0x0100_0000_0000) →
    (4 * x.resident > 3 * ring → x.resident ≤ ring → x.ctop ≤ x.spilled + ring →
      let n := min lines (min (min x.ctop x.wtop - x.spilled) (s.spillLines k i.val - x.spilled))
      Completes (.windrowSpill k i lines) s (fun t =>
        (t.slot k).stack i.val = { x with spilled := x.spilled + n } ∧ SameOthers k s t ∧
        (∀ j, j < n → t.bytes (s.spillAddr k i.val (x.spilled + j)) 64 = s.bytes (s.ringAddr k i.val (x.spilled + j)) 64))) ∧
    (4 * x.resident < ring → x.spilled ≤ s.spillLines k i.val →
      let n := min lines (min x.spilled (ring - x.resident))
      Completes (.windrowRefill k i lines) s (fun t =>
        (t.slot k).stack i.val = { x with spilled := x.spilled - n } ∧ SameOthers k s t ∧
        (∀ j, j < n → t.bytes (s.ringAddr k i.val (x.spilled - 1 - j)) 64 = s.bytes (s.spillAddr k i.val (x.spilled - 1 - j)) 64)))

/-! ### Bin units and the Drill (chapters 8 and 13) -/

/-- A Bin unit takes its next eligible descriptor before vote close (R228): it waits for a verdict that is not there yet, the posting core halts for one that is past (R233),
and a command that passes its checks and fits the journal runs. -/
def Obligations.BinUnitsTakeEligibleDescriptors : Prop :=
  ∀ (b : BinId) (p : Posted) (s : State), s.binLive b = true → s.passPoint = .window → (s.bin b).run = none → (s.bin b).queue.find? nextPosted = some p →
    let pl := b.plot.val
    let r := s.binFurrowOf b p
    let es := binExtents pl p.desc
    let checked := r.2.checks p.poster p.desc (0x40 ≤ p.desc.code && p.desc.code ≤ 0x46) (binBodyOk p.desc && es.all (r.2.unitPlotOk pl)) (r.2.sigFallow p.desc) true
      (es.all (r.2.inPlotPart pl))
    (s.binGate pl p.desc = .wait → Completes (.binDequeue b) s (fun t => t = s)) ∧
    (s.binGate pl p.desc = .late → (s.core p.poster).halted = false → Completes (.binDequeue b) s (fun t =>
      (t.core p.poster).halted = true ∧ (t.core p.poster).halt.reason = 0x08 ∧ (t.core p.poster).halt.source = 3 ∧ (t.core p.poster).halt.addr = p.pc ∧ SameMemory s t)) ∧
    (s.binGate pl p.desc = .ready → checked = .ok → journaled pl p.desc = [] ∨ (∀ f, (r.2.bin b).furrows.find? (fun f => f.serial = r.1) = some f →
        r.2.journalFull b f (if r.2.binSkips pl p.desc then [] else journaled pl p.desc) = false) → Completes (.binDequeue b) s (fun t =>
      (t.bin b).run = some { p := { p with taken := true, bf := some r.1 }, tDeq := s.fieldCount } ∧ (t.bin b).queue.length = (s.bin b).queue.length ∧
      SameMemory s t ∧ t.slots = s.slots))

/-- What the Bin commands write (R230 to R233): each element of x, b, m or v takes its new value, the INT8 array its casts, the result line its fields; the lines written in
place stand in the Bin furrow's journal with their old content. A gated command whose verdict says not finite writes its result line alone. -/
def Obligations.BinCommands : Prop :=
  ∀ (b : BinId) (r : UnitRun) (u : BinFurrow) (s : State), (s.bin b).run = some r → r.denied = false → s.mx.extents = [] → s.mx.hostExtents = [] → s.mx.granBad = [] →
    s.mx.granInj = [] → s.plotOpen b.plot.val = true → s.postedWaits r.p (.bin b (r.p.bf.getD 0)) b.unit.val 2 = false →
    let pl := b.plot.val
    let d := r.p.desc
    let n := d.bN
    let half := d.bMvFmt = 1
    let arr := fun (h : Bool) (line i : Nat) => bLit (bElem h (s.bytes (lineAddr pl line) ((if h then 2 else 4) * n)) i)
    let x := arr false d.bX
    let m := arr half d.bM
    let v := arr half d.bV
    let g := arr (d.bGFmt = 1) d.bG
    let pb := s.bytes (lineAddr pl d.bP) 64
    let stored := fun (t : State) (h : Bool) (line i : Nat) (y : F32) =>
      t.bytes (lineAddr pl line + (if h then 2 else 4) * i) (if h then 2 else 4) = (bStore h y).1
    n % 32 = 0 → (∀ e ∈ binExtents pl d, inPlot pl e = true) → (binExtents pl d).Pairwise (fun e f => overlap e.1 e.2 f.1 f.2 = false) →
    (∀ pos, journaled pl d ≠ [] → inPlot pl (s.journalLine b pos, 64) = true ∧ ∀ e ∈ binExtents pl d, overlap (s.journalLine b pos) 64 e.1 e.2 = false) →
    (s.bin b).furrows.find? (fun f => f.serial = r.p.bf.getD 0) = some u → u.journal = [] →
    let ended := fun (t : State) => (t.bin b).run = none ∧ t.rd (plotB pl) F.BIN_DONE_DONE b.unit.val = (s.rd (plotB pl) F.BIN_DONE_DONE b.unit.val + 1) % 2 ^ F.BIN_DONE_DONE.w
    let kept := fun (t : State) => ∀ l ∈ journaled pl d, ∃ f ∈ (t.bin b).furrows, f.serial = u.serial ∧ (l, s.bytes (lineAddr pl l) 64) ∈ f.journal
    (s.binSkips pl d = false →
      (d.code = 0x40 → Completes (.bzero b) s (fun t => ended t ∧ kept t ∧ ∀ i, i < n → stored t false d.bX i (bLit 0))) ∧
      (d.code = 0x41 → Completes (.bscale b) s (fun t => ended t ∧ kept t ∧ ∀ i, i < n → stored t false d.bX i (bMul (x i) (param pb 0)))) ∧
      (d.code = 0x42 → Completes (.bacc b) s (fun t => ended t ∧ kept t ∧ ∀ i, i < n → stored t false d.bX i (bAdd (x i) (g i)))) ∧
      (d.code = 0x43 → Completes (.bnorm b) s (fun t => ended t ∧
        let q := sumSquares ((List.range n).map (fun i => (x i).1))
        t.bytes (lineAddr pl d.bR) 64 = resultLine d false { exc := q.2, sumsq := q.1 })) ∧
      (d.code = 0x44 → Completes (.bsgdm b) s (fun t => ended t ∧ kept t ∧ ∀ i, i < n →
        stored t false d.bX i (sgdm pb (x i) (m i) (g i)).1 ∧ stored t half d.bM i (sgdm pb (x i) (m i) (g i)).2)) ∧
      (d.code = 0x45 → Completes (.badam b) s (fun t => ended t ∧ kept t ∧ ∀ i, i < n →
        let y := adam pb (x i) (m i) (v i) (g i)
        stored t false d.bX i y.1 ∧ stored t half d.bM i y.2.1 ∧ stored t half d.bV i y.2.2)) ∧
      (d.code = 0x46 → castI d = true → Completes (.bcast b) s (fun t => ended t ∧ ∀ i, i < n →
        t.byte (lineAddr pl d.bI + i) = BitVec.ofInt 8 (int8Cast (x i).1 (num pb 0x28 4)).1))) ∧
    (s.binSkips pl d = true → d.code = 0x45 → Completes (.badam b) s (fun t => ended t ∧ t.bytes (lineAddr pl d.bR) 64 = resultLine d true {} ∧
      t.rd (plotB pl) F.BIN_DONE_SKIPPED b.unit.val = min (s.rd (plotB pl) F.BIN_DONE_SKIPPED b.unit.val + 1) (2 ^ F.BIN_DONE_SKIPPED.w - 1) ∧
      ∀ a, overlap a 1 (lineAddr pl d.bR) 64 = false → t.byte a = s.byte a))

/-- The Drill (R364 to R367): it takes its next descriptor; DWINNOW files selection i, in rising order, at the count of its expert's earlier selections, up to CAP, copies its
row there and writes the counts; DRESOW brings rows back by index, zeros where a selection was not filed. -/
def Obligations.DrillCommands : Prop :=
  ∀ (p : Fin 32) (r : UnitRun) (s : State), s.mx.extents = [] → s.mx.hostExtents = [] → s.mx.granBad = [] → s.mx.granInj = [] → s.plotOpen p.val = true → r.denied = false →
    s.postedWaits r.p (.furrow r.p.poster r.p.serial) 0 3 = false →
    let pl := p.val
    let d := r.p.desc
    let row := 64 * d.dRowLines
    (∀ rest, s.drillLive pl = true → (s.drill pl).run = none → (s.drill pl).queue = r.p :: rest →
      s.checks r.p.poster d (d.code = 0x50 || d.code = 0x51) (drillBodyOk d && (drillExtents pl d).all (s.unitPlotOk pl)) (s.sigFallow d) true
        ((drillExtents pl d).all (s.inPlotPart pl)) = .ok → Completes (.drillDequeue p) s (fun t =>
      (t.drill pl).run = some { p := r.p, tDeq := s.fieldCount } ∧ (t.drill pl).queue = rest ∧ SameMemory s t ∧ t.slots = s.slots)) ∧
    ((s.drill pl).run = some r → d.code = 0x50 → (drillExtents pl d).all (inPlot pl) = true →
      (drillExtents pl d).Pairwise (fun e f => overlap e.1 e.2 f.1 f.2 = false) → d.dCap * row ≤ 64 * d.dStride ∨ d.dExperts = 1 →
      let sel := fun i => num (s.bytes (lineAddr pl d.dSel) (2 * d.dSels)) (2 * i) 2
      let before := fun i => ((List.range i).filter (fun j => sel j = sel i)).length
      Completes (.dwinnow p) s (fun t => (t.drill pl).run = none ∧
        (∀ i, i < d.dSels → ofBytes (t.bytes (lineAddr pl d.dIdx + 4 * i) 4) =
          if d.dExperts ≤ sel i then 0xFFFFFFFF else if before i < d.dCap then sel i + 0x10000 * before i else sel i + 0xFFFF0000) ∧
        (∀ e, e < d.dExperts → ofBytes (t.bytes (lineAddr pl d.dCnt + 2 * e) 2) = min d.dCap ((List.range d.dSels).filter (fun j => sel j = e)).length) ∧
        (∀ i, i < d.dSels → sel i < d.dExperts → before i < d.dCap →
          t.bytes (lineAddr pl d.dOut + 64 * d.dStride * sel i + row * before i) row = s.bytes (lineAddr pl d.dSrc + row * (i / d.dTopk)) row))) ∧
    ((s.drill pl).run = some r → d.code = 0x51 → (drillExtents pl d).all (inPlot pl) = true →
      let idx := fun i => num (s.bytes (lineAddr pl d.dSel) (4 * d.dSels)) (4 * i) 4
      let src := fun i => lineAddr pl d.dSrc + 64 * d.dStride * (idx i % 0x10000) + row * (idx i / 0x10000)
      (∀ i, i < d.dSels → idx i / 0x10000 ≠ 0xFFFF → inPlot pl (src i, row) = true) → Completes (.dresow p) s (fun t => (t.drill pl).run = none ∧
        ∀ i, i < d.dSels → t.bytes (lineAddr pl d.dOut + row * i) row =
          if idx i / 0x10000 = 0xFFFF then List.replicate row 0 else s.bytes (src i) row))


/-! ### Hosts and queues (chapter 14) -/

/-- Enabling and draining a queue pair (R379, R384), and its doorbells (R381). -/
def Obligations.QueuePairsOpenAndDrain : Prop :=
  ∀ (q : Fin 8192) (s : State),
    let p := q.val
    let opened := fun (t : State) => t.qpState p = 1 ∧ t.rd hostB F.QP_STAT_ENABLE p = 1 ∧ t.rd hostB F.QP_STAT_PHASE p = 1 ∧
      (∀ f ∈ [F.QP_IDX_SQ_HEAD, F.QP_IDX_SQ_TAIL, F.QP_IDX_CQ_TAIL, F.QP_IDX_CQ_HEAD], t.rd hostB f p = 0) ∧ t.qp p = {} ∧ SameWork s t
    let stays := fun (st en : Nat) (t : State) => t.qpState p = st ∧ t.rd hostB F.QP_STAT_ENABLE p = en ∧ t.host = s.host ∧ SameWork s t
    (s.qpState p = 0 → s.qpReady p = true → Completes (.qpEnable q) s opened) ∧
    (s.qpState p = 0 → s.qpReady p = false → Completes (.qpEnable q) s (fun t => stays 0 0 t ∧ CountsOne hostB F.QP_STAT_BAD_DB p s t)) ∧
    (s.qpState p = 2 → Completes (.qpEnable q) s (stays 3 1)) ∧
    (s.qpState p ≠ 0 → Completes (.qpDisable q) s (stays 2 0)) ∧
    ((s.qp p).entries = [] → s.completing p = false →
      (s.qpState p = 2 → Completes (.qpDrainComplete q) s (fun t => t.qpState p = 0 ∧ t.host = s.host ∧ SameWork s t)) ∧
      (s.qpState p = 3 → s.qpReady p = true → Completes (.qpDrainComplete q) s opened)) ∧
    (∀ e rest, s.fab.ejected = e :: rest → isHost 3 e = true → e.pkt.hostQp = p →
      let w := num e.pkt.data 16 8
      let owner := s.rd hostB F.QP_OWNER_HOST p
      (e.pkt.hostNo ≠ owner → Completes .doorbell s (fun t => t.fab.ejected = rest ∧ t.host = s.host ∧ CountsOne hostB F.QM_ERRS_DENIED 0 s t ∧
        SameRegisters [fkey hostB F.QM_ERRS_DENIED 0] s t ∧ SameWork s t)) ∧
      (e.pkt.hostNo = owner → s.qpState p ≠ 1 → Completes .doorbell s (fun t => t.fab.ejected = rest ∧ t.host = s.host ∧ CountsOne hostB F.QP_STAT_BAD_DB p s t ∧
        SameRegisters [fkey hostB F.QP_STAT_BAD_DB p] s t ∧ SameWork s t)) ∧
      (e.pkt.hostNo = owner → s.qpState p = 1 → w / 2 ^ 32 % 4 = 1 → w % 2 ^ 16 < s.sqSize p → Completes .doorbell s (fun t =>
        t.fab.ejected = rest ∧ t.rd hostB F.QP_IDX_SQ_TAIL p = w % 2 ^ 16 ∧ t.host = s.host ∧ SameRegisters [fkey hostB F.QP_IDX_SQ_TAIL p] s t ∧ SameWork s t)) ∧
      (e.pkt.hostNo = owner → s.qpState p = 1 → w / 2 ^ 32 % 4 = 2 → w / 2 ^ 16 % 2 ^ 16 < s.cqSize p → Completes .doorbell s (fun t =>
        t.rd hostB F.QP_IDX_CQ_HEAD p = w / 2 ^ 16 % 2 ^ 16 ∧ SameWork s t)))

/-- The entries of a queue pair (R380, R382, R386): a fetch requests the next entries of the ring, a copy requests or sends its next piece of at most 4,032 bytes, a signal
is held for the next boundary, and QNOP only completes. An MREAD or MWRITE without an answer in time ends its entry with QSTATUS TIMEOUT. -/
def Obligations.QueueEntriesRun : Prop :=
  ∀ (q : Fin 8192) (s : State),
    let p := q.val
    let gate := s.rd hostB F.GATE_CFG_GATE_DEVICE
    let es := (s.qp p).entries
    let asked := fun (t : State) (r : HostReq) => t.host.reqs = s.host.reqs ++ [r] ∧ r.tag = s.fab.nextTag ∧
      (∃ x, t.fab.txq = s.fab.txq ++ [x] ∧ x.pkt.dst = gate ∧ x.pkt.kind = 9 ∧ x.pkt.htype = (if r.write then 7 else 6) ∧ x.pkt.tag = r.tag)
    let ended := fun (t : State) (i : Nat) => ∀ x ∈ (t.qp p).entries, x.idx = i → x.done = true
    s.pathUp = true → s.noWay 0 gate false = false → s.fab.peers.any (fun d => d.dev = gate) = true → gate < 0x10000 → s.fab.nextTag < 2 ^ 24 → s.clean →
    es.Pairwise (fun a b => a.idx ≠ b.idx) →
    (let head := s.rd hostB F.QP_IDX_SQ_HEAD p
     let tail := s.rd hostB F.QP_IDX_SQ_TAIL p
     let n := min (min (8 - es.length) (256 - s.entriesInFlight)) (if head ≤ tail then tail - head else s.sqSize p - head)
     ∀ h, s.qpState p = 1 → n ≠ 0 → s.mreads < 64 → s.rd hostB F.QP_SQ_SIZE_LOG2 p ≤ 16 →
      s.translate (s.qpPart p) (64 * s.rd hostB F.QP_SQ_BASE p + 64 * head) (64 * n) false = some h → Completes (.sqEntryFetch q) s (fun t =>
        (∃ r, asked t r ∧ r.write = false ∧ r.host = h.1 ∧ r.haddr = h.2 ∧ r.len = 64 * n ∧ r.use = .fetch p head) ∧
        (t.qp p).entries.map (·.idx) = es.map (·.idx) ++ (List.range n).map (head + ·) ∧ t.rd hostB F.QP_IDX_SQ_HEAD p = (head + n) % s.sqSize p ∧ SameWork s t)) ∧
    (∀ e h, s.nextCopy p 1 = some e → s.mreads < 64 →
      let n := min 4032 (e.desc.sqLen - e.next)
      s.translate (s.qpPart p) (e.desc.sqWin + e.next) n false = some h → Completes (.qcopyIn q) s (fun t =>
        (∃ r, asked t r ∧ r.write = false ∧ r.host = h.1 ∧ r.haddr = h.2 ∧ r.len = n ∧ r.use = .dataIn p e.idx (e.desc.sqLocal + e.next)) ∧
        (∃ x ∈ (t.qp p).entries, x.idx = e.idx ∧ x.started = true ∧ x.next = e.next + n) ∧ SameWork s t)) ∧
    (∀ e h, s.nextCopy p 2 = some e → e.denied = false → inMemory (e.desc.sqLocal + e.next) = true →
      let n := min 4032 (e.desc.sqLen - e.next)
      s.translate (s.qpPart p) (e.desc.sqWin + e.next) n true = some h → Completes (.qcopyOut q) s (fun t =>
        (∃ r, asked t r ∧ r.write = true ∧ r.host = h.1 ∧ r.haddr = h.2 ∧ r.data = s.bytes (e.desc.sqLocal + e.next) n ∧ r.use = .dataOut p e.idx) ∧
        (∃ x ∈ (t.qp p).entries, x.idx = e.idx ∧ x.started = true ∧ x.next = e.next + n) ∧ SameWork s t)) ∧
    (∀ e k, s.headEntry p 3 = some e → s.physOf e.desc.sqCluster = some k → s.slotOpen k = true → (s.slot k).held.length < 128 →
      (∀ h ∈ (s.slot k).held, h.owner ≠ .host e.id) → Completes (.qsignal q) s (fun t => ended t e.idx ∧ SameOthers k s t ∧ SameMemory s t ∧
        ∃ h : Held, (t.slot k).held = (s.slot k).held ++ [h] ∧ h.owner = .host e.id ∧ h.tok = fld e.desc.w4 0 6 ∧ h.count = e.desc.sqCount ∧ h.ready = true ∧
          h.epoch = (s.slot k).cur)) ∧
    (∀ e, s.headEntry p 4 = some e → Completes (.qnop q) s (fun t => ended t e.idx ∧ t.slots = s.slots ∧ SameMemory s t)) ∧
    (∀ (tag : BitVec 24) r e, s.host.reqs.find? (fun r => r.tag = tag.toNat) = some r → r.use = .dataOut p e.idx → e ∈ es → e.done = false →
      r.pass + s.rd hostB F.QM_CFG_HOST_TIMEOUT ≤ s.passIdx → Completes (.hostTimeoutExpiry tag) s (fun t => CountsOne hostB F.QM_ERRS_TIMEOUTS 0 s t ∧
        (∀ x ∈ (t.qp p).entries, x.idx = e.idx → x.done = true ∧ x.qstatus = 3) ∧ t.slots = s.slots ∧ SameMemory s t))

/-- What comes back from the host, and the host path (R374, R376, R387, R388): read data lands where its request says, an acknowledged completion counts, a probe's answer
tells the path, the gate forwards what its adapter sends, and a released posted transfer moves its next piece. -/
def Obligations.HostAnswersAndPath : Prop :=
  ∀ (s : State),
    let gate := s.rd hostB F.GATE_CFG_GATE_DEVICE
    let sends := fun (dst : Nat) => s.noWay 0 dst false = false ∧ s.fab.peers.any (fun d => d.dev = dst) = true ∧ dst < 0x10000
    let sent := fun (t : State) (dst ht : Nat) => ∃ x, t.fab.txq = s.fab.txq ++ [x] ∧ x.pkt.dst = dst ∧ x.pkt.kind = 9 ∧ x.pkt.htype = ht
    (∀ e rest, s.fab.ejected = e :: rest → s.saysDown e.pkt = false → e.pkt.resp = 0 →
      (∀ r q i a x, isHost 9 e = true → r.len ≤ 4032 → s.host.reqs.find? (fun r => r.tag = e.pkt.tag && !r.write) = some r → r.use = .dataIn q i a → e.pkt.hostData.length = r.len →
        (s.qp q).entries.find? (fun e => e.idx = i && !e.done) = some x → s.clean → inMemory a = true → Completes .mrdata s (fun t =>
          (∀ j, j < r.len → t.byte (a + j) = e.pkt.hostData.getD j 0) ∧ (∀ b, (b < a ∨ a + r.len ≤ b) → t.byte b = s.byte b) ∧
          t.rd telB F.WIN_RD_BYTES = (s.rd telB F.WIN_RD_BYTES + r.len) % 2 ^ F.WIN_RD_BYTES.w ∧ t.slots = s.slots)) ∧
      (∀ r q, isHost 0xA e = true → s.host.reqs.find? (fun r => r.tag = e.pkt.tag && r.write) = some r → r.use = .completion q → Completes .mwack s (fun t =>
          t.rd hostB F.QP_STAT_COMPLETED q = (s.rd hostB F.QP_STAT_COMPLETED q + r.len / 16) % 2 ^ 16 ∧
          t.host.reqs = s.host.reqs.filter (fun x => x.tag ≠ r.tag) ∧ SameWork s t))) ∧
    (∀ e rest, s.fab.ejected = e :: rest → isHost 0xB e = true →
      (s.isGate = true → e.pkt.src ≠ s.device → sends e.pkt.src → Completes .probe s (fun t => ∃ x, t.fab.txq = s.fab.txq ++ [x] ∧ x.pkt.dst = e.pkt.src ∧
        x.pkt.htype = 0xB ∧ x.pkt.pathDown = !(s.gatePort.any (fun g => s.pst g = pUP)))) ∧
      (s.isGate = false → e.pkt.pathDown = false → s.host.reqs = [] → s.host.qps = [] → Completes .probe s (fun t => t.pathUp = true ∧ t.host.probeOut = false ∧
        t.fab.ejected = rest ∧ SameWork s t)) ∧
      (s.isGate = false → e.pkt.pathDown = true → s.pathUp = true → Completes .probe s (fun t => t.pathUp = false ∧ t.host.probeOut = false ∧
        CountsOne hostB F.GATE_STAT_PATH_DOWNS 0 s t ∧ t.fab.ejected = rest ∧ SameWork s t))) ∧
    (s.host.probePass + s.rd hostB F.QM_CFG_PROBE_PASSES ≤ s.passIdx → sends gate → Completes .probeTimer s (fun t => sent t gate 0xB ∧ t.host.probeOut = true ∧
      t.host.probePass = s.passIdx ∧ t.pathUp = (s.pathUp && !s.host.probeOut) ∧ SameWork s t)) ∧
    (∀ g r rest, s.gatePort = some g → (s.port g).rxPkts = r :: rest →
      (r.pkt.headerOk = true → r.pkt.kind = 9 → r.pkt.slice = 0 → r.pkt.src = gate → (r.pkt.dst ^^^ gate) >>> s.rd hostB F.GATE_CFG_GROUP_BITS = 0 → r.pkt.hostOk = true →
        sends r.pkt.dst → Completes .hostPacketIngress s (fun t => sent t r.pkt.dst r.pkt.htype ∧ (t.port g).rxPkts = rest ∧ SameWork s t)) ∧
      (r.pkt.kind ≠ 9 → Completes .hostPacketIngress s (fun t => (t.port g).rxPkts = rest ∧ t.fab.txq = s.fab.txq ∧ CountsOne hostB F.QM_ERRS_BAD_PKTS 0 s t ∧ SameWork s t))) ∧
    (∀ x h, s.host.posted.find? (fun x => x.released && decide (x.next < x.q.desc.total)) = some x → s.host.posted.Pairwise (fun a b => a.no ≠ b.no) → x.denied = false →
      s.pathUp = true → sends gate → s.clean →
      let c := piece x.q.desc x.next
      let advanced := fun (t : State) => ∃ y ∈ t.host.posted, y.no = x.no ∧ y.next = x.next + c.2.2
      (x.q.desc.toHost = true → inMemory c.1 = true → s.translate x.part c.2.1 c.2.2 true = some h → Completes .postedTransfer s (fun t => sent t gate 7 ∧ advanced t ∧
        (∃ r, t.host.reqs = s.host.reqs ++ [r] ∧ r.write = true ∧ r.host = h.1 ∧ r.haddr = h.2 ∧ r.data = s.bytes c.1 c.2.2 ∧ r.use = .postOut x.no) ∧ SameWork s t)) ∧
      (x.q.desc.toHost = false → s.mreads < 64 → s.translate x.part c.1 c.2.2 false = some h → Completes .postedTransfer s (fun t => sent t gate 6 ∧ advanced t ∧
        (∃ r, t.host.reqs = s.host.reqs ++ [r] ∧ r.write = false ∧ r.host = h.1 ∧ r.haddr = h.2 ∧ r.len = c.2.2 ∧ r.use = .postIn x.no c.2.1) ∧ SameWork s t)))

/-! ### Collectives (chapter 12) -/

/-- A channel takes its collective commands in OP_SEQ order (R326, R327): the expected one completes at its acceptance and is held as an operation, one whose OP_SEQ is not
the expected one, or whose channel is aborted, halts its core with code 0x0A, and one that finds eight operations waits for room. A bind, a verdict's contribution and a rotation
start by their own rows (R325, R347, R354); CLEAR returns an aborted channel to IDLE (R344). -/
def Obligations.ChannelsTakeTheirCommandsInOrder : Prop :=
  ∀ (k : CoreId) (s : State), s.coll.early = [] → (∀ e ∈ s.allOps, e.2.accNo < s.coll.accepts) →
    let taken := fun (f : Flight) (t : State) =>
      let d := f.q.desc
      (∃ g ∈ (t.slot k).dmPipe, g.seq = f.seq ∧ g.done = true ∧ g.mute = true ∧ g.status = 0) ∧ (t.chan d.cChan).next = (d.cSeq + 1) % 0x10000 ∧
      t.coll.accepts = s.coll.accepts + 1 ∧ SameOthers k s t ∧
      (d.code ≠ 0x1F ∨ (s.chan d.cChan).bound = false → ∃ o ∈ (t.chan d.cChan).ops, o.accNo = s.coll.accepts ∧ o.desc = d ∧ o.issuer = k ∧ o.serial = f.q.serial)
    let room := fun (d : Desc) => (s.chan d.cChan).ops.length < 8 ∧ s.allOps.length < 1024
    let offered := fun (i : Instr) (code : Nat) => ∀ f, s.collNext k code = some f → f.q.reexec = false →
      let d := f.q.desc
      let x := s.chan d.cChan
      (x.aborted = false → d.cSeq = x.next → room d → Completes i s (taken f)) ∧
      ((x.aborted = true ∨ d.cSeq ≠ x.next) → (s.core k).halted = false → Completes i s (fun t => (t.core k).halted = true ∧ (t.core k).halt.reason = 0x0A ∧
        (t.core k).halt.source = 5 ∧ (t.core k).halt.addr = f.q.pc ∧ t.coll = s.coll ∧ SameMemory s t)) ∧
      (x.aborted = false → d.cSeq = x.next → 8 ≤ x.ops.length → Completes i s (fun t => (∃ g ∈ (t.slot k).dmPipe, g.seq = f.seq ∧ g.waiting = true) ∧
        t.coll = s.coll ∧ SameOthers k s t ∧ SameMemory s t))
    offered (.callred k) 0x18 ∧ offered (.credsc k) 0x19 ∧ offered (.callgat k) 0x1A ∧ offered (.cbcast k) 0x1B ∧ offered (.cgather k) 0x1C ∧
    offered (.cverd k) 0x1D ∧ offered (.crot k) 0x1E ∧ offered (.cbind k) 0x1F ∧
    (∀ f, (s.slot k).dmPipe.find? (fun f => !f.done && f.waiting && decide (0x18 ≤ f.q.desc.code) && decide (f.q.desc.code ≤ 0x1F)) = some f →
      f.q.reexec = false → (s.chan f.q.desc.cChan).aborted = false → f.q.desc.cSeq = (s.chan f.q.desc.cChan).next → room f.q.desc →
      Completes (.collectiveRoomAccept k) s (taken f)) ∧
    (∀ (c : Fin 512) o rest, (s.chan c.val).ops = o :: rest → o.code = 0x1F → s.rotBefore o = false → Completes (.cbindTakesEffect c) s (fun t =>
      (t.chan c.val).bound = true ∧ (t.chan c.val).axis = o.desc.cAxis ∧ (t.chan c.val).ops.map (·.accNo) = rest.map (·.accNo))) ∧
    (∀ (c : Fin 512) o, (s.chan c.val).ops.find? (fun o => !o.started) = some o → o.code = 0x1D →
      (∀ e ∈ s.allOps, e.2.accNo < o.accNo → e.2.part = o.part → e.2.desc.cVslot = o.desc.cVslot → e.2.desc.cStep = o.desc.cStep → e.2.code = 0x1F) →
      s.rotBefore o = false →
      Completes (.cverdContribute c) s (fun t => ∃ p ∈ (t.chan c.val).ops, p.accNo = o.accNo ∧ p.started = true ∧
        p.ownFin = (match s.coll.verdicts.find? (8 * o.part + o.desc.cVslot) with | some v => if v.step = o.desc.cStep then v.finite else true | none => true))) ∧
    (∀ (c : Fin 512) o, (s.chan c.val).ops.find? (fun o => !o.started) = some o → o.code = 0x1E → o.denied = false → (s.chan c.val).ops.Pairwise (fun a b => a.accNo ≠ b.accNo) →
      s.clean → inMemory o.desc.cSrc = true →
      (∀ e ∈ s.allOps, e.2.desc.cBuf = o.desc.cBuf → o.accNo ≤ e.2.accNo ∧ (e.2.code = 0x1E → e.2.started = false → e.2.accNo = o.accNo)) → Completes (.crotStart c) s (fun t =>
        t.rd collB F.BUF_ROT_WAIT o.desc.cBuf = 0 ∧ t.rd collB F.BUF_ROT_ACTIVE o.desc.cBuf = 1 ∧
        ∃ p ∈ (t.chan c.val).ops, p.accNo = o.accNo ∧ p.started = true ∧ p.src = s.bytes o.desc.cSrc o.desc.cBytes)) ∧
    (∀ (c : Fin 512), (s.chan c.val).aborted = true → Completes (.channelClear c) s (fun t =>
      t.chan c.val = { s.chan c.val with aborted := false, cleared := true, bound := false, axis := 0, next := 0, hist := [] } ∧ (∀ j, j ≠ c.val → t.chan j = s.chan j) ∧ SameWork s t))

/-- What the packets of a reduction do at the operation they belong to (R337, R338, R341, R343, R347): a partial whose mask shares no bit with the sum is added at its target, and
takes this member's contribution on its way to the next; data is written once at its place and goes on to its target; a grant lets the sender send its next chunks. -/
def Obligations.ReductionPacketsMeetTheirOperation : Prop :=
  ∀ (e : Ejected) (rest : List Ejected) (o : CollOp) (ch : ChunkAt) (s : State),
    let r := Red.of e.pkt.data
    let d := o.desc
    let data := sub e.pkt.data 32 ch.len
    let first := fun (ty : Nat) (n : Option (Fin 12)) =>
      takeFirst (fun x : Ejected => x.pkt.kind = 8 && (Red.of x.pkt.data).rtype = ty && (n.isNone || x.port = n)) s.fab.ejected = some (e, rest)
    let dup := fun (t : State) => t.chan r.chan = s.chan r.chan ∧ CountsOne collB F.COLL_RECOVER_DUP_PARTIALS 0 s t ∧ SameWork s t
    s.redMatch r = .op o → s.op? r.chan o.accNo = some o → e.pkt.epoch = d.epoch → fld e.pkt.w0 50 1 = 0 → r.gen = o.gen % 4 → o.started = true →
    o.chunkNo r.chunk = some ch →
    (let a := (o.acc.find? (fun x => x.seq = ch.seq)).getD (ownChunk s o ch)
     let summed := fun (t : State) (y : AccChunk) => (∃ p ∈ (t.chan r.chan).ops, p.accNo = o.accNo ∧ y ∈ p.acc) ∧ t.fab.ejected = rest ∧ SameWork s t
     (∀ n, first 0 (some n) → r.target = o.pos → a.seq = ch.seq → a.mask &&& r.mask = 0 → a.mask ||| r.mask ≠ o.full → o.code ≠ 0x1D → s.combineUsed o.home < 64 →
       Completes (.reductionPartial n) s (fun t => ∃ y, summed t y ∧ y.seq = ch.seq ∧ y.mask = a.mask ||| r.mask ∧ y.data = (redCombine d.cType d.cOper a.data data).1)) ∧
     (∀ n, first 0 (some n) → r.target = o.pos → a.mask &&& r.mask ≠ 0 → r.mask &&& ~~~ a.mask = 0 → s.combineUsed o.home < 64 → Completes (.reductionPartial n) s dup) ∧
     (∀ n, first 0 (some n) → r.target ≠ o.pos → r.mask &&& o.bit = 0 → o.code ≠ 0x1D → Completes (.reductionPartial n) s (fun t =>
       ∃ x, (t.fab.txq = s.fab.txq ++ [x] ∨ (s.coll.inject ≠ [] ∧ t.fab.txq = s.fab.txq ++ [{ x with spoilt := true }, x])) ∧ x.pkt.kind = 8 ∧
         x.pkt.dst = s.memberDev o (o.step o.pos 1 r.dir) % 0x10000 ∧ (Red.of x.pkt.data).mask = r.mask ||| o.bit ∧
         x.pkt.data.drop 32 = (redCombine d.cType d.cOper data (sub o.src ch.off ch.len)).1)) ∧
     (first 5 none → r.target = o.pos → a.seq = ch.seq → a.mask &&& r.mask = 0 → a.mask ||| r.mask ≠ o.full → o.code = 0x1D → s.combineUsed o.home < 64 → Completes .reductionVerdict s (fun t =>
       ∃ y, summed t y ∧ y.seq = ch.seq ∧ y.mask = a.mask ||| r.mask ∧ y.fin = (a.fin && r.fin)))) ∧
    (let blocks := o.code = 0x1A ∨ o.code = 0x1C
     let at_ := d.cDst + (if blocks then r.origin * d.cBytes else 0) + ch.off
     first 1 none → s.clean → inMemory at_ = true → o.got.contains (if blocks then gotKey r.origin ch.seq else ch.seq) = false → Completes .reductionData s (fun t =>
       (∀ j, j < ch.len → t.byte (at_ + j) = data.getD j 0) ∧ (∀ b, (b < at_ ∨ at_ + ch.len ≤ b) → t.byte b = s.byte b) ∧ t.slots = s.slots ∧
       (r.target ≠ o.pos → o.code ≠ 0x1C → o.code ≠ 0x1E → ∃ x, t.fab.txq = s.fab.txq ++ [x] ∧ x.pkt.data.drop 32 = data))) ∧
    (let cs := (o.chunks.drop o.sentChunks).take r.auxCount
     first 2 none → Completes .grant s (fun t => t.fab.txq.take s.fab.txq.length = s.fab.txq ∧
       (t.fab.txq.drop s.fab.txq.length).map (fun x => (x.pkt.dst, x.pkt.data.drop 32)) =
         cs.map (fun c => (s.memberDev o d.cRoot % 0x10000, sub o.src c.off c.len)) ∧
       (∃ p ∈ (t.chan r.chan).ops, p.accNo = o.accNo ∧ p.sentChunks = o.sentChunks + cs.length) ∧ SameWork s t))

/-- Breaks and aborts (R343, R344, R351): a BREAK puts a ring operation into line mode from the member on the plus side of the break, with the next generation; an ABORT, or a
packet held too long, aborts the channel's operations from its OP_SEQ on and halts the cores that issued them. -/
def Obligations.BreaksAndAborts : Prop :=
  ∀ (s : State),
    let aborts := fun (i : Instr) (c seq : Nat) =>
      let hit := fun o : CollOp => (o.desc.cSeq + 0x10000 - seq) % 0x10000 < 0x8000
      (s.chan c).aborted = false → Completes i s (fun t => (t.chan c).aborted = true ∧ (t.chan c).ops = (s.chan c).ops.filter (fun o => !decide (hit o)) ∧
        (∀ o ∈ (s.chan c).ops, hit o → (t.core o.issuer).halted = true) ∧ t.rd collB F.CHAN_STAT_ORDER c = 1 ∧ SameMemory s t)
    (∀ e rest, takeFirst (fun x : Ejected => x.pkt.kind = 8 && (Red.of x.pkt.data).rtype = 4) s.fab.ejected = some (e, rest) → s.staleRed e.pkt = false →
      aborts .ringAbort (Red.of e.pkt.data).chan (Red.of e.pkt.data).seq) ∧
    (∀ (n : Fin 12) (c : Fin 512) (q : BitVec 16) e, e ∈ s.coll.early → e.port = some n → (Red.of e.pkt.data).chan = c.val → (Red.of e.pkt.data).seq = q.toNat →
      e.pass + s.rd collB F.COLL_CFG_HOLD_LIMIT ≤ s.passIdx → aborts (.earlyPacketHoldExpiry n c q) c.val q.toNat) ∧
    (∀ e rest o, takeFirst (fun x : Ejected => x.pkt.kind = 8 && (Red.of x.pkt.data).rtype = 3) s.fab.ejected = some (e, rest) → s.staleRed e.pkt = false →
      let r := Red.of e.pkt.data
      let x := s.chan r.chan
      let plusSide := if r.dir = 0 then r.auxPos else (r.auxPos + 1) % o.n
      x.ops.find? (fun o => o.ring && o.complete.isNone) = some o → x.bound = true → x.axis = o.axis → x.aborted = false → s.coll.chans.sorted = true →
      x.ops.Pairwise (fun a b => a.accNo ≠ b.accNo) → o.line = false → o.lo < s.rd routeB F.AXIS_LENGTH o.axis → o.n ≤ s.rd routeB F.AXIS_LENGTH o.axis → r.auxPos < o.n →
      Completes .ringBreak s (fun t => t.fab.ejected = rest ∧ ∃ p ∈ (t.chan r.chan).ops, p.accNo = o.accNo ∧ p.line = true ∧ p.l0 = some plusSide ∧
        p.gen = (o.gen + 1) % 4))

/-! ### Packets and accesses from outside (chapters 7, 9, 11 and 14) -/

/-- What a packet does at the module it is addressed to (R49, R194, R198, R200, R254, R310): scheduled bytes land as an open region of their sender, elastic bytes land, a read
answers with the bytes, a signal or a close marker is held, each request is answered to its source, and an answer meets the command whose TAG it carries. A packet whose epoch the
cluster does not accept writes nothing and is counted. -/
def Obligations.PacketsReachTheirEnd : Prop :=
  ∀ (e : Ejected) (rest : List Ejected) (s : State), s.fab.ejected = e :: rest → s.clean →
    let p := e.pkt
    let n := p.data.length
    let answered := fun (t : State) (kind resp : Nat) (data : List Byte) => ∃ x, t.fab.txq = s.fab.txq ++ [x] ∧ x.pkt.dst = p.src ∧ x.pkt.kind = kind ∧
      x.pkt.resp = resp ∧ x.pkt.tag = p.tag ∧ x.pkt.data = data
    let lands := fun (t : State) => (∀ j, j < n → t.byte (p.addr + j) = p.data.getD j 0) ∧ (∀ b, (b < p.addr ∨ p.addr + n ≤ b) → t.byte b = s.byte b)
    let peer := s.fab.peers.any (fun d => d.dev = p.src) = true
    s.noWay p.slice p.src false = false →
    (∀ k, p.kind = 0 → n ≠ 0 → s.memCheck (s.packetParts p) p.addr n = 0 → s.physOf p.owner = some k →
      ((s.slot k).accepts p.epoch = true → p.sigEn = false → Completes .scheduledWrite s (fun t => lands t ∧ answered t 7 0 [] ∧ t.slots = s.slots ∧
        ∀ j, j < n → ∃ x ∈ t.mx.extents, x.owner = .remote p.src p.stream p.fidx e.batch ∧ x.lo ≤ p.addr + j ∧ p.addr + j < x.lo + x.len)) ∧
      ((s.slot k).accepts p.epoch = false → Completes .scheduledWrite s (fun t => SameWork s t ∧ answered t 7 0 [] ∧
        CountsOne (slotB k) F.EPOCH_DISCARDS_STALE_PKTS 0 s t))) ∧
    (p.kind = 1 → s.memCheck (s.packetParts p) p.addr n = 0 → peer → Completes .elasticWrite s (fun t => lands t ∧ answered t 3 0 [] ∧ t.slots = s.slots)) ∧
    (p.kind = 2 → s.memCheck (s.packetParts p) p.addr p.length = 0 → peer → Completes .elasticReadRequest s (fun t =>
      answered t 3 0 (s.bytes p.addr p.length) ∧ SameWork s t)) ∧
    (∀ c k, p.kind = 4 → s.physOf p.owner = some c → (s.slot c).accepts p.epoch = true → p.sigEn = true → s.physOf p.sigCluster = some k → s.slotOpen k = true →
      (s.slot k).accepts p.epoch = true → (s.slot k).held.length < 128 → (∀ h ∈ (s.slot k).held, h.owner ≠ e.owner) → Completes .signalOnly s (fun t =>
        answered t 7 0 [] ∧ SameOthers k s t ∧ SameMemory s t ∧
        ∃ h : Held, (t.slot k).held = (s.slot k).held ++ [h] ∧ h.owner = e.owner ∧ h.tok = p.sigTok ∧ h.count = p.sigCount ∧ h.epoch = p.epoch ∧ h.ready = false)) ∧
    (∀ c, p.kind = 5 → s.physOf p.owner = some c → s.slotOpen c = true → (s.slot c).accepts p.epoch = true → p.sigEn = false → Completes .epochClose s (fun t =>
      answered t 7 0 [] ∧ SameOthers c s t ∧ SameMemory s t ∧
      (t.slot c).heldClose = (s.slot c).heldClose ++ [{ owner := e.owner, close := p.closeEpoch, epoch := p.epoch }])) ∧
    (p.kind = 6 → peer → (p.slice ≠ 0 → Completes .csrRequest s (fun t => answered t 3 6 [] ∧ SameWork s t)) ∧
      (∀ off, p.slice = 0 → p.addr = 0x0100_0000_0000 + off → off < 0x10000 → off % 8 = 0 → p.data = [] → Completes .csrRequest s (fun t =>
        answered t 3 0 (bytesOf 8 (({ s with fab.ejected := rest } : State).csrLoad off 8)) ∧ SameWork s t))) ∧
    (∀ k f o, s.flightByTag p.tag = some (k, f) → f ∈ (s.slot k).dmPipe → s.slotLive k = true → p.resp = 0 →
      (p.kind = 7 → f.tags = [(p.tag, o)] → f.status = 0 → Completes .scheduledAck s (fun t => SameOthers k s t ∧ SameMemory s t ∧
        ∃ g ∈ (t.slot k).dmPipe, g.seq = f.seq ∧ g.done = true ∧ g.status = 0 ∧ g.tags = [])) ∧
      (p.kind = 3 → f.tags.find? (fun x => x.1 = p.tag) = some (p.tag, o) → f.tags.filter (fun x => x.1 ≠ p.tag) ≠ [] → Completes .elasticResponse s (fun t =>
        SameOthers k s t ∧ SameMemory s t ∧ ∃ g ∈ (t.slot k).dmPipe, g.seq = f.seq ∧ g.got = f.got ++ [(o, p.data)] ∧ g.tags = f.tags.filter (fun x => x.1 ≠ p.tag))))

/-- Host reads and writes (R377, R385): bytes written form a host extent that closes at the next boundary, bytes read are committed ones, and an access to memory of no permitted
partition is answered DENIED and counted. -/
def Obligations.HostReadsAndWrites : Prop :=
  ∀ (e : Ejected) (rest : List Ejected) (s : State), s.fab.ejected = e :: rest → s.clean → s.noWay e.pkt.slice e.pkt.src false = false →
    s.fab.peers.any (fun d => d.dev = e.pkt.src) = true →
    let p := e.pkt
    let a := p.addr
    let bs := p.hostData
    let answered := fun (t : State) (ht resp : Nat) (data : List Byte) => ∃ x, t.fab.txq = s.fab.txq ++ [x] ∧ x.pkt.dst = p.src ∧ x.pkt.kind = 9 ∧ x.pkt.htype = ht ∧
      x.pkt.resp = resp ∧ x.pkt.tag = p.tag ∧ x.pkt.hostData = data
    let check := fun n => s.memCheck (some (s.hostParts p.hostNo)) a n
    (isHost 1 e = true → bs ≠ [] → check bs.length = 0 → bs.length ≤ 4032 → Completes .hwrite s (fun t => answered t 5 0 [] ∧ t.slots = s.slots ∧
      (∀ j, j < bs.length → t.byte (a + j) = bs.getD j 0) ∧ (∀ b, (b < a ∨ a + bs.length ≤ b) → t.byte b = s.byte b) ∧
      (∀ j, j < bs.length → ∃ x ∈ t.mx.hostExtents, x.closing = true ∧ x.lo ≤ a + j ∧ a + j < x.lo + x.len))) ∧
    (isHost 2 e = true → check p.hlen = 0 → Completes .hread s (fun t => answered t 4 0 (s.bytes a p.hlen) ∧ SameWork s t)) ∧
    (isHost 2 e = true → regionOf a ≠ .csr → check p.hlen = rDENIED → Completes .hread s (fun t => answered t 4 rDENIED [] ∧ SameWork s t ∧
      CountsOne hostB F.QM_ERRS_DENIED 0 s t))

/-- The way of a packet (R295, R296, R300, R310): one for this module is delivered in its order, one with a way joins the output queue of its port and VC, one without a route, or with a
bad header, is discarded and counted. -/
def Obligations.PacketsAreRouted : Prop :=
  ∀ (r : Routable) (s : State),
    let p := r.pkt
    (s.boot.fabricDom = .run → s.fab.txq = [r] → p.headerOk = true →
      (∀ m vc, s.way r = .out m vc false → s.rd (portB m) F.PT_Q_DEPTH vc + p.frames ≤ 128 → (p.scheduled = true ∨ tb (s.rd routeB F.THROTTLE_STAT_ACTIVE) m = false) →
        Completes (.routePacket none) s (fun t => t.fab.txq = [] ∧ SameWork s t ∧
          ∃ o : OutPkt, (t.port m).outQ = (s.port m).outQ ++ [o] ∧ o.pkt = p ∧ o.vc = vc ∧ o.src = r.src ∧ o.sent = 0)) ∧
      (s.way r = .noRoute → p.kind = 7 → Completes (.routePacket none) s (fun t => t.fab.txq = [] ∧ t.fab.ejected = s.fab.ejected ∧ SameWork s t ∧
        CountsOne routeB F.ROUTE_DROP_NO_ROUTE 0 s t)) ∧
      (s.way r = .eject → p.streamed = false → p.sequenced = false → p.kind ≠ 9 → s.harrowRoom { pkt := p, port := r.src } = true → Completes (.routePacket none) s (fun t =>
        t.fab.txq = [] ∧ t.fab.ejected = s.fab.ejected ++ [{ pkt := p, port := r.src }] ∧ SameWork s t))) ∧
    (∀ (n : Fin 12) rest, s.rd (portB n.val) F.PORT_CFG_MODE ≠ 2 → (s.port n.val).rxPkts = r :: rest → (s.port n.val).rxMk = [] →
      (p.headerOk = false → Completes (.routePacket (some n)) s (fun t => (t.port n.val).rxPkts = rest ∧ t.fab.ejected = s.fab.ejected ∧ t.fab.txq = s.fab.txq ∧
        SameWork s t ∧ CountsOne routeB F.ROUTE_DROP_BAD_HEADER 0 s t)) ∧
      (p.headerOk = true → s.way r = .eject → p.sequenced = true → p.kind ≠ 9 → p.ssn = s.expected p → s.fab.peers.any (fun d => d.dev = p.src) = true → s.fab.reorder = [] →
        Completes (.routePacket (some n)) s (fun t => (t.port n.val).rxPkts = rest ∧ t.fab.ejected = s.fab.ejected ++ [{ pkt := p, port := r.src }] ∧ SameWork s t ∧
          t.expected p = (p.ssn + 1) % 2 ^ 20)))

/-! ### Ports (chapter 10) -/

/-- The link layer (R265, R266, R269 to R273): a frame that checks and is in sequence is accepted and its whole packet goes to the router, one that fails its CRC is refused with a
NAK; an ACK frees what it covers, a NAK sends again from its SEQ, CREDIT gives the difference of its count; markers are accepted like frames; and a port sends its oldest replay
first, then its next frame with the next SEQ. -/
def Obligations.LinksMoveFramesInSequence : Prop :=
  ∀ (n : Fin 12) (s : State),
    let b := portB n.val
    let p := s.port n.val
    let st := s.pst n.val
    let tells := fun (t : State) (y : BitVec 128) => (t.port n.val).sent = y :: p.sent
    (∀ (fr : Frame) (wrong : List Nat), carries st = true → s.boot.fabricDom = .run → p.badCw = 0 →
      (fr.crcOk = true → bits fr.hdr.toNat 24 8 = 0 → fr.seq = p.rxSeq → frameOrderOk (p.part.get [] fr.vc) fr = true → Completes (.frameReceive n fr 0 wrong) s (fun t =>
        (t.port n.val).rxSeq = (p.rxSeq + 1) % 4096 ∧ SameWork s t ∧
        (fr.eop = false → (t.port n.val).part.get [] fr.vc = fr :: p.part.get [] fr.vc ∧ (t.port n.val).rxPkts = p.rxPkts) ∧
        (fr.eop = true → fr.abort = false → (t.port n.val).rxPkts = p.rxPkts ++
          [{ pkt := packetOf (((fr :: p.part.get [] fr.vc).reverse).flatMap (fun f => f.payload.take f.valid)), src := some n, vc := fr.vc }]))) ∧
      (fr.crcOk = false → p.nakUntil ≤ s.fieldCount → Completes (.frameReceive n fr 0 wrong) s (fun t => tells t (mkSym 2 [(8, 12, p.rxSeq), (20, 4, 0)]) ∧
        (t.port n.val).rxSeq = p.rxSeq ∧ (t.port n.val).rxPkts = p.rxPkts ∧ CountsOne b F.PORT_LINK_CRC_ERRS 0 s t ∧ CountsOne b F.PORT_LINK_NAKS_SENT 0 s t ∧
        SameWork s t))) ∧
    (∀ sym, trained st = true → p.badCw = 0 →
      (symIs sym 1 = true → let q := sf sym 8 12; Completes (.ack n sym) s (fun t => SameWork s t ∧ (∀ i ∈ (t.port n.val).replay, i ∈ p.replay) ∧
        (∀ i ∈ p.replay, seqLe i.seq q = false → i ∈ (t.port n.val).replay) ∧ (∀ i ∈ (t.port n.val).replay, i.frame = none → seqLe i.seq q = false))) ∧
      (symIs sym 2 = true → Completes (.nak n sym) s (fun t => (t.port n.val).resend = p.replay.filter (fun i => seqLe (sf sym 8 12) i.seq) ∧
        (t.port n.val).replay = p.replay ∧ SameWork s t)) ∧
      (symIs sym 3 = true → sf sym 35 1 = 0 → let v := sf sym 8 3; Completes (.credit n sym) s (fun t => SameWork s t ∧ (t.port n.val).gotCredit.get 0 v = sf sym 16 16 ∧
        t.rd b F.PORT_VC_HELD v = (s.rd b F.PORT_VC_HELD v + (sf sym 16 16 + 0x10000 - p.gotCredit.get 0 v) % 0x10000) % 2 ^ F.PORT_VC_HELD.w)) ∧
      (symOk sym = true → 9 ≤ sf sym 0 8 → Completes (.reservedTypeSymbol n sym) s (fun t => CountsOne b F.PORT_LINK_BAD_SYMBOLS 0 s t ∧ SameWork s t))) ∧
    (∀ sym, carries st = true → s.boot.fabricDom = .run → s.rd b F.PORT_CFG_MODE = 1 → p.badCw = 0 → symIs sym 5 = true → sf sym 8 12 = p.rxSeq → p.rxPkts = [] → p.rxMk = [] →
      (∀ x ∈ s.fab.transit, x.1 ≠ sf sym 32 16 ∨ x.2.1 ≠ sf sym 20 12 ∨ 12 ≤ x.2.2.1) → Completes (.marker n sym) s (fun t => (t.port n.val).rxSeq = (p.rxSeq + 1) % 4096 ∧ SameWork s t ∧
        ∃ m, t.fab.markersRx = s.fab.markersRx ++ [m] ∧ m.dev = sf sym 32 16 ∧ m.stream = sf sym 20 12 ∧ m.pass = sf sym 48 16 ∧ m.count = sf sym 64 6 ∧
          m.fail = BitVec.ofNat 40 (sf sym 72 40) ∧ m.arrived = s.fieldCount)) ∧
    (carries st = true → 0 < p.unacked → s.boot.fabricDom = .run → Completes (.ackTimer n) s (fun t => tells t (ackSym p) ∧ (t.port n.val).unacked = 0 ∧ SameWork s t)) ∧
    (trained st = true → Completes (.timeSyncSend n) s (fun t => tells t s.syncSym ∧ SameWork s t)) ∧
    (trained st = true → st ≠ pUP → st ≠ pDRAINING → Completes (.helloResend n) s (fun t => tells t (s.helloSym n.val) ∧ SameWork s t)) ∧
    (∀ l, p.swap = some l → Completes (.laneMapResend n) s (fun t => tells t (mkSym 7 [(8, 4, l)]) ∧ SameWork s t)) ∧
    (carries st = true → p.frSlot ≠ s.fieldCount / 25 ∨ p.frCount < 13 →
      (∀ i rest, p.resend = i :: rest → i.again + 1 < s.rd b F.PORT_CFG_REPLAY_LIMIT → Completes (.frameTransmit n) s (fun t => (t.port n.val).resend = rest ∧
        t.rd b F.PORT_REPLAY_REPLAYED = (s.rd b F.PORT_REPLAY_REPLAYED + 1) % 2 ^ F.PORT_REPLAY_REPLAYED.w)) ∧
      (∀ i rank o, p.resend = [] → p.outMk = [] → p.replay.length < 1024 → s.pick n.val = some (i, rank) → p.outQ[i]? = some o → o.vc < 8 → Completes (.frameTransmit n) s (fun t =>
        (t.port n.val).txSeq = (p.txSeq + 1) % 4096 ∧ (t.port n.val).replay.length = p.replay.length + 1 ∧
        (∃ x ∈ (t.port n.val).replay, x.seq = p.txSeq ∧ x.frame = some (frameOf p.txSeq o.vc o.pkt o.sent o.spoilt)) ∧
        t.rd b F.PORT_VC_HELD o.vc = (s.rd b F.PORT_VC_HELD o.vc - 1) % 2 ^ F.PORT_VC_HELD.w)))

/-- Lanes and the loss of a link (R275, R276, R282, R283): a failing lane asks for a swap onto the spare, a request is granted, a grant completes it; LINK_DOWN and a silence of
LINK_TIMEOUT take the port down, with nothing kept for sending. -/
def Obligations.LanesAndLinksFail : Prop :=
  ∀ (n : Fin 12) (s : State), carries (s.pst n.val) = true →
    let b := portB n.val
    let p := s.port n.val
    let spare := s.rd b F.LANE_STATE 8 ≠ 3 ∧ s.rd b F.PORT_STAT_SPARE_FAILED = 0 ∧ s.rd b F.PORT_CFG_SPARE_EN ≠ 0 ∧ p.swap = none
    let asks := fun (t : State) (lane : Nat) => (t.port n.val).swap = some lane ∧ t.rd b F.PORT_STAT_SPARE_PENDING = 1 ∧
      (t.port n.val).sent = mkSym 7 [(8, 4, lane)] :: p.sent ∧ t.pst n.val = s.pst n.val
    let down := fun (t : State) (reason : Nat) => t.pst n.val = pDOWN ∧ t.rd b F.PORT_STAT_LAST_DOWN = reason ∧ (t.port n.val).replay = [] ∧ (t.port n.val).outQ = [] ∧
      (3 ≤ reason → CountsOne b F.PORT_LINK_DOWN_EVENTS 0 s t) ∧ t.slots = s.slots
    (∀ lane : Fin 9, lane.val < 8 → s.rd b F.LANE_STATE lane.val = 3 → spare → Completes (.laneLockLoss n lane) s (fun t => asks t lane.val ∧
      CountsOne b F.LANE_LOCK_LOSSES lane.val s t)) ∧
    (∀ lane : Fin 8, s.rd b F.PORT_STAT_SPARED_LANE = 0xF → spare → Completes (.spareNow n lane) s (fun t => asks t lane.val)) ∧
    (∀ sym, p.badCw = 0 → symIs sym 7 = true → sf sym 8 4 ≤ 7 →
      (sf sym 12 1 = 0 → p.txSpare = none → Completes (.laneMap n sym) s (fun t =>
        (t.port n.val).sent = mkSym 7 [(8, 4, sf sym 8 4), (12, 1, 1), (16, 12, p.ackNext)] :: p.sent ∧ (t.port n.val).txSpare = some (sf sym 8 4) ∧
        t.rd b F.PORT_STAT_SPARED_LANE = sf sym 8 4 ∧ (t.port n.val).resend = p.replay.filter (fun i => seqLe p.ackNext i.seq) ∧ SameWork s t)) ∧
      (sf sym 12 1 = 1 → p.swap = some (sf sym 8 4) → Completes (.laneMap n sym) s (fun t => (t.port n.val).swap = none ∧ t.rd b F.PORT_STAT_SPARED_LANE = sf sym 8 4 ∧
        t.rd b F.PORT_STAT_SPARE_PENDING = 0 ∧ t.rd b F.LANE_STATE (sf sym 8 4) = 4 ∧ t.rd b F.LANE_STATE 8 = 3 ∧ t.rd b F.LANE_ROLE 8 = sf sym 8 4 ∧ SameWork s t))) ∧
    (∀ sym, p.badCw = 0 → symIs sym 8 = true → s.rd b F.PORT_CFG_AUTO_RETRAIN = 0 → Completes (.linkDown n sym) s (fun t => down t (sf sym 8 4))) ∧
    (p.unlocked = false → p.lastRx + s.rd b F.PORT_CFG_LINK_TIMEOUT ≤ s.fieldCount → s.rd b F.PORT_CFG_AUTO_RETRAIN = 0 → Completes (.linkTimeoutExpiry n) s (fun t => down t 4 ∧
      (t.port n.val).sent = mkSym 8 [(8, 4, 4)] :: p.sent))

/-- A port on its way up and down (R33, R278, R279, R281, R284, R288, R292, R397): signal, training, the neighbour's HELLO and TIME_SYNC, enable, disable, drain, retrain and the
clear of its counts. -/
def Obligations.PortsComeAndGo : Prop :=
  ∀ (n : Fin 12) (s : State),
    let b := portB n.val
    let p := s.port n.val
    let st := s.pst n.val
    let waits := fun (t : State) => t.pst n.val = pWAIT_SIGNAL ∧ t.rd b F.PORT_NBR_VALID = 0
    (∀ lanes : BitVec 9, st = pWAIT_SIGNAL → 8 ≤ popcount 9 lanes.toNat → Completes (.laneSignalDetect n lanes) s (fun t => t.pst n.val = pTRAINING ∧
      (∀ k, k < 9 → t.rd b F.LANE_STATE k = 1) ∧ SameWork s t)) ∧
    (∀ (lanes : LaneSets) m, st = pTRAINING → 8 ≤ popcount 9 lanes.rx.toNat → 8 ≤ popcount 9 lanes.tx.toNat → Completes (.pmdTrainingDone n lanes m) s (fun t => t.pst n.val = pHELLO ∧
      t.rd b F.PORT_HOP_MEDIUM_CLK = min m 4095 ∧ (t.port n.val).sent.length = p.sent.length + 2 ∧ SameWork s t ∧
      ∀ k, k < 8 → if lanes.rx.getLsbD k then t.rd b F.LANE_STATE k = 3 ∧ t.rd b F.LANE_ROLE k = k
        else t.rd b F.LANE_STATE k = 4 ∧ t.rd b F.LANE_STATE 8 = 3 ∧ t.rd b F.LANE_ROLE 8 = k ∧ t.rd b F.PORT_STAT_SPARED_LANE = k)) ∧
    (st = pTRAINING → Completes (.pmdTrainingTimeout n) s (fun t => t.pst n.val = pDOWN ∧ (t.port n.val).trainFailed = true ∧ SameWork s t)) ∧
    (∀ sym, trained st = true → p.badCw = 0 → symIs sym 6 = true → Completes (.hello n sym) s (fun t => t.rd b F.PORT_NBR_VALID = 1 ∧ t.rd b F.PORT_NBR_DEVICE_ID = sf sym 16 16 ∧
      t.rd b F.PORT_NBR_MODE = sf sym 12 2 ∧ t.rd b F.PORT_NBR_AXIS = sf sym 32 3 ∧ t.rd b F.PORT_NBR_SIGN = sf sym 35 1 ∧
      (carries st = false → t.helloOk n.val = false → t.pst n.val = pMISWIRED) ∧ SameWork s t)) ∧
    (∀ sym delay, trained st = true → p.badCw = 0 → symIs sym 4 = true → s.rd b F.PORT_CFG_MODE = 1 → Completes (.timeSync n sym delay) s (fun t =>
      t.rd b F.PORT_HOP_HOP_CLK = min delay 4095 ∧ t.rd b F.PORT_NBR_PASS_LEN = sf sym 80 15 ∧ t.slots = s.slots ∧
      ∃ r, (t.port n.val).sync = some r ∧ r.root = sf sym 96 16 ∧ r.hops = sf sym 8 8 ∧ r.locked = (sf sym 95 1 == 1))) ∧
    (s.portMayStart n.val = true →
      (st = pDOWN → p.trainFailed = true → s.rd b F.PORT_CFG_AUTO_RETRAIN ≠ 0 → Completes (.autoRetrainTimer n) s (fun t => t.pst n.val = pTRAINING ∧ SameWork s t)) ∧
      (p.shutting = false → st = pDISABLED → s.rd b F.PORT_CFG_MODE ≠ 0 → Completes (.portEnable n) s (fun t => waits t ∧ t.rd b F.PORT_CTL_ENABLE = 1 ∧ SameWork s t)) ∧
      (st = pDRAINED → Completes (.portDrainClear n) s (fun t => waits t ∧ t.rd b F.PORT_CTL_DRAIN = 0)) ∧
      (p.shutting = true → st = pENABLE_PENDING → Completes (.portShutdownComplete n) s (fun t => waits t ∧ (t.port n.val).shutting = false ∧ SameWork s t)) ∧
      (p.shutting = false → st ≠ pDISABLED → st ≠ pDRAINED → Completes (.retrain n) s (fun t => waits t ∧ t.rd b F.PORT_STAT_LAST_DOWN = 0 ∧ (t.port n.val).replay = []))) ∧
    (p.shutting = true → Completes (.portEnable n) s (fun t => t.pst n.val = pENABLE_PENDING ∧ SameWork s t)) ∧
    (p.shutting = true → st ≠ pENABLE_PENDING → Completes (.portShutdownComplete n) s (fun t => t.pst n.val = pDISABLED ∧ (t.port n.val).shutting = false ∧ SameWork s t)) ∧
    (p.shutting = false → st ≠ pDISABLED → s.rd b F.PT_TEST_TEST_EN = 0 → Completes (.portDisable n) s (fun t => t.pst n.val = pDOWN ∧ (t.port n.val).shutting = true ∧
      (t.port n.val).replay = [] ∧ (t.port n.val).outQ = [] ∧ t.slots = s.slots)) ∧
    (st = pUP ∨ st = pFOREIGN → Completes (.portDrain n) s (fun t => t.pst n.val = pDRAINING ∧ (t.port n.val).outQ = [] ∧
      ∃ more, t.fab.txq = s.fab.txq ++ (p.outQ.filter (fun o => o.sent = 0)).map (fun o => { pkt := o.pkt, src := o.src, vc := o.vc, moved := true, spoilt := o.spoilt }) ++ more)) ∧
    (st = pDRAINING → p.resend = [] → p.ackNext = p.txSeq → Completes (.portDrainComplete n) s (fun t => t.pst n.val = pDRAINED ∧
      (t.port n.val).sent = mkSym 8 [(8, 4, 1)] :: p.sent)) ∧
    Completes (.portCountClear n) s (fun t => (∀ f ∈ [F.PORT_FEC_CORRECTED, F.PORT_FEC_UNCORRECTABLE, F.PORT_LINK_CRC_ERRS, F.PORT_LINK_NAKS_SENT, F.PORT_LINK_DOWN_EVENTS,
      F.PORT_LINK_BAD_SYMBOLS, F.PORT_REPLAY_REPLAYED], t.rd b f = 0) ∧ (∀ k, k < 9 → t.rd b F.LANE_SYM_ERRS k = 0 ∧ t.rd b F.LANE_LOCK_LOSSES k = 0) ∧ SameWork s t)

/-! ### Checks, control registers, upkeep (chapters 4 to 9, 12, 13) -/

/-- The clears and injections of the checks (R123, R124, R149, R150, R180, R237, R258, R355, R370): a clear returns the counts it names to zero and changes no other register, an
injection waits in its unit; one into a unit that runs on one half is discarded (R447). -/
def Obligations.ChecksClearAndInject : Prop :=
  ∀ (k : CoreId) (u : BinId) (p : Fin 32) (n : Fin 12) (s : State), s.fallowPlot k.plot.val = false → s.fallowPlot u.plot.val = false → s.fallowPlot p.val = false →
    let pb := plotB p.val
    let clears := fun (i : Instr) (b : Nat) (fs : List Field) (j : Nat) => Completes i s (fun t => (∀ f ∈ fs, t.rd b f j = 0) ∧
      SameRegisters (fs.map (fun f => fkey b f j)) s t ∧ SameWork s t)
    let arms := fun (i : Instr) (x : Slot) => Completes i s (fun t => t.slot k = x ∧ SameOthers k s t ∧ SameRegisters [] s t ∧ SameMemory s t)
    let x := s.slot k
    clears (.matCheckClear k) (slotB k) [F.MAT_CHECK_RESIDUE_ERRS, F.MAT_CHECK_COMPARE_ERRS, F.MAT_CHECK_PARITY_ERRS] 0 ∧
    clears (.vecCheckClear k) (slotB k) [F.VEC_CHECK_COMPARE_ERRS, F.VEC_CHECK_PARITY_ERRS] 0 ∧
    clears (.coreCheckClear k) (slotB k) [F.CORE_CHECK_LOCKSTEP_ERRS, F.CORE_CHECK_MEM_CORRECTED, F.CORE_CHECK_MEM_UNCORRECTED] 0 ∧
    clears (.binCheckClear u) (plotB u.plot.val) [F.BIN_CHECK_COMPARE_ERRS, F.BIN_CHECK_PARITY_ERRS, F.BIN_CHECK_REPLAYS] u.unit.val ∧
    clears (.drillCheckClear p) pb [F.DRILL_CHECK_COMPARE_ERRS, F.DRILL_CHECK_PARITY_ERRS] 0 ∧
    clears (.granEccClear p) pb [F.GRAN_ECC_CORRECTED, F.GRAN_ECC_UNCORRECTABLE] 0 ∧
    Completes .barnEccClear s (fun t => t.rd barnB F.BARN_ECC_CORRECTED = 0 ∧ t.rd barnB F.BARN_ECC_UNCORRECTABLE = 0 ∧
      (∀ j, j < 18 → t.rd barnB F.BARN_PKG_CORRECTED j = 0 ∧ t.rd barnB F.BARN_PKG_WINDOW j = s.rd barnB F.BARN_PKG_WINDOW j) ∧ SameWork s t) ∧
    Completes .collCheckClear s (fun t => (∀ f ∈ [F.COLL_RECOVER_DUP_PARTIALS, F.COLL_RECOVER_STALE_GEN, F.COLL_RECOVER_BREAKS, F.COLL_RECOVER_STALE_EPOCH],
      t.rd collB f = 0) ∧ (∀ j, j < 12 → ∀ f ∈ [F.HARROW_SAMPLED, F.HARROW_MISMATCHES, F.HARROW_RUN], t.rd collB f j = 0) ∧ SameWork s t) ∧
    arms (.injectResidue k) { x with injResidue := true } ∧ arms (.matInjectCompare k) { x with injMatCompare := true } ∧
    arms (.injectParity k) { x with injMatParity := true } ∧ arms (.vecInjectCompare k) { x with injVecCompare := true } ∧
    arms (.vecInjectParity k) { x with injVecParity := true } ∧ arms (.injectLockstep k) { x with core := { x.core with injLockstep := true } } ∧
    arms (.injectMem k) { x with core := { x.core with injMem := true } } ∧
    ((s.rd (plotB u.plot.val) F.FLT_PLOT_BIN_SINGLE).testBit u.unit.val = false → Completes (.binInjectCompare u) s (fun t =>
      t.bin u = { s.bin u with injCompare := true } ∧ (∀ v, v ≠ u → t.bin v = s.bin v) ∧ t.slots = s.slots ∧ SameMemory s t)) ∧
    ((s.rd (plotB u.plot.val) F.FLT_PLOT_BIN_SINGLE).testBit u.unit.val = true → Completes (.binInjectCompare u) s (fun t => t = s)) ∧
    (s.rd pb F.FLT_PLOT_DRILL_SINGLE = 0 → Completes (.drillInjectCompare p) s (fun t => t.drill p.val = { s.drill p.val with injCompare := true } ∧
      t.slots = s.slots ∧ SameMemory s t)) ∧
    Completes (.injectSingle p) s (fun t => t.mx.granInj.get 0 p.val = 1 ∧ (∀ j, j ≠ p.val → t.mx.granInj.get 0 j = s.mx.granInj.get 0 j) ∧ SameMemory s t) ∧
    Completes (.injectDouble p) s (fun t => t.mx.granInj.get 0 p.val = 2 ∧ (∀ j, j ≠ p.val → t.mx.granInj.get 0 j = s.mx.granInj.get 0 j) ∧ SameMemory s t) ∧
    (∀ pkg : BitVec 5, pkg.toNat < 18 → Completes (.barnEccInject pkg) s (fun t => t.mx.barnInj = some pkg.toNat ∧ SameMemory s t)) ∧
    (s.harrowSingle n.val = false → (s.rd telB F.FLT_PORTS_HARROW_BYPASS).testBit n.val = false → Completes (.collInject n) s (fun t => n.val ∈ t.coll.inject ∧
      t.rd collB F.COLL_CHECK_CTL_INJ_PORT = n.val ∧ SameWork s t))

/-- The control registers of a cluster and of a Bin unit (R96, R168, R176 to R179, R199, R201, R204, R226, R237): resume, step and halt request, a switch of banks, an advance of the
epoch, the completion ring, token counts, the seed and the stack regions take effect when their conditions hold and are discarded when they do not. -/
def Obligations.ControlRegistersTakeEffect : Prop :=
  ∀ (k : CoreId) (v : W64) (s : State),
    let x := s.slot k
    let c := s.core k
    let b := slotB k
    let put := fun (f : Field) => fld v f.lo f.w
    let discarded := fun (i : Instr) => Completes i s (fun t => t = s)
    (s.coreLive k = true → c.halted = true → Completes (.resume k) s (fun t => (t.core k).halted = false ∧ (t.core k).pc = s.rd b F.CORE_DBG_RESUME_PC / 4 * 4 ∧
      (t.core k).bank = x.active ∧ (t.core k).inFurrow = false ∧ (t.core k).wait = .none ∧ (t.slot k).started = true ∧ SameOthers k s t ∧ SameMemory s t)) ∧
    (c.halted = false → discarded (.resume k) ∧ discarded (.step k)) ∧
    (s.coreLive k = true → c.halted = true → c.halt.reason = 0x0B → Completes (.step k) s (fun t => t.core k = { c with halted := false, stepping := true } ∧
      SameOthers k s t ∧ SameRegisters [] s t ∧ SameMemory s t)) ∧
    (c.halt.reason ≠ 0x0B → discarded (.step k)) ∧
    (s.coreLive k = true → c.halted = false → Completes (.haltReq k) s (fun t => (t.core k).halted = true ∧ (t.core k).halt.reason = 0x0B ∧
      (t.core k).halt.source = 6 ∧ (t.core k).halt.addr = c.pc ∧ (t.core k).halt.bank = c.bank ∧ SameMemory s t)) ∧
    Completes (.imCtlSwitch k) s (fun t => (t.slot k).switch = some (s.rd b F.IM_CTL_ENTRY % 16384 / 4 * 4) ∧ (t.slot k).active = x.active ∧ t.core k = c ∧
      SameOthers k s t ∧ SameMemory s t) ∧
    (s.rd b F.EPOCH_CTL_NEXT ≠ x.cur → Completes (.epochAdvance k) s (fun t => (t.slot k).advance = some (s.rd b F.EPOCH_CTL_NEXT) ∧ (t.slot k).cur = x.cur ∧
      SameOthers k s t ∧ SameMemory s t)) ∧
    (s.rd b F.EPOCH_CTL_NEXT = x.cur → discarded (.epochAdvance k)) ∧
    (let base := fld v 0 21
     let sz := fld v 24 4
     (sz = 0 ∨ (4 ≤ sz ∧ 64 * base + 32 * 2 ^ sz ≤ 0x0800_0000) → Completes (.cmpRingWrite k v) s (fun t => t.rd b F.CMP_RING_BASE = base ∧
       t.rd b F.CMP_RING_SIZE_LOG2 = sz ∧ SameRegisters [fkey b F.CMP_RING_BASE 0, fkey b F.CMP_RING_SIZE_LOG2 0] s t ∧ SameWork s t)) ∧
     ((1 ≤ sz ∧ sz ≤ 3) ∨ (sz ≠ 0 ∧ 0x0800_0000 < 64 * base + 32 * 2 ^ sz) → discarded (.cmpRingWrite k v))) ∧
    (∀ i : Fin 16, (c.halted = true ∨ x.started = false → Completes (.tokenRegWrite k i v) s (fun t =>
        (∀ j, j < 4 → t.tok k (4 * i.val + j) = fld v (16 * j) 16) ∧ (∀ j, (j < 4 * i.val ∨ 4 * i.val + 4 ≤ j) → t.tok k j = s.tok k j) ∧ t.core k = c ∧
        SameOthers k s t ∧ SameRegisters [] s t ∧ SameMemory s t)) ∧
      (c.halted = false → x.started = true → discarded (.tokenRegWrite k i v))) ∧
    (v ≠ 0 → Completes (.srSeedWrite k v) s (fun t => t.rd b F.SR_SEED_SEED = v.toNat ∧ (t.slot k).genDraws = 0 ∧ SameOthers k s t ∧ SameMemory s t)) ∧
    (v = 0 → discarded (.srSeedWrite k v)) ∧
    (∀ i : Fin 8, ((x.stack i.val).ctop = 0 → (x.stack i.val).wtop = 0 →
        Completes (.wrRegionWrite k i false v) s (fun t => t.rd b F.WR_REGION_BASE_LINE i.val = put F.WR_REGION_BASE_LINE ∧
          t.rd b F.WR_REGION_RING_LINES i.val = put F.WR_REGION_RING_LINES ∧ SameWork s t) ∧
        Completes (.wrRegionWrite k i true v) s (fun t => t.rd b F.WR_SPILL_BASE i.val = put F.WR_SPILL_BASE ∧
          t.rd b F.WR_SPILL_SPILL_LINES i.val = put F.WR_SPILL_SPILL_LINES ∧ SameWork s t)) ∧
      ((x.stack i.val).ctop ≠ 0 ∨ (x.stack i.val).wtop ≠ 0 → ∀ sp, discarded (.wrRegionWrite k i sp v))) ∧
    (∀ u : BinId, ((s.bin u).queue = [] → (s.bin u).run = none → (s.bin u).jused = 0 → fld v 24 14 ≤ 8191 → Completes (.binCfgWrite u v) s (fun t =>
        t.rd (plotB u.plot.val) F.BIN_CFG_JOURNAL_BASE u.unit.val = fld v 0 21 ∧ t.rd (plotB u.plot.val) F.BIN_CFG_JOURNAL_LINES u.unit.val = fld v 24 14 ∧ SameWork s t)) ∧
      ((s.bin u).queue ≠ [] ∨ (s.bin u).jused ≠ 0 ∨ 8191 < fld v 24 14 → discarded (.binCfgWrite u v)))

/-- Upkeep of the memories (R212, R215, R217, R244, R248, R249): repair corrects the oldest queued line, the sweep repairs what it meets and moves on, a request reads its range and
leaves its summary with the digest of the bytes, refresh changes nothing, and a retirement waits for the boundary. -/
def Obligations.MemoriesAreKeptUp : Prop :=
  ∀ (p : Fin 32) (s : State), s.fallowPlot p.val = false →
    let pl := p.val
    let pb := plotB pl
    let line := fun x => pl * 0x20_0000 + x
    let g := s.glean pl
    (∀ x rest sym, s.mx.repairQ.get [] pl = x :: rest → s.mx.granBad.get [] (line x) = [sym] → Completes (.granaryRepair p) s (fun t =>
      t.mx.granBad.get [] (line x) = [] ∧ (∀ y, y ≠ line x → t.mx.granBad.get [] y = s.mx.granBad.get [] y) ∧ t.mx.repairQ.get [] pl = rest ∧
      t.rd pb F.GRAN_REPAIR_REPAIRED = (s.rd pb F.GRAN_REPAIR_REPAIRED + 1) % 2 ^ F.GRAN_REPAIR_REPAIRED.w ∧ SameMemory s t ∧ t.slots = s.slots)) ∧
    (let pos := s.rd pb F.GLEAN_STAT_POS
     s.plotLive pl = true → s.rd pb F.GLEAN_CFG_ENABLE ≠ 0 → g.req = none → g.swept ≠ some s.passIdx → pos + g.pace < 0x20_0000 → Completes (.gleanSweep p) s (fun t =>
      t.rd pb F.GLEAN_STAT_POS = pos + g.pace ∧ (t.glean pl).swept = some s.passIdx ∧ SameMemory s t ∧ t.slots = s.slots ∧
      ∀ x sym, pos ≤ x → x < pos + g.pace → s.mx.granBad.get [] (line x) = [sym] → t.mx.granBad.get [] (line x) = [])) ∧
    (let start := s.rd pb F.GLEAN_REQ_RANGE_START
     let lines := s.rd pb F.GLEAN_REQ_RANGE_LINES
     (g.req = none → lines ≠ 0 → start + lines ≤ 0x20_0000 → Completes (.gleanRequest p) s (fun t => SameMemory s t ∧ ∃ q, (t.glean pl).req = some q ∧
       q.start = start ∧ q.lines = lines ∧ q.tag = s.rd pb F.GLEAN_REQ_CTL_TAG ∧ q.next = 0 ∧ SameRegisters [] s t)) ∧
     (lines = 0 ∨ 0x20_0000 < start + lines → Completes (.gleanRequest p) s (fun t => SameWork s t ∧ CountsOne pb F.GLEAN_REQ_CTL_REFUSED 0 s t))) ∧
    (∀ q, g.req = some q → s.clean → q.next = 0 → q.denied = false → q.run = {} → q.crc = 0xFFFFFFFFFFFFFFFF → inMemory q.dest = true → s.touchesFallow q.dest 64 = false →
      Completes (.gleanRequestDone p) s (fun t => (t.glean pl).req = none ∧ t.slots = s.slots ∧ num (t.bytes q.dest 64) 0 1 = 2 ∧ num (t.bytes q.dest 64) 4 1 = 0 ∧
        num (t.bytes q.dest 64) 48 8 = crc64 (s.bytes (lineAddr pl q.start) (64 * q.lines)) ∧ num (t.bytes q.dest 64) 56 4 = q.tag % 2 ^ 32)) ∧
    Completes .barnRefresh s (fun t => t = s) ∧ Completes .barnUpkeep s (fun t => t = s) ∧
    (∀ pkg : BitVec 5, (s.retiredPkg = none → pkg.toNat ≤ 17 → Completes (.barnRetireRequest pkg) s (fun t => t = { s with mx.retireDue := s.mx.retireDue ++ [pkg.toNat] })) ∧
      (s.retiredPkg ≠ none ∨ 17 < pkg.toNat → Completes (.barnRetireRequest pkg) s (fun t => t = s))) ∧
    (∀ reports : List Mr4, reports.length ≤ 18 → s.obs.mr4Hot = [] → Completes (.barnMr4Read reports) s (fun t => SameWork s t ∧
      (∀ j, j < reports.length → t.rd barnB F.BARN_PKG_MR4_RATE j = ((reports.map (fun r => r.rate.toNat)).getD j 0)) ∧
      t.rd rstB F.THERM_STAT_BARN_HOT = b2n (reports.any (·.hot))))

/-! ### Reset and the module's edges (chapters 16, 18 and 20) -/

/-- Resets (R409, R412 to R418): RST_CTL's GO and HOLD start the isolation of a plot, cluster or core domain; GO starts the drain or the stop of the fabric domain and the
clearing of the Steward's, and restarts the module where CONFIRM holds 0xA5. A request for a target that is reserved, fallow, retired or inside a domain in reset, and a module
request without CONFIRM, is refused and counted, and nothing else changes. Isolation ends in clearing after 4,096 clk; clearing leaves a plot, cluster or core domain cleared until
the next boundary, held, or running where a release was latched. RELEASE lets a held domain go, and is latched before then. The sources of a module reset and of a power-on reset
(R413, R419, R483, R487) leave every core, Bin unit and Drill at reset, with the fuses kept; a power-on reset leaves no byte of memory either. -/
def Obligations.ResetsIsolateClearAndRelease : Prop :=
  ∀ (who : Requester) (d : RstTarget) (conf : BitVec 8) (s : State),
    let code := RstTarget.code d
    let fresh := fun (t : State) => t.fieldCount = 0 ∧ t.firstPass = false ∧ t.slots = [] ∧ t.bins = [] ∧ t.drills = [] ∧ t.fuses = s.fuses ∧ t.pending = s.pending ∧
      t.boot.pinReset = false
    let restarted := fun (cause : Field) (t : State) => t.rd rstB cause = 1 ∧ fresh t
    let unpowered := fun (t : State) => fresh t ∧ t.boot.powerOn = true ∧ ∀ a, t.byte a = 0
    let refused := fun (t : State) => SameWork s t ∧ CountsOne rstB F.RST_COUNT_REFUSED 0 s t ∧ SameRegisters [fkey rstB F.RST_COUNT_REFUSED 0] s t
    let counted := fun (t : State) => t.rd rstB F.RST_COUNT_DOMAIN_RESETS = (s.rd rstB F.RST_COUNT_DOMAIN_RESETS + 1) % 2 ^ F.RST_COUNT_DOMAIN_RESETS.w
    let part := code = 1 ∨ code = 2 ∨ code = 3
    (∀ src, s.rstSource who = some src →
      (s.targetOk d = true → s.insideReset d = false →
        (s.dom d = .run →
          (part → Completes (.rstGo who d conf) s (fun t => t.dom d = .isolating s.fieldCount false false ∧ SameMemory s t) ∧
            Completes (.rstHold who d conf) s (fun t => t.dom d = .isolating s.fieldCount true false ∧ SameMemory s t)) ∧
          (code = 4 → Completes (.rstGo who d conf) s (fun t => SameMemory s t ∧
            t.dom d = (if s.rd rstB F.RST_CFG_FABRIC_DRAIN = 1 then .isolating s.fieldCount false false else .clearing false false))) ∧
          (code = 5 → Completes (.rstGo who d conf) s (fun t => SameMemory s t ∧ t.dom d = .clearing false false)) ∧
          (code = 6 → conf = 0xA5 → Completes (.rstGo who d conf) s (restarted src.field))) ∧
        (s.dom d = .held → Completes (.rstRelease who d) s (fun t => t.dom d = (if code = 4 then .run else .cleared) ∧ SameMemory s t)) ∧
        (∀ since, s.dom d = .isolating since true false → Completes (.rstRelease who d) s (fun t => t.dom d = .isolating since true true ∧ SameMemory s t)) ∧
        (s.dom d = .clearing true false → Completes (.rstRelease who d) s (fun t => t.dom d = .clearing true true ∧ SameMemory s t))) ∧
      (s.targetOk d = false ∨ s.insideReset d = true ∨ (code = 6 ∧ conf ≠ 0xA5) → Completes (.rstGo who d conf) s refused ∧ Completes (.rstHold who d conf) s refused) ∧
      (s.targetOk d = false ∨ s.insideReset d = true → Completes (.rstRelease who d) s refused)) ∧
    (∀ since hold release, s.dom d = .isolating since hold release → part → since + 4096 ≤ s.fieldCount → Completes (.isolationTimeout d) s (fun t =>
      t.dom d = .clearing hold release ∧ SameMemory s t)) ∧
    (∀ hold release, s.dom d = .clearing hold release → part → Completes (.domainClearDone d) s (fun t => counted t ∧
      t.dom d = (if release then .run else if hold then .held else .cleared) ∧
      (code = 2 → ∀ j, t.tok (RstTarget.core d) j = 0) ∧
      (code ≠ 3 → (t.core (RstTarget.core d)).halted = true ∧ (t.core (RstTarget.core d)).halt.reason = 0 ∧ (t.core (RstTarget.core d)).pc = 0 ∧ SameMemory s t))) ∧
    (∀ since hold release, s.boot.fabricDom = .isolating since hold release →
      ((∀ n, n < 12 → s.heldFrames n = 0) → Completes .fabricDrainDone s (fun t => t.boot.fabricDom = .clearing hold release ∧ SameMemory s t)) ∧
      (since + s.rd rstB F.RST_CFG_DRAIN_LIMIT ≤ s.fieldCount → Completes .fabricDrainLimit s (fun t => t.boot.fabricDom = .clearing hold release ∧ SameMemory s t))) ∧
    (∀ hold release, s.boot.fabricDom = .clearing hold release → Completes .fabricClearDone s (fun t => counted t ∧
      t.boot.fabricDom = (if hold && !release then .held else .run) ∧ SameMemory s t ∧ t.slots = s.slots)) ∧
    (∀ ns, (100 ≤ ns → Completes (.resetLPulse ns) s (restarted F.RST_CAUSE_RESET_L)) ∧ (ns < 100 → Completes (.resetLPulse ns) s (fun t => t = s))) ∧
    Completes .pwrGoodLow s (fun t => unpowered t ∧ t.boot.pinPwrGood = false) ∧ Completes .railsStop s unpowered ∧ Completes .refclkLoss s unpowered ∧
    Completes .pwrGoodHigh s (fun t => t = { s with boot.pinPwrGood := true, boot.powerOn := false }) ∧
    (∀ u w, Completes (.criticalError u w) s (fun t => restarted F.RST_CAUSE_CRITICAL t ∧ t.rd rstB F.RST_CAUSE_CRIT_UNIT = u.toNat % 2 ^ F.RST_CAUSE_CRIT_UNIT.w)) ∧
    (let n := s.rd rstB F.WDOG_CFG_PASSES
     let near := ∃ p, s.boot.wdogFirst = some p ∧ s.passIdx ≤ p + 4 * n
     n ≠ 0 → n ≤ s.boot.wdogCount → s.firstPass = true → s.boot.stewardDom = .run →
      (s.rd rstB F.WDOG_CFG_ESCALATE = 0 ∨ ¬near → Completes .watchdogExpiry s (fun t => t.boot.stewardDom = .clearing false false ∧ t.boot.wdogCount = 0 ∧
        CountsOne rstB F.RST_COUNT_WDOG_EXPIRIES 0 s t ∧ SameWork s t)) ∧
      (s.rd rstB F.WDOG_CFG_ESCALATE ≠ 0 → near → Completes .watchdogExpiry s (restarted F.RST_CAUSE_WATCHDOG))) ∧
    Completes (.wdogKick .steward) s (fun t => t = { s with boot.wdogCount := 0 }) ∧ (who ≠ .steward → Completes (.wdogKick who) s (fun t => t = s))

/-- The module's edges (R453, R454, R484, R485, R489 to R494): an outvoted sequencer is noted for retirement, a rail's second lost phase holds its region at stretch and drives FAULT_L low, sensors warn and
trip, the TAP's instructions, the burn of a site fuse group, and the ports' test block. Instructions that drive the pins act only while RESET_L reads low. -/
def Obligations.SensorsScanAndTest : Prop :=
  ∀ (n : Fin 12) (lane : Fin 9) (s : State),
    let b := portB n.val
    let restarted := fun (cause : Field) (t : State) => t.rd rstB cause = 1 ∧ t.fieldCount = 0 ∧ t.slots = [] ∧ t.fuses = s.fuses
    (∀ u, (s.rd telB F.FLT_SEQ_C0_RETIRED = 0 → s.rd telB F.FLT_SEQ_C1_RETIRED = 0 → s.rd telB F.FLT_SEQ_VOTERS_RETIRED ≠ 0xF →
        s.boot.seqRetire = [] → Completes (.sequencerDisagreement u) s (fun t => u ∈ t.boot.seqRetire ∧ t.rd seqB F.SEQ_STAT_MISMATCH = 1 ∧ CountsOne telB F.FLT_SEQ_VOTES 0 s t ∧ SameWork s t)) ∧
      (s.rd telB F.FLT_SEQ_VOTERS_RETIRED = 0xF → Completes (.sequencerDisagreement u) s (restarted F.RST_CAUSE_CRITICAL))) ∧
    (∀ rail : Fin 16, Completes (.regulatorPhaseLoss rail) s (fun t => (t.rd telB F.FLT_VR_PHASE_LOST).testBit rail.val = true ∧ SameWork s t ∧
      t.boot.phasesLost.get 0 rail.val = s.boot.phasesLost.get 0 rail.val + 1 ∧
      (s.boot.phasesLost.get 0 rail.val ≠ 0 → (t.rd telB F.FLT_VR_RAIL_STRETCH).testBit rail.val = true ∧ t.rd telB F.FLT_STAT_UNMASKED = 1 ∧ t.faultPin = false) ∧
      (s.boot.phasesLost.get 0 rail.val = 0 → t.rd telB F.FLT_VR_RAIL_STRETCH = s.rd telB F.FLT_VR_RAIL_STRETCH))) ∧
    (∀ temps : List (BitVec 8), temps.length = 20 →
      (s.boot.thermalHold = false → (∀ x ∈ temps, x.toInt < 110) → Completes (.thermalSense temps) s (fun t => SameWork s t ∧
        (∀ j, j < 20 → t.rd rstB F.THERM_SENSE_TEMP j = (temps.getD j 0).toNat) ∧
        t.rd rstB F.THERM_STAT_WARN = b2n (temps.any (fun x => decide ((s.rd rstB F.THERM_CFG_WARN : Int) ≤ x.toInt))))) ∧
      (s.boot.thermalHold = false → (∃ x ∈ temps, 110 ≤ x.toInt) → Completes (.thermalSense temps) s (fun t => restarted F.RST_CAUSE_THERMAL t ∧
        t.boot.thermalHold = true ∧ t.boot.pinTherm = false)) ∧
      (s.boot.thermalHold = true → (∀ x ∈ temps, x.toInt ≤ 90) → Completes (.thermalSense temps) s (fun t => t.boot.thermalHold = false ∧ SameWork s t))) ∧
    (∀ vin iin pin avg, (avg.toNat ≤ 2200 → Completes (.powerSense vin iin pin avg) s (fun t => t.rd rstB F.PWR_STAT_VIN = vin.toNat % 2 ^ F.PWR_STAT_VIN.w ∧
        t.rd rstB F.PWR_STAT_IIN = iin.toNat % 2 ^ F.PWR_STAT_IIN.w ∧ t.rd rstB F.PWR_STAT_PIN = pin.toNat % 2 ^ F.PWR_STAT_PIN.w ∧
        t.rd rstB F.PWR_STAT_CAP_ACTIVE = b2n (decide (s.rd rstB F.PWR_CAP_LIMIT < pin.toNat)) ∧ SameWork s t)) ∧
      (2200 < avg.toNat → Completes (.powerSense vin iin pin avg) s (restarted F.RST_CAUSE_OVERPOWER))) ∧
    Completes .bypass s (fun t => t = { s with obs.jtag := .bypass, obs.tdo := 0 }) ∧
    Completes .idcode s (fun t => t = { s with obs.jtag := .idcode, obs.tdo := 0xB4B12A63 }) ∧
    (∀ pins cells, Completes (.samplePreload pins cells) s (fun t => t = { s with obs.jtag := .sample, obs.sampledPins := pins, obs.scanCells := cells })) ∧
    (∀ cells, s.boot.pinReset = false →
      Completes (.extest cells) s (fun t => t = { s with obs.jtag := .extest, obs.scanCells := cells }) ∧
      Completes (.extestPulse cells) s (fun t => t = { s with obs.jtag := .extestPulse, obs.scanCells := cells }) ∧
      Completes (.extestTrain cells) s (fun t => t = { s with obs.jtag := .extestTrain, obs.scanCells := cells }) ∧
      Completes .clamp s (fun t => t = { s with obs.jtag := .clamp }) ∧ Completes .highz s (fun t => t = { s with obs.jtag := .highz })) ∧
    (∀ cells g v, s.boot.pinReset = true → ∀ i ∈ [Instr.extest cells, .extestPulse cells, .extestTrain cells, .clamp, .highz, .siteFuse g v],
      Completes i s (fun t => t = { s with obs.jtag := .bypass, obs.tdo := 0 })) ∧
    (∀ g v, s.boot.pinReset = false → s.hay.burn = none →
      (s.burnRefused g = false → Completes (.siteFuse g v) s (fun t => t.hay.burn = some (g, v) ∧ SameWork s t)) ∧
      (s.burnRefused g = true → Completes (.siteFuse g v) s (fun t => t.hay = s.hay ∧ t.obs.tdo = 1 ∧ SameWork s t))) ∧
    (∀ g v r, s.hay.burn = some (g, v) → Completes (.siteFuseBurnDone r) s (fun t => t.hay.burn = none ∧ t.mem = s.mem ∧ t.slots = s.slots ∧ t.csr = s.csr ∧
      t.fuses = (match g with
        | .siteOptHash => { s.fuses with siteOptHash := r }
        | .ownerHash => { s.fuses with ownerHash := r }
        | .custodianHash => { s.fuses with custodianHash := r }
        | .siteOnly => { s.fuses with siteOnly := r.getLsbD 0 }) ∧ (g ≠ .siteOnly → (t.obs.tdo = 0 ↔ r = v)))) ∧
    (∀ a, Completes (.i3cDynamicAddressAssign a) s (fun t => t = { s with obs.i3cAddr := some a })) ∧
    (s.pst n.val = pDISABLED ∨ s.pst n.val = pDRAINED → Completes (.ptTestEnable n true) s (fun t => t.rd b F.PT_TEST_TEST_EN = 1 ∧ t.pst n.val = s.pst n.val ∧ SameWork s t)) ∧
    (s.rd b F.PT_TEST_TEST_EN ≠ 0 → Completes (.ptTestEnable n false) s (fun t => t.rd b F.PT_TEST_TEST_EN = 0 ∧ (∀ j, j < 9 → t.rd b F.PT_ERR_LOCK j = 0) ∧ SameWork s t)) ∧
    Completes (.ptTestClear n) s (fun t => (∀ j, j < 9 → t.rd b F.PT_ERR_ERRORS j = 0 ∧ t.rd b F.PT_ERR_LOCK_LOSSES j = 0 ∧ t.rd b F.PT_BITS_BITS j = 0 ∧
      t.rd b F.PT_ERR_LOCK j = s.rd b F.PT_ERR_LOCK j) ∧ SameWork s t) ∧
    Completes (.ptMarginGo n) s (fun t => t.rd b F.PT_MARGIN_RES_DONE = 0 ∧ SameWork s t) ∧
    (∀ e, s.rd b F.PT_MARGIN_RES_DONE = 0 → Completes (.marginScanDone n e) s (fun t => t.rd b F.PT_MARGIN_RES_DONE = 1 ∧
      t.rd b F.PT_MARGIN_RES_ERRORS = min e (2 ^ 40 - 1) ∧ SameWork s t)) ∧
    (s.rd b F.PT_TEST_TEST_EN ≠ 0 → (s.rd b F.PT_TEST_CHK_LANES).testBit lane.val = true → Completes (.ptCheckerLock n lane) s (fun t =>
      t.rd b F.PT_ERR_LOCK lane.val = 1 ∧ SameWork s t)) ∧
    (s.rd b F.PT_ERR_LOCK lane.val ≠ 0 → Completes (.ptCheckerLockLoss n lane) s (fun t => t.rd b F.PT_ERR_LOCK lane.val = 0 ∧
      CountsOne b F.PT_ERR_LOCK_LOSSES lane.val s t ∧ SameWork s t))

/-! ### Start-up and the loader (chapter 15) -/

/-- Start-up (R391 to R398, R246, R32, R35): each step follows the ones it depends on; a failed one stops in FAILED with its code, every port DISABLED, the Steward halted and FAULT_L low. The option block is
loaded, the fills leave zeros, a boot slot is verified, the Steward initialises, and with all three the time state may leave FREE. -/
def Obligations.StartUpRunsItsSteps : Prop :=
  ∀ s : State,
    let failed := fun (code : Nat) (t : State) => t.bootState = 0xF ∧ t.rd rstB F.BOOT_STAT_FAIL_CODE = code ∧ (∀ n, n < 12 → t.pst n = pDISABLED) ∧
      t.faultPin = false ∧ t.boot.stewardOk = false ∧ t.mem = s.mem ∧ t.slots = s.slots
    let filling := 2 ≤ s.bootState ∧ s.bootState ≠ 0xF
    (s.bootState = 0 → s.boot.powerOn = false → s.boot.pinPwrGood = true → s.boot.thermalHold = false → Completes .bootStart s (fun t =>
      t.bootState = 1 ∧ t.boot.pinReset = true ∧ SameWork s t ∧ SameRegisters [fkey rstB F.BOOT_STAT_STATE 0] s t)) ∧
    (∀ block sig, s.bootState = 1 → block.length = 256 →
      Completes (.optionBlockVerified false block sig) s (failed 1) ∧
      Completes (.optionBlockVerified true block sig) s (fun t =>
        if num block 0 4 ≠ 0x5450_4F4B ∨ num block 4 2 ≠ 1 then failed 2 t
        else if s.optSigOk block sig = false then failed 3 t
        else if optFails block ≠ [] then failed 4 t ∧ t.rd rstB F.BOOT_STAT_OPT_OFFSET ∈ optFails block ∧
          ∀ a ∈ optFails block, t.rd rstB F.BOOT_STAT_OPT_OFFSET ≤ a
        else t.bootState = 2 ∧ t.boot.optOk = true ∧ t.rd barnB F.BARN_STAT_STATE = 1 ∧ (∀ a, a < 256 → t.optByte a = block.getD a 0) ∧ SameWork s t)) ∧
    (∀ spares, filling → s.boot.granFilled = false → Completes (.granaryFillDone spares) s (fun t => t.boot.granFilled = true ∧
      (∀ a, t.byte a = if a < 0x0001_0000_0000 then 0 else s.byte a) ∧ t.slots = s.slots ∧
      ∀ p, p < 32 → spares.getLsbD p = true → s.fallowPlot p = false → t.rd 0 F.PLOT_MAP_SPARE_RETIRED p = 1)) ∧
    (∀ lost : BitVec 18, filling → s.boot.barnFilled = false →
      let ks := (List.range 18).filter (fun k => lost.getLsbD k)
      let filled := fun (t : State) => t.boot.barnFilled = true ∧ t.slots = s.slots ∧
        ∀ a, t.byte a = if 0x0080_0000_0000 ≤ a ∧ a < 0x0100_0000_0000 then 0 else s.byte a
      (ks = [] → Completes (.barnFillDone lost) s (fun t => filled t ∧ t.rd barnB F.BARN_STAT_STATE = 3)) ∧
      (∀ k, ks = [k] → Completes (.barnFillDone lost) s (fun t => filled t ∧ t.rd barnB F.BARN_STAT_STATE = 4 ∧ t.rd barnB F.BARN_STAT_RETIRED_PKG = k)) ∧
      (2 ≤ ks.length → Completes (.barnFillDone lost) s (failed 6))) ∧
    (∀ image, let b := s.slotDue
      let bad := fun second : Bool => if second then F.BOOT_STAT_SLOT_B_BAD else F.BOOT_STAT_SLOT_A_BAD
      (s.bootState = 2 → s.boot.stewardDom = .run → Completes (.bootImageVerified b image) s (fun t =>
        if s.imageOk image then t.bootState = 3 ∧ t.rd rstB F.BOOT_STAT_SLOT = b2n b ∧ t.boot.imageSvn = num image 0x0C 4 ∧ SameWork s t
        else if s.rd rstB (bad (!b)) = 0 then t.bootState = 2 ∧ t.rd rstB (bad b) = 1 ∧ SameWork s t
        else failed 5 t)) ∧
      (∀ hold release, s.bootState ≠ 0xF → 2 < s.bootState → s.boot.stewardDom = .clearing hold release →
        Completes (.bootImageVerified b image) s (fun t => SameWork s t ∧
          (s.imageOk image = true → t.boot.stewardDom = (if hold && !release then .held else .run) ∧ t.bootState = s.bootState)))) ∧
    (s.bootState = 3 →
      Completes (.stewardInitDone true) s (fun t => t.boot.stewardOk = true ∧ t.bootState = (if s.boot.granFilled && s.boot.barnFilled then 5 else 4) ∧
        t.mem = s.mem ∧ t.slots = s.slots) ∧
      Completes (.stewardInitDone false) s (failed 7) ∧ Completes .stewardInitTimeout s (failed 7)) ∧
    (s.timeFree = true → s.rd seqB F.TIME_STAT_STATE = 0 → (∀ n, n < 12 → s.rd (portB n) F.PORT_NBR_VALID = 0) → Completes .noNeighbourTimeout s (fun t =>
      t.rd seqB F.TIME_STAT_STATE = 4 ∧ t.rd seqB F.TIME_STAT_ROOT_ID = s.device % 0x10000 ∧ t.rd seqB F.TIME_STAT_HOPS_TO_ROOT = 0 ∧
      t.rd seqB F.TIME_STAT_PARENT_PORT = 0xF ∧ SameWork s t)) ∧
    (∀ since, s.obs.holdoverSince = some since → s.rd seqB F.TIME_STAT_STATE = 3 → since + 1024 * 1500 < s.fieldCount → s.obs.errQ = [] →
      Completes .holdoverExpiry s (fun t => t.obs.holdoverSince = none ∧ t.rd seqB F.TIME_STAT_STATE = 3 ∧ SameWork s t ∧
        ∃ r, t.obs.errQ = [r] ∧ fld r.w0 0 8 = 0x10))

/-- The loader (R402 to R405): the Steward takes the next new request, reads the image, reports the verdict into the request's slot and nowhere else. A refusal moves nothing and is
counted; LOAD installs the sections, START starts cores that never ran and requests the bank switch of the others, UNLOAD reports once the queues have drained. -/
def Obligations.LoaderTakesItsRequests : Prop :=
  ∀ (part req : Fin 32) (s : State),
    let p := part.val
    let reported := fun (r : LoaderReq) (status : Nat) (f : Finding) (t : State) =>
      t.bytes (r.addr + 64) 64 = reportBytes s.stamp r.seq status f ∧ t.rd rstB F.LOADER_STAT_BUSY = 0
    let elsewhere := fun (r : LoaderReq) (t : State) => ∀ a, a < r.addr + 64 ∨ r.addr + 128 ≤ a → t.byte a = s.byte a
    let refused := fun (r : LoaderReq) (f : Finding) (t : State) => reported r 2 f t ∧ elsewhere r t ∧ t.slots = s.slots ∧ t.boot = s.boot ∧
      CountsOne rstB F.LOADER_STAT_REFUSALS 0 s t ∧ t.rd rstB F.LOADER_STAT_LAST_CODE = f.code ∧ t.rd rstB F.LOADER_STAT_LAST_PART = p
    s.clean → s.stewardRuns = true →
    Completes .loaderScan s (fun t => t.rd rstB F.LOADER_STAT_BUSY = b2n (s.loaderNext.isSome || s.boot.unload.isSome) ∧ SameWork s t ∧
      SameRegisters [fkey rstB F.LOADER_STAT_BUSY 0] s t) ∧
    (∀ r, s.boot.unload = none → s.loaderNext = some (p, req.val, r) → regionOf r.addr = .barn →
      let read := s.memRead false true 28 r.image r.len
      let verdict := read.2.2.loadChecks p read.2.1
      let warned := if verdict.warnings = 0 then 1 else 3
      (∀ c, (c = Instr.loaderCheck part req ∧ r.op = 1) ∨ (c = Instr.loaderLoad part req ∧ r.op = 2) →
        (s.inPart p r.image r.len = false → Completes c s (refused r { code := 4, detail := r.image })) ∧
        (s.inPart p r.image r.len = true → r.image % 64 ≠ 0 → Completes c s (refused r { code := 1 })) ∧
        (s.inPart p r.image r.len = true → r.image % 64 = 0 → Completes c s (fun t =>
          if verdict.code ≠ 0 then refused r verdict t
          else reported r warned verdict t ∧
            (r.op = 1 → elsewhere r t ∧ t.slots = s.slots ∧ t.boot = s.boot) ∧
            (r.op = 2 → CountsOne rstB F.LOADER_STAT_LOADS 0 s t ∧
              t.boot.images.find? p = some { addr := r.image, len := r.len, digest := sub read.2.1 0x20 48 } ∧
              ∀ x k, sectionsOf read.2.1 = [x] → s.physOf x.target = some k →
                (x.type ≤ 2 → elsewhere r t) ∧
                (x.type = 1 → ∀ i, i < x.length →
                  ((t.slot k).im (if (s.slot k).started then !(s.slot k).active else (s.slot k).active)).get 0 i = read.2.1.getD (x.offset + i) 0) ∧
                (x.type = 2 → ∀ i, i < x.length → (t.slot k).dmem.get 0 i = read.2.1.getD (x.offset + i) 0))))) ∧
      (r.op = 3 → s.boot.images.find? p = none → Completes (.loaderStart part req) s (refused r { code := 0x14 })) ∧
      (∀ i, r.op = 3 → s.boot.images.find? p = some i →
        let read := s.memRead false true 28 i.addr i.len
        let verdict := read.2.2.startChecks p r i read.2.1
        read.1 = rOK →
        Completes (.loaderStart part req) s (fun t =>
          if verdict.code ≠ 0 then refused r verdict t
          else reported r 4 {} t ∧ elsewhere r t ∧ t.boot.images.find? p = some { i with started := true } ∧
            ∀ n ∈ imageClusters read.2.1, ∀ k, s.physOf n = some k →
              ((s.slot k).started = false → (s.core k).furrows = [] → (s.core k).kept = [] → (s.core k).saved = none → (t.slot k).started = true ∧
                (t.core k).halted = false ∧ (t.core k).pc = 0 ∧ t.g k 1 = BitVec.ofNat 64 r.start) ∧
              ((s.slot k).started = true → (t.slot k).switch = some 0 ∧ (t.slot k).switchPass = s.passIdx + s.passesTo r.start))) ∧
      (r.op = 4 → Completes (.loaderUnload part req) s (fun t => t.boot.unload = some (p, req.val, false) ∧ SameWork s t ∧
        t.rd rstB F.LOADER_STAT_BUSY = 1 ∧ SameRegisters [fkey rstB F.LOADER_STAT_BUSY 0] s t))) ∧
    (∀ r, s.boot.unload = some (p, req.val, true) → s.loaderReq p req.val = some r → regionOf r.addr = .barn →
      (s.drained p = true → Completes (.loaderUnload part req) s (fun t => t.boot.unload = none ∧ t.boot.images.find? p = none ∧ reported r 5 {} t ∧
        elsewhere r t ∧ t.slots = s.slots)) ∧
      (s.drained p = false → Completes (.loaderUnload part req) s (fun t => t = s)))

/-! ### Hayward (chapter 17) -/

/-- Change records, fills and attestation (R429 to R431, R435, R437): a submitted record is read and verified; accepted, it waits for its Pass, refused, it leaves its code and item and
changes nothing; a joining plot and a new Barn extent are zero once filled; the report goes to its destination. -/
def Obligations.RecordsFillsAndReports : Prop :=
  ∀ s : State, s.clean →
    (let a := s.rd hayB F.HW_SUBMIT_ADDR / 64 * 64
     (s.hay.verifying.isSome = true → Completes .changeRecordSubmit s (fun t => t.hay = s.hay ∧ CountsOne hayB F.HW_STAT_REFUSED 0 s t ∧ SameWork s t)) ∧
     (s.hay.verifying = none → regionOf a = .barn → Completes .changeRecordSubmit s (fun t =>
       t.hay = { s.hay with verifying := some (s.bytes a (recLen (num (s.bytes a 64) 6 2))) } ∧ SameMemory s t ∧ t.slots = s.slots))) ∧
    (∀ r, s.hay.verifying = some r → s.hay.heldRec = none →
      let u : State := { s with hay.verifying := none }
      Completes .changeRecordVerified s (fun t => t.hay.verifying = none ∧ t.rd hayB F.HW_STAT_AT_APPLY = 0 ∧ SameWork s t ∧
        match u.submitFails r with
        | some (code, item) => t.hay.pendingRecs = s.hay.pendingRecs ∧ t.hay.keys = s.hay.keys ∧ t.rd hayB F.HW_STAT_LAST_CODE = code ∧
          t.rd hayB F.HW_STAT_LAST_ITEM = item ∧ CountsOne hayB F.HW_STAT_REFUSED 0 s t
        | none => t.hay.pendingRecs = s.hay.pendingRecs ++ [⟨r, s.passIdx + s.passesAhead r⟩] ∧ t.rd hayB F.HW_STAT_LAST_CODE = 0 ∧
          t.rd hayB F.HW_STAT_LAST_ITEM = 0xFF)) ∧
    (∀ p : Fin 32, p.val ∈ s.hay.fillPlots → (∀ u : Fin 8, (s.bin ⟨p, u⟩).furrows = []) → Completes (.plotJoinFillDone p) s (fun t =>
      (∀ a, t.byte a = if lineAddr p.val 0 ≤ a ∧ a < lineAddr (p.val + 1) 0 then 0 else s.byte a) ∧ t.boot.plotDoms.get Dom.run p.val = .cleared ∧
      t.hay.fillPlots = s.hay.fillPlots.filter (· ≠ p.val))) ∧
    (∀ e : Fin 64, e.val ∈ s.hay.fillExts →
      let lo := 0x0080_0000_0000 + s.rd hayB F.BARN_EXT_BASE e.val * 0x20_0000
      let n := s.rd hayB F.BARN_EXT_UNITS e.val * 0x20_0000
      Completes (.barnExtentFillDone e) s (fun t => (∀ a, t.byte a = if lo ≤ a ∧ a < lo + n then 0 else s.byte a) ∧
        t.rd hayB F.BARN_EXT_FILLING e.val = 0 ∧ t.hay.fillExts = s.hay.fillExts.filter (· ≠ e.val) ∧ t.slots = s.slots)) ∧
    Completes .attestationRequest s (fun t => t = { s with hay.attesting := true }) ∧
    (let a := s.rd hayB F.ATT_DEST_ADDR / 64 * 64
     s.hay.attesting = true → regionOf a = .barn → Completes .attestationReportWritten s (fun t => t.hay = { s.hay with attesting := false } ∧
       t.bytes a 512 = s.report ∧ (∀ b, b < a ∨ a + 512 ≤ b → t.byte b = s.byte b) ∧
       t.rd hayB F.ATT_CTL_REPORTS = (s.rd hayB F.ATT_CTL_REPORTS + 1) % 2 ^ F.ATT_CTL_REPORTS.w ∧ t.slots = s.slots)) ∧
    (s.hay.attesting = false → Completes .attestationReportWritten s (fun t => t = s))

/-! ### Telemetry and debug (chapters 18 and 19) -/

/-- Records on their way (R458 to R461, R467 to R475): the oldest queued error record goes to its place in the ring; a congestion record closes its span; samples and marks enter the
trace queue while it has room, behind what it holds unless a record of the same STAMP comes after them; eight records go out as a block; a trace starts and stops as it is asked; and snapshots, peaks and the debug stop. -/
def Obligations.RecordsAndTraces : Prop :=
  ∀ s : State,
    let tell := fun (a n : Nat) (bs : List Byte) (t : State) => t.bytes a n = bs ∧ (∀ b, b < a ∨ a + n ≤ b → t.byte b = s.byte b) ∧ t.slots = s.slots
    let alone := ∀ r ∈ s.obs.traceQ, r.getD 1 0 ≠ BitVec.ofNat 64 s.stamp
    let queued := fun (ws : List W64) (t : State) => ∃ w, t.obs.traceQ = traceEnter s.obs.traceQ w ∧ (alone → t.obs.traceQ = s.obs.traceQ ++ [w]) ∧
      w.length = 8 ∧ w.drop 1 = (ws.drop 1 ++ List.replicate 8 0).take 7 ∧
      fld (w.getD 0 0) 0 18 = fld (ws.headD 0) 0 18 ∧ fld (w.getD 0 0) 32 32 = s.rd telB F.TRACE_WIDX_SEQ % 2 ^ 32 ∧ SameWork s t
    (∀ r rest, s.obs.errQ = r :: rest → s.clean →
      let i := s.rd telB F.ERR_WIDX_WIDX
      let size := 2 ^ s.rd telB F.ERR_RING_SIZE_LOG2
      let a := s.errBase + 64 * (i % size)
      let behind := (i + 2 ^ 32 - s.rd telB F.ERR_RIDX_RIDX) % 2 ^ 32
      regionOf a = .barn → a % 64 = 0 → Completes .errorRecordWrite s (fun t => t.obs.errQ = rest ∧ tell a 64 (r.bytes i) t ∧
        t.rd telB F.ERR_WIDX_WIDX = (i + 1) % 2 ^ 32 ∧
        (size ≤ behind → behind < 2 ^ 31 → CountsOne telB F.ERR_RIDX_OVERWRITTEN 0 s t) ∧
        (behind < size → t.rd telB F.ERR_RIDX_OVERWRITTEN = s.rd telB F.ERR_RIDX_OVERWRITTEN))) ∧
    (let i := 2 ^ s.rd telB F.CONG_CFG_INTERVAL_LOG2
     let cb := s.rd telB F.CONG_CFG_COLLECT_BITS
     let half := s.passNum / i % 2
     let a := (s.rd telB F.CONG_DEST_ADDR / 64 * 64 + 64 * (half * 2 ^ cb + s.device % 2 ^ cb)) % 2 ^ 64
     s.firstPass = true → s.phase = 0 → s.passIdx % i = s.device % i → s.obs.congMade ≠ some s.passIdx →
     let made := fun (t : State) => (∀ w, w < 8 → t.rd telB F.CONG_LAST_WORD w = num s.congBytes (8 * w) 8) ∧
       t.rd telB F.CONG_STAT_SEQ = (s.rd telB F.CONG_STAT_SEQ + 1) % 2 ^ 16 ∧ t.obs.congMade = some s.passIdx
     (s.rd telB F.CONG_CFG_ENABLE ≠ 0 → s.rd telB F.CONG_CFG_SEND = 0 → Completes .congestionRecord s (fun t => made t ∧ SameWork s t)) ∧
     (s.rd telB F.CONG_CFG_ENABLE ≠ 0 → s.rd telB F.CONG_CFG_SEND ≠ 0 → s.clean → a / 2 ^ 48 = s.device → regionOf (a % 2 ^ 48) = .barn →
       Completes .congestionRecord s (fun t => made t ∧ tell (a % 2 ^ 48) 64 s.congBytes t)) ∧
     (s.rd telB F.CONG_CFG_ENABLE = 0 → Completes .congestionRecord s (fun t => t.obs.congMade = some s.passIdx ∧ t.csr = s.csr ∧ SameWork s t))) ∧
    (let ks := ((List.range 32).flatMap slotsOf).filter s.traced
     s.tracing = true → s.rd telB F.TRACE_CFG_SAMPLE_EN ≠ 0 → s.fieldCount % 2 ^ s.rd telB F.TRACE_CFG_PERIOD_LOG2 = 0 → s.obs.sampled ≠ some s.fieldCount →
     s.obs.traceQ.length + ks.length ≤ 1024 → Completes .pcSample s (fun t => t.obs.sampled = some s.fieldCount ∧
       t.obs.traceQ.length = s.obs.traceQ.length + ks.length ∧
       (alone → (t.obs.traceQ.drop s.obs.traceQ.length).map (List.drop 1) = ks.map (fun k => (s.sample k ++ [0]).drop 1) ∧
         t.obs.traceQ.take s.obs.traceQ.length = s.obs.traceQ) ∧
       t.rd telB F.TRACE_WIDX_SEQ % 2 ^ 32 = (s.rd telB F.TRACE_WIDX_SEQ + ks.length) % 2 ^ 32 ∧ SameWork s t)) ∧
    (let w := s.rd telB F.TRACE_WIDX_WIDX
     let a := s.traceBase + 64 * (w % s.traceSlots)
     8 ≤ s.obs.traceQ.length → s.obs.traceFlush = none →
     (s.rd telB F.TRACE_CFG_MODE ≠ 0 → s.traceSlots ≤ w → Completes .traceBlockWrite s (fun t => t.rd telB F.TRACE_STAT_STATE = 3 ∧
       t.rd telB F.TRACE_STAT_FULL = 1 ∧ t.obs.traceQ = [] ∧ SameWork s t)) ∧
     (s.clean → (∀ r ∈ s.obs.traceQ, r.length = 8) → regionOf a = .barn → a % 512 = 0 → (s.rd telB F.TRACE_CFG_MODE = 0 ∨ w < s.traceSlots) →
      Completes .traceBlockWrite s (fun t => tell a 512 ((s.obs.traceQ.take 8).flatMap (fun r => r.flatMap wordBytes)) t ∧
       t.rd telB F.TRACE_WIDX_WIDX = (w + 8) % 2 ^ 32 ∧
       (s.rd telB F.TRACE_CFG_MODE = 0 → t.obs.traceQ = s.obs.traceQ.drop 8 ∧ t.rd telB F.TRACE_STAT_STATE = s.rd telB F.TRACE_STAT_STATE ∧
         (s.traceSlots ≤ w → t.rd telB F.TRACE_STAT_WRAPPED = 1)) ∧
       (s.rd telB F.TRACE_CFG_MODE ≠ 0 → s.traceSlots ≤ w + 8 → t.rd telB F.TRACE_STAT_STATE = 3 ∧ t.rd telB F.TRACE_STAT_FULL = 1 ∧ t.obs.traceQ = [])))) ∧
    (let cause := s.rd telB F.TRACE_STAT_TRIG_CAUSE
     s.rd telB F.TRACE_STAT_STATE = 2 → s.obs.tracePost = some 0 → s.obs.traceFlush = none → Completes .tracePostEnd s (fun t => t.mem = s.mem ∧
       t.rd telB F.TRACE_STAT_TRIG_CAUSE % 8 = cause % 8 ∧
       ((t.obs.traceFlush = some cause ∧ t.obs.traceQ ≠ [] ∧ t.rd telB F.TRACE_STAT_STATE = 2) ∨ (t.obs.traceQ = [] ∧ t.rd telB F.TRACE_STAT_STATE = 3)))) ∧
    (s.tracing = false → s.obs.traceFlush = none → Completes .traceStart s (fun t => t = { s with obs.traceReq := some true })) ∧
    (s.obs.traceFlush.isSome = true → Completes .traceStart s (fun t => t.obs.traceReq = some true ∧ t.rd telB F.TRACE_STAT_ENABLE_PENDING = 1 ∧ SameWork s t)) ∧
    (s.tracing = true → Completes .traceStart s (fun t => t = s) ∧ Completes .traceStop s (fun t => t = { s with obs.traceReq := some false })) ∧
    (s.tracing = false → Completes .traceStop s (fun t => t.obs.traceReq = none ∧ t.rd telB F.TRACE_STAT_ENABLE_PENDING = 0 ∧ SameWork s t)) ∧
    (s.rd telB F.TRACE_STAT_STATE = 3 → Completes .traceRestart s (fun t => t.rd telB F.TRACE_STAT_STATE = 0 ∧ t.rd telB F.TRACE_WIDX_WIDX = 0 ∧
      t.rd telB F.TRACE_WIDX_SEQ = 0 ∧ SameWork s t)) ∧
    (s.rd telB F.TRACE_STAT_STATE ≠ 3 → Completes .traceRestart s (fun t => t = s)) ∧
    (∀ k v, s.tracing = true → s.obs.traceQ.length < 1024 → s.rd telB F.TRACE_CFG_MARK_EN ≠ 0 → s.traced k = true → Completes (.traceMarkWrite k v) s
      (queued (traceHdr 4 k.plot.val k.slot.val s.stamp ++ [v]))) ∧
    (∀ k v, s.rd telB F.TRACE_CFG_MARK_EN = 0 ∨ s.traced k = false ∨ s.tracing = false → Completes (.traceMarkWrite k v) s (fun t => t = s)) ∧
    Completes .telSnap s (fun t => t = { s with obs.snapReq := true }) ∧
    Completes .clearPeaks s (fun t => (∀ n v, n < 12 → v < 8 → t.rd (portB n) F.PT_Q_PEAK v = 0) ∧ SameWork s t ∧
      SameRegisters ((List.range 12).flatMap (fun n => (List.range 8).map (fun v => fkey (portB n) F.PT_Q_PEAK v))) s t) ∧
    (let stop := s.rd telB F.DBG_STOP_STOP_PASS
     Completes .dbgStopGo s (fun t => t.obs.dbgArm = some (if s.passNum < stop then s.passIdx + (stop - s.passNum) else s.passIdx + 1) ∧
       t.rd telB F.DBG_STAT_STOPPED = 0 ∧ SameWork s t ∧ SameRegisters [fkey telB F.DBG_STAT_STOPPED 0] s t))

/-! ### The whole block -/

/-- Reset (R31, R147, R391 and the register tables): the state after reset is sound; the field counter is 0 in state FREE, no start-up step has been taken and no Pass begun; every core
is halted and was never started, no unit holds a descriptor, and the registers read the values that their tables give for reset. The fuses and the option block it shows are the model's
choice (logs 4 and 5), and so is what the memories hold before their fills. -/
def Obligations.ResetLeavesTheTabledValues : Prop :=
  let s := State.reset
  s.sound = true ∧ s.fieldCount = 0 ∧ s.firstPass = false ∧ s.pending = [] ∧ s.bootState = 0 ∧ s.rd seqB F.TIME_STAT_STATE = 0 ∧
  (∀ k, (s.core k).halted = true ∧ (s.slot k).started = false ∧ (s.slot k).matQ = [] ∧ (s.slot k).vecQ = [] ∧ (s.slot k).dmQ = [] ∧
    s.rd (slotB k) F.CORE_STAT_HALTED = 1) ∧
  (∀ b, (s.bin b).queue = []) ∧ (∀ p, (s.drill p).queue = []) ∧ (∀ q, s.qpState q = 0) ∧
  (∀ n, n < 12 → s.pst n = pDISABLED ∧ s.rd (portB n) F.PORT_CFG_LINK_TIMEOUT = 512 ∧ s.rd (portB n) F.PORT_CFG_REPLAY_LIMIT = 8 ∧
    s.rd (portB n) F.PORT_CFG_SPARE_THRESH = 256 ∧ s.rd (portB n) F.PORT_STAT_SPARED_LANE = 15 ∧ s.rd (portB n) F.PT_MARGIN_DWELL_LOG2 = 30 ∧
    ∀ j, j < 480 → s.rd (portB n) F.SLOT_SOURCE_A j = 15 ∧ s.rd (portB n) F.SLOT_SOURCE_B j = 15) ∧
  (∀ e ∈ ([(0, F.GLOBAL_ID_STEPPING, 0xB0), (barnB, F.BARN_ID_PACKAGES, 18), (barnB, F.BARN_CFG_RETIRE_THRESH, 64), (barnB, F.BARN_STAT_RETIRED_PKG, 31),
      (routeB, F.ROUTE_CFG_THROTTLE_HI, 384), (routeB, F.ROUTE_CFG_THROTTLE_LO, 128), (collB, F.COLL_CFG_CHECK_LOG2, 8), (collB, F.COLL_CFG_HOLD_LIMIT, 16),
      (hostB, F.QM_CFG_HOST_TIMEOUT, 1000), (hostB, F.QM_CFG_PROBE_PASSES, 64), (rstB, F.WDOG_CFG_PASSES, 1024), (rstB, F.RST_CFG_DRAIN_LIMIT, 65535),
      (rstB, F.RST_CAUSE_POWER_ON, 1), (hayB, F.HW_STAT_LAST_ITEM, 255), (telB, F.FLT_CFG_STRIKE_LIMIT, 3), (telB, F.FLT_CFG_STRIKE_WINDOW, 0x10_0000),
      (telB, F.CONG_CFG_INTERVAL_LOG2, 10), (telB, F.TRACE_CFG_POST_PASSES, 16)] : List (Nat × Field × Nat)), s.rd e.1 e.2.1 = e.2.2)

/-- Whatever the command, and whatever falls due at a clk, a step keeps a sound state sound: the memory stays in its canonical form (addresses rise, no byte is listed that reads
as an unlisted one does) and the register store lists each field once. -/
def Obligations.EveryStepKeepsTheStateSound : Prop :=
  ∀ s t : State, s.sound = true → step s = .next t → t.sound = true
end

