-- ==== Sys2Proof/Laws/SMap.lean ====
section
/-! SUPPORT. What the sorted table does: reading after a change, and that every change keeps the keys rising. -/

namespace Sys2Proof

variable {α : Type}

@[simp] theorem SMap.find?_nil (k : Nat) : SMap.find? ([] : SMap α) k = none := rfl

@[simp] theorem SMap.find?_cons (m : SMap α) (j k : Nat) (v : α) :
    SMap.find? ((j, v) :: m) k = if k = j then some v else SMap.find? m k := rfl

@[simp] theorem SMap.find?_insert (m : SMap α) (j k : Nat) (v : α) :
    (m.insert j v).find? k = if k = j then some v else m.find? k := by
  induction m with
  | nil => rfl
  | cons e t ih =>
    obtain ⟨i, w⟩ := e
    simp only [SMap.insert]
    split
    · rfl
    · split
      · subst_vars; by_cases h : k = i <;> simp [h]
      · by_cases h : k = i
        · subst h; simp_all; omega
        · simp [h, ih]

/-- Reading a table from which entries have been filtered out by key. -/
theorem SMap.find?_filter_key (m : SMap α) (f : Nat → Bool) (k : Nat) :
    SMap.find? (List.filter (fun e => f e.1) m) k = if f k then m.find? k else none := by
  induction m with
  | nil => simp
  | cons e t ih =>
    obtain ⟨i, w⟩ := e
    by_cases hi : f i <;> by_cases hk : k = i
    · simp [hi, hk]
    · simp [hi, hk, ih]
    · subst hk; simp [hi, ih]
    · simp [hi, hk, ih]

@[simp] theorem SMap.find?_erase (m : SMap α) (j k : Nat) : (m.erase j).find? k = if k = j then none else m.find? k := by
  have h := SMap.find?_filter_key m (fun i => decide (i ≠ j)) k
  simp only [SMap.erase, h, decide_eq_true_eq]
  by_cases hk : k = j <;> simp [hk]

@[simp] theorem SMap.find?_keep (m : SMap α) (f : Nat → Bool) (k : Nat) : (m.keep f).find? k = if f k then m.find? k else none :=
  SMap.find?_filter_key m f k

@[simp] theorem SMap.get_insert (d : α) (m : SMap α) (j k : Nat) (v : α) : (m.insert j v).get d k = if k = j then v else m.get d k := by
  unfold SMap.get; by_cases h : k = j <;> simp [h]

@[simp] theorem SMap.get_erase (d : α) (m : SMap α) (j k : Nat) : (m.erase j).get d k = if k = j then d else m.get d k := by
  unfold SMap.get; by_cases h : k = j <;> simp [h]

@[simp] theorem SMap.get_put [DecidableEq α] (d : α) (m : SMap α) (j k : Nat) (v : α) :
    (m.put d j v).get d k = if k = j then v else m.get d k := by
  unfold SMap.put
  by_cases hv : v = d
  · subst hv; simp
  · simp [hv]

@[simp] theorem SMap.get_nil (d : α) (k : Nat) : SMap.get d [] k = d := rfl

/-! ### Rising keys -/

/-- Every key of a table with rising keys lies above the first. -/
theorem SMap.sorted_cons (k : Nat) (v : α) (t : SMap α) : SMap.sorted ((k, v) :: t) = true ↔ SMap.sorted t = true ∧ ∀ e ∈ t, k < e.1 := by
  induction t generalizing k v with
  | nil => simp [SMap.sorted]
  | cons e t ih =>
    obtain ⟨j, w⟩ := e
    simp only [SMap.sorted, Bool.and_eq_true, decide_eq_true_eq, List.mem_cons, forall_eq_or_imp]
    constructor
    · rintro ⟨h, hs⟩
      exact ⟨hs, h, fun e he => Nat.lt_trans h (((ih j w).1 hs).2 e he)⟩
    · rintro ⟨hs, h, _⟩
      exact ⟨h, hs⟩

theorem SMap.sorted_filter (m : SMap α) (f : Nat × α → Bool) (h : SMap.sorted m = true) : SMap.sorted (List.filter f m) = true := by
  induction m with
  | nil => rfl
  | cons e t ih =>
    obtain ⟨k, v⟩ := e
    rw [SMap.sorted_cons] at h
    by_cases hf : f (k, v) = true
    · rw [List.filter_cons_of_pos hf, SMap.sorted_cons]
      exact ⟨ih h.1, fun e he => h.2 e (List.mem_of_mem_filter he)⟩
    · rw [List.filter_cons_of_neg (by simpa using hf)]; exact ih h.1

theorem SMap.mem_insert (m : SMap α) (k : Nat) (v : α) (e : Nat × α) (h : e ∈ m.insert k v) : e = (k, v) ∨ e ∈ m := by
  induction m with
  | nil => simp_all [SMap.insert]
  | cons d t ih =>
    obtain ⟨j, w⟩ := d
    simp only [SMap.insert] at h
    split at h
    · simp only [List.mem_cons] at h ⊢; tauto
    · split at h
      · simp only [List.mem_cons] at h ⊢; tauto
      · simp only [List.mem_cons] at h ⊢
        rcases h with h | h
        · tauto
        · rcases ih h with h | h <;> tauto

theorem SMap.sorted_insert (m : SMap α) (k : Nat) (v : α) (h : SMap.sorted m = true) : SMap.sorted (m.insert k v) = true := by
  induction m with
  | nil => rfl
  | cons d t ih =>
    obtain ⟨j, w⟩ := d
    rw [SMap.sorted_cons] at h
    simp only [SMap.insert]
    split
    · rename_i hk
      rw [SMap.sorted_cons, SMap.sorted_cons]
      refine ⟨h, fun e he => ?_⟩
      rcases List.mem_cons.1 he with rfl | he
      · exact hk
      · exact Nat.lt_trans hk (h.2 e he)
    · split
      · rename_i hk
        rw [SMap.sorted_cons]
        exact ⟨h.1, fun e he => hk ▸ h.2 e he⟩
      · rw [SMap.sorted_cons]
        refine ⟨ih h.1, fun e he => ?_⟩
        rcases SMap.mem_insert t k v e he with rfl | he
        · simp only; omega
        · exact h.2 e he

theorem SMap.sorted_put [DecidableEq α] (d : α) (m : SMap α) (k : Nat) (v : α) (h : SMap.sorted m = true) :
    SMap.sorted (m.put d k v) = true := by
  unfold SMap.put
  split
  · exact SMap.sorted_filter m _ h
  · exact SMap.sorted_insert m k v h

end Sys2Proof
end

