-- ==== Sys2Proof/Laws/Memory.lean ====
section
/-! SUPPORT. The memory: what a byte reads as after a store, and that every operation on it keeps the canonical form. -/

namespace Sys2Proof.Machine

/-- The byte a memory holds at an address. -/
@[simp] theorem byte_mk (s : State) (m : SMap Byte) (a : Nat) : ({ s with mem := m } : State).byte a = SMap.get 0 m a := rfl

theorem memPuts_get (bs : List Byte) (m : SMap Byte) (a b : Nat) :
    (memPuts m a bs).get 0 b = if a ≤ b ∧ b < a + bs.length then bs.getD (b - a) 0 else m.get 0 b := by
  induction bs generalizing m a with
  | nil => simp [memPuts]
  | cons x t ih =>
    rw [memPuts, ih]
    unfold memPut
    by_cases hb : b = a
    · subst hb; simp
    · by_cases h : a + 1 ≤ b ∧ b < a + 1 + t.length
      · have h2 : a ≤ b ∧ b < a + (x :: t).length := by simp; omega
        rw [if_pos h, if_pos h2]
        obtain ⟨n, hn⟩ : ∃ n, b - a = n + 1 := ⟨b - a - 1, by omega⟩
        rw [hn, List.getD_cons_succ]; congr 1; omega
      · have h2 : ¬(a ≤ b ∧ b < a + (x :: t).length) := by simp; omega
        rw [if_neg h, if_neg h2, SMap.get_put, if_neg hb]

/-- A store leaves every byte outside it, and leaves its own bytes there. -/
theorem poke_byte (s : State) (a : Nat) (bs : List Byte) (b : Nat) :
    (s.poke a bs).byte b = if a ≤ b ∧ b < a + bs.length then bs.getD (b - a) 0 else s.byte b := memPuts_get bs s.mem a b

theorem memPut_wf (m : SMap Byte) (a : Nat) (b : Byte) (h : Memory.wf m = true) : Memory.wf (memPut m a b) = true := by
  simp only [Memory.wf, Bool.and_eq_true, List.all_eq_true, decide_eq_true_eq] at h ⊢
  refine ⟨SMap.sorted_put 0 m a b h.1, fun e he => ?_⟩
  unfold memPut SMap.put at he
  split at he
  · exact h.2 e (List.mem_of_mem_filter he)
  · rcases SMap.mem_insert m a b e he with rfl | he
    · assumption
    · exact h.2 e he

theorem memPuts_wf (bs : List Byte) (m : SMap Byte) (a : Nat) (h : Memory.wf m = true) : Memory.wf (memPuts m a bs) = true := by
  induction bs generalizing m a with
  | nil => exact h
  | cons x t ih => exact ih _ _ (memPut_wf m a x h)

theorem keep_wf (m : SMap Byte) (f : Nat → Bool) (h : Memory.wf m = true) : Memory.wf (m.keep f) = true := by
  simp only [Memory.wf, Bool.and_eq_true, List.all_eq_true, decide_eq_true_eq] at h ⊢
  exact ⟨SMap.sorted_filter m _ h.1, fun e he => h.2 e (List.mem_of_mem_filter he)⟩

theorem poke_wf (s : State) (a : Nat) (bs : List Byte) (h : Memory.wf s.mem = true) : Memory.wf (s.poke a bs).mem = true :=
  memPuts_wf bs s.mem a h

end Sys2Proof.Machine
end

