-- ==== Sys2Proof/Laws/State.lean ====
section
/-! SUPPORT. Records and their updates: what each named update leaves, field by field, and what reading gives after it. -/

namespace Sys2Proof.Machine

/-! ### What an update leaves -/

@[simp] theorem wr_pending (s : State) (b : Nat) (f : Field) (v i : Nat) : (s.wr b f v i).pending = s.pending := rfl
@[simp] theorem wr_fieldCount (s : State) (b : Nat) (f : Field) (v i : Nat) : (s.wr b f v i).fieldCount = s.fieldCount := rfl
@[simp] theorem wr_passPoint (s : State) (b : Nat) (f : Field) (v i : Nat) : (s.wr b f v i).passPoint = s.passPoint := rfl
@[simp] theorem wr_firstPass (s : State) (b : Nat) (f : Field) (v i : Nat) : (s.wr b f v i).firstPass = s.firstPass := rfl
@[simp] theorem wr_stretchCredit (s : State) (b : Nat) (f : Field) (v i : Nat) : (s.wr b f v i).stretchCredit = s.stretchCredit := rfl
@[simp] theorem wr_draws (s : State) (b : Nat) (f : Field) (v i : Nat) : (s.wr b f v i).draws = s.draws := rfl
@[simp] theorem wr_opt (s : State) (b : Nat) (f : Field) (v i : Nat) : (s.wr b f v i).opt = s.opt := rfl
@[simp] theorem wr_fuses (s : State) (b : Nat) (f : Field) (v i : Nat) : (s.wr b f v i).fuses = s.fuses := rfl
@[simp] theorem wr_mem (s : State) (b : Nat) (f : Field) (v i : Nat) : (s.wr b f v i).mem = s.mem := rfl
@[simp] theorem wr_mx (s : State) (b : Nat) (f : Field) (v i : Nat) : (s.wr b f v i).mx = s.mx := rfl
@[simp] theorem wr_slots (s : State) (b : Nat) (f : Field) (v i : Nat) : (s.wr b f v i).slots = s.slots := rfl
@[simp] theorem wr_bins (s : State) (b : Nat) (f : Field) (v i : Nat) : (s.wr b f v i).bins = s.bins := rfl
@[simp] theorem wr_drills (s : State) (b : Nat) (f : Field) (v i : Nat) : (s.wr b f v i).drills = s.drills := rfl
@[simp] theorem wr_fab (s : State) (b : Nat) (f : Field) (v i : Nat) : (s.wr b f v i).fab = s.fab := rfl
@[simp] theorem wr_coll (s : State) (b : Nat) (f : Field) (v i : Nat) : (s.wr b f v i).coll = s.coll := rfl
@[simp] theorem wr_host (s : State) (b : Nat) (f : Field) (v i : Nat) : (s.wr b f v i).host = s.host := rfl
@[simp] theorem wr_boot (s : State) (b : Nat) (f : Field) (v i : Nat) : (s.wr b f v i).boot = s.boot := rfl
@[simp] theorem wr_hay (s : State) (b : Nat) (f : Field) (v i : Nat) : (s.wr b f v i).hay = s.hay := rfl
@[simp] theorem wr_obs (s : State) (b : Nat) (f : Field) (v i : Nat) : (s.wr b f v i).obs = s.obs := rfl

@[simp] theorem satAdd_pending (s : State) (b : Nat) (f : Field) (v i : Nat) : (s.satAdd b f v i).pending = s.pending := rfl
@[simp] theorem satAdd_fieldCount (s : State) (b : Nat) (f : Field) (v i : Nat) : (s.satAdd b f v i).fieldCount = s.fieldCount := rfl
@[simp] theorem satAdd_passPoint (s : State) (b : Nat) (f : Field) (v i : Nat) : (s.satAdd b f v i).passPoint = s.passPoint := rfl
@[simp] theorem satAdd_firstPass (s : State) (b : Nat) (f : Field) (v i : Nat) : (s.satAdd b f v i).firstPass = s.firstPass := rfl
@[simp] theorem satAdd_stretchCredit (s : State) (b : Nat) (f : Field) (v i : Nat) : (s.satAdd b f v i).stretchCredit = s.stretchCredit := rfl
@[simp] theorem satAdd_draws (s : State) (b : Nat) (f : Field) (v i : Nat) : (s.satAdd b f v i).draws = s.draws := rfl
@[simp] theorem satAdd_opt (s : State) (b : Nat) (f : Field) (v i : Nat) : (s.satAdd b f v i).opt = s.opt := rfl
@[simp] theorem satAdd_fuses (s : State) (b : Nat) (f : Field) (v i : Nat) : (s.satAdd b f v i).fuses = s.fuses := rfl
@[simp] theorem satAdd_mem (s : State) (b : Nat) (f : Field) (v i : Nat) : (s.satAdd b f v i).mem = s.mem := rfl
@[simp] theorem satAdd_mx (s : State) (b : Nat) (f : Field) (v i : Nat) : (s.satAdd b f v i).mx = s.mx := rfl
@[simp] theorem satAdd_slots (s : State) (b : Nat) (f : Field) (v i : Nat) : (s.satAdd b f v i).slots = s.slots := rfl
@[simp] theorem satAdd_bins (s : State) (b : Nat) (f : Field) (v i : Nat) : (s.satAdd b f v i).bins = s.bins := rfl
@[simp] theorem satAdd_drills (s : State) (b : Nat) (f : Field) (v i : Nat) : (s.satAdd b f v i).drills = s.drills := rfl
@[simp] theorem satAdd_fab (s : State) (b : Nat) (f : Field) (v i : Nat) : (s.satAdd b f v i).fab = s.fab := rfl
@[simp] theorem satAdd_coll (s : State) (b : Nat) (f : Field) (v i : Nat) : (s.satAdd b f v i).coll = s.coll := rfl
@[simp] theorem satAdd_host (s : State) (b : Nat) (f : Field) (v i : Nat) : (s.satAdd b f v i).host = s.host := rfl
@[simp] theorem satAdd_boot (s : State) (b : Nat) (f : Field) (v i : Nat) : (s.satAdd b f v i).boot = s.boot := rfl
@[simp] theorem satAdd_hay (s : State) (b : Nat) (f : Field) (v i : Nat) : (s.satAdd b f v i).hay = s.hay := rfl
@[simp] theorem satAdd_obs (s : State) (b : Nat) (f : Field) (v i : Nat) : (s.satAdd b f v i).obs = s.obs := rfl

@[simp] theorem wrapAdd_pending (s : State) (b : Nat) (f : Field) (v i : Nat) : (s.wrapAdd b f v i).pending = s.pending := rfl
@[simp] theorem wrapAdd_fieldCount (s : State) (b : Nat) (f : Field) (v i : Nat) : (s.wrapAdd b f v i).fieldCount = s.fieldCount := rfl
@[simp] theorem wrapAdd_passPoint (s : State) (b : Nat) (f : Field) (v i : Nat) : (s.wrapAdd b f v i).passPoint = s.passPoint := rfl
@[simp] theorem wrapAdd_firstPass (s : State) (b : Nat) (f : Field) (v i : Nat) : (s.wrapAdd b f v i).firstPass = s.firstPass := rfl
@[simp] theorem wrapAdd_stretchCredit (s : State) (b : Nat) (f : Field) (v i : Nat) : (s.wrapAdd b f v i).stretchCredit = s.stretchCredit := rfl
@[simp] theorem wrapAdd_draws (s : State) (b : Nat) (f : Field) (v i : Nat) : (s.wrapAdd b f v i).draws = s.draws := rfl
@[simp] theorem wrapAdd_opt (s : State) (b : Nat) (f : Field) (v i : Nat) : (s.wrapAdd b f v i).opt = s.opt := rfl
@[simp] theorem wrapAdd_fuses (s : State) (b : Nat) (f : Field) (v i : Nat) : (s.wrapAdd b f v i).fuses = s.fuses := rfl
@[simp] theorem wrapAdd_mem (s : State) (b : Nat) (f : Field) (v i : Nat) : (s.wrapAdd b f v i).mem = s.mem := rfl
@[simp] theorem wrapAdd_mx (s : State) (b : Nat) (f : Field) (v i : Nat) : (s.wrapAdd b f v i).mx = s.mx := rfl
@[simp] theorem wrapAdd_slots (s : State) (b : Nat) (f : Field) (v i : Nat) : (s.wrapAdd b f v i).slots = s.slots := rfl
@[simp] theorem wrapAdd_bins (s : State) (b : Nat) (f : Field) (v i : Nat) : (s.wrapAdd b f v i).bins = s.bins := rfl
@[simp] theorem wrapAdd_drills (s : State) (b : Nat) (f : Field) (v i : Nat) : (s.wrapAdd b f v i).drills = s.drills := rfl
@[simp] theorem wrapAdd_fab (s : State) (b : Nat) (f : Field) (v i : Nat) : (s.wrapAdd b f v i).fab = s.fab := rfl
@[simp] theorem wrapAdd_coll (s : State) (b : Nat) (f : Field) (v i : Nat) : (s.wrapAdd b f v i).coll = s.coll := rfl
@[simp] theorem wrapAdd_host (s : State) (b : Nat) (f : Field) (v i : Nat) : (s.wrapAdd b f v i).host = s.host := rfl
@[simp] theorem wrapAdd_boot (s : State) (b : Nat) (f : Field) (v i : Nat) : (s.wrapAdd b f v i).boot = s.boot := rfl
@[simp] theorem wrapAdd_hay (s : State) (b : Nat) (f : Field) (v i : Nat) : (s.wrapAdd b f v i).hay = s.hay := rfl
@[simp] theorem wrapAdd_obs (s : State) (b : Nat) (f : Field) (v i : Nat) : (s.wrapAdd b f v i).obs = s.obs := rfl

@[simp] theorem setSlot_pending (s : State) (k : CoreId) (x : Slot) : (s.setSlot k x).pending = s.pending := rfl
@[simp] theorem setSlot_fieldCount (s : State) (k : CoreId) (x : Slot) : (s.setSlot k x).fieldCount = s.fieldCount := rfl
@[simp] theorem setSlot_passPoint (s : State) (k : CoreId) (x : Slot) : (s.setSlot k x).passPoint = s.passPoint := rfl
@[simp] theorem setSlot_firstPass (s : State) (k : CoreId) (x : Slot) : (s.setSlot k x).firstPass = s.firstPass := rfl
@[simp] theorem setSlot_stretchCredit (s : State) (k : CoreId) (x : Slot) : (s.setSlot k x).stretchCredit = s.stretchCredit := rfl
@[simp] theorem setSlot_draws (s : State) (k : CoreId) (x : Slot) : (s.setSlot k x).draws = s.draws := rfl
@[simp] theorem setSlot_csr (s : State) (k : CoreId) (x : Slot) : (s.setSlot k x).csr = s.csr := rfl
@[simp] theorem setSlot_opt (s : State) (k : CoreId) (x : Slot) : (s.setSlot k x).opt = s.opt := rfl
@[simp] theorem setSlot_fuses (s : State) (k : CoreId) (x : Slot) : (s.setSlot k x).fuses = s.fuses := rfl
@[simp] theorem setSlot_mem (s : State) (k : CoreId) (x : Slot) : (s.setSlot k x).mem = s.mem := rfl
@[simp] theorem setSlot_mx (s : State) (k : CoreId) (x : Slot) : (s.setSlot k x).mx = s.mx := rfl
@[simp] theorem setSlot_bins (s : State) (k : CoreId) (x : Slot) : (s.setSlot k x).bins = s.bins := rfl
@[simp] theorem setSlot_drills (s : State) (k : CoreId) (x : Slot) : (s.setSlot k x).drills = s.drills := rfl
@[simp] theorem setSlot_fab (s : State) (k : CoreId) (x : Slot) : (s.setSlot k x).fab = s.fab := rfl
@[simp] theorem setSlot_coll (s : State) (k : CoreId) (x : Slot) : (s.setSlot k x).coll = s.coll := rfl
@[simp] theorem setSlot_host (s : State) (k : CoreId) (x : Slot) : (s.setSlot k x).host = s.host := rfl
@[simp] theorem setSlot_boot (s : State) (k : CoreId) (x : Slot) : (s.setSlot k x).boot = s.boot := rfl
@[simp] theorem setSlot_hay (s : State) (k : CoreId) (x : Slot) : (s.setSlot k x).hay = s.hay := rfl
@[simp] theorem setSlot_obs (s : State) (k : CoreId) (x : Slot) : (s.setSlot k x).obs = s.obs := rfl

@[simp] theorem modSlot_pending (s : State) (k : CoreId) (g : Slot → Slot) : (s.modSlot k g).pending = s.pending := rfl
@[simp] theorem modSlot_fieldCount (s : State) (k : CoreId) (g : Slot → Slot) : (s.modSlot k g).fieldCount = s.fieldCount := rfl
@[simp] theorem modSlot_passPoint (s : State) (k : CoreId) (g : Slot → Slot) : (s.modSlot k g).passPoint = s.passPoint := rfl
@[simp] theorem modSlot_firstPass (s : State) (k : CoreId) (g : Slot → Slot) : (s.modSlot k g).firstPass = s.firstPass := rfl
@[simp] theorem modSlot_stretchCredit (s : State) (k : CoreId) (g : Slot → Slot) : (s.modSlot k g).stretchCredit = s.stretchCredit := rfl
@[simp] theorem modSlot_draws (s : State) (k : CoreId) (g : Slot → Slot) : (s.modSlot k g).draws = s.draws := rfl
@[simp] theorem modSlot_csr (s : State) (k : CoreId) (g : Slot → Slot) : (s.modSlot k g).csr = s.csr := rfl
@[simp] theorem modSlot_opt (s : State) (k : CoreId) (g : Slot → Slot) : (s.modSlot k g).opt = s.opt := rfl
@[simp] theorem modSlot_fuses (s : State) (k : CoreId) (g : Slot → Slot) : (s.modSlot k g).fuses = s.fuses := rfl
@[simp] theorem modSlot_mem (s : State) (k : CoreId) (g : Slot → Slot) : (s.modSlot k g).mem = s.mem := rfl
@[simp] theorem modSlot_mx (s : State) (k : CoreId) (g : Slot → Slot) : (s.modSlot k g).mx = s.mx := rfl
@[simp] theorem modSlot_bins (s : State) (k : CoreId) (g : Slot → Slot) : (s.modSlot k g).bins = s.bins := rfl
@[simp] theorem modSlot_drills (s : State) (k : CoreId) (g : Slot → Slot) : (s.modSlot k g).drills = s.drills := rfl
@[simp] theorem modSlot_fab (s : State) (k : CoreId) (g : Slot → Slot) : (s.modSlot k g).fab = s.fab := rfl
@[simp] theorem modSlot_coll (s : State) (k : CoreId) (g : Slot → Slot) : (s.modSlot k g).coll = s.coll := rfl
@[simp] theorem modSlot_host (s : State) (k : CoreId) (g : Slot → Slot) : (s.modSlot k g).host = s.host := rfl
@[simp] theorem modSlot_boot (s : State) (k : CoreId) (g : Slot → Slot) : (s.modSlot k g).boot = s.boot := rfl
@[simp] theorem modSlot_hay (s : State) (k : CoreId) (g : Slot → Slot) : (s.modSlot k g).hay = s.hay := rfl
@[simp] theorem modSlot_obs (s : State) (k : CoreId) (g : Slot → Slot) : (s.modSlot k g).obs = s.obs := rfl

@[simp] theorem setCore_pending (s : State) (k : CoreId) (c : Core) : (s.setCore k c).pending = s.pending := rfl
@[simp] theorem setCore_fieldCount (s : State) (k : CoreId) (c : Core) : (s.setCore k c).fieldCount = s.fieldCount := rfl
@[simp] theorem setCore_passPoint (s : State) (k : CoreId) (c : Core) : (s.setCore k c).passPoint = s.passPoint := rfl
@[simp] theorem setCore_firstPass (s : State) (k : CoreId) (c : Core) : (s.setCore k c).firstPass = s.firstPass := rfl
@[simp] theorem setCore_stretchCredit (s : State) (k : CoreId) (c : Core) : (s.setCore k c).stretchCredit = s.stretchCredit := rfl
@[simp] theorem setCore_draws (s : State) (k : CoreId) (c : Core) : (s.setCore k c).draws = s.draws := rfl
@[simp] theorem setCore_csr (s : State) (k : CoreId) (c : Core) : (s.setCore k c).csr = s.csr := rfl
@[simp] theorem setCore_opt (s : State) (k : CoreId) (c : Core) : (s.setCore k c).opt = s.opt := rfl
@[simp] theorem setCore_fuses (s : State) (k : CoreId) (c : Core) : (s.setCore k c).fuses = s.fuses := rfl
@[simp] theorem setCore_mem (s : State) (k : CoreId) (c : Core) : (s.setCore k c).mem = s.mem := rfl
@[simp] theorem setCore_mx (s : State) (k : CoreId) (c : Core) : (s.setCore k c).mx = s.mx := rfl
@[simp] theorem setCore_bins (s : State) (k : CoreId) (c : Core) : (s.setCore k c).bins = s.bins := rfl
@[simp] theorem setCore_drills (s : State) (k : CoreId) (c : Core) : (s.setCore k c).drills = s.drills := rfl
@[simp] theorem setCore_fab (s : State) (k : CoreId) (c : Core) : (s.setCore k c).fab = s.fab := rfl
@[simp] theorem setCore_coll (s : State) (k : CoreId) (c : Core) : (s.setCore k c).coll = s.coll := rfl
@[simp] theorem setCore_host (s : State) (k : CoreId) (c : Core) : (s.setCore k c).host = s.host := rfl
@[simp] theorem setCore_boot (s : State) (k : CoreId) (c : Core) : (s.setCore k c).boot = s.boot := rfl
@[simp] theorem setCore_hay (s : State) (k : CoreId) (c : Core) : (s.setCore k c).hay = s.hay := rfl
@[simp] theorem setCore_obs (s : State) (k : CoreId) (c : Core) : (s.setCore k c).obs = s.obs := rfl

@[simp] theorem modCore_pending (s : State) (k : CoreId) (g : Core → Core) : (s.modCore k g).pending = s.pending := rfl
@[simp] theorem modCore_fieldCount (s : State) (k : CoreId) (g : Core → Core) : (s.modCore k g).fieldCount = s.fieldCount := rfl
@[simp] theorem modCore_passPoint (s : State) (k : CoreId) (g : Core → Core) : (s.modCore k g).passPoint = s.passPoint := rfl
@[simp] theorem modCore_firstPass (s : State) (k : CoreId) (g : Core → Core) : (s.modCore k g).firstPass = s.firstPass := rfl
@[simp] theorem modCore_stretchCredit (s : State) (k : CoreId) (g : Core → Core) : (s.modCore k g).stretchCredit = s.stretchCredit := rfl
@[simp] theorem modCore_draws (s : State) (k : CoreId) (g : Core → Core) : (s.modCore k g).draws = s.draws := rfl
@[simp] theorem modCore_csr (s : State) (k : CoreId) (g : Core → Core) : (s.modCore k g).csr = s.csr := rfl
@[simp] theorem modCore_opt (s : State) (k : CoreId) (g : Core → Core) : (s.modCore k g).opt = s.opt := rfl
@[simp] theorem modCore_fuses (s : State) (k : CoreId) (g : Core → Core) : (s.modCore k g).fuses = s.fuses := rfl
@[simp] theorem modCore_mem (s : State) (k : CoreId) (g : Core → Core) : (s.modCore k g).mem = s.mem := rfl
@[simp] theorem modCore_mx (s : State) (k : CoreId) (g : Core → Core) : (s.modCore k g).mx = s.mx := rfl
@[simp] theorem modCore_bins (s : State) (k : CoreId) (g : Core → Core) : (s.modCore k g).bins = s.bins := rfl
@[simp] theorem modCore_drills (s : State) (k : CoreId) (g : Core → Core) : (s.modCore k g).drills = s.drills := rfl
@[simp] theorem modCore_fab (s : State) (k : CoreId) (g : Core → Core) : (s.modCore k g).fab = s.fab := rfl
@[simp] theorem modCore_coll (s : State) (k : CoreId) (g : Core → Core) : (s.modCore k g).coll = s.coll := rfl
@[simp] theorem modCore_host (s : State) (k : CoreId) (g : Core → Core) : (s.modCore k g).host = s.host := rfl
@[simp] theorem modCore_boot (s : State) (k : CoreId) (g : Core → Core) : (s.modCore k g).boot = s.boot := rfl
@[simp] theorem modCore_hay (s : State) (k : CoreId) (g : Core → Core) : (s.modCore k g).hay = s.hay := rfl
@[simp] theorem modCore_obs (s : State) (k : CoreId) (g : Core → Core) : (s.modCore k g).obs = s.obs := rfl

@[simp] theorem modFurrow_pending (s : State) (k : CoreId) (n : Nat) (g : Furrow → Furrow) : (s.modFurrow k n g).pending = s.pending := rfl
@[simp] theorem modFurrow_fieldCount (s : State) (k : CoreId) (n : Nat) (g : Furrow → Furrow) : (s.modFurrow k n g).fieldCount = s.fieldCount := rfl
@[simp] theorem modFurrow_passPoint (s : State) (k : CoreId) (n : Nat) (g : Furrow → Furrow) : (s.modFurrow k n g).passPoint = s.passPoint := rfl
@[simp] theorem modFurrow_firstPass (s : State) (k : CoreId) (n : Nat) (g : Furrow → Furrow) : (s.modFurrow k n g).firstPass = s.firstPass := rfl
@[simp] theorem modFurrow_stretchCredit (s : State) (k : CoreId) (n : Nat) (g : Furrow → Furrow) : (s.modFurrow k n g).stretchCredit = s.stretchCredit := rfl
@[simp] theorem modFurrow_draws (s : State) (k : CoreId) (n : Nat) (g : Furrow → Furrow) : (s.modFurrow k n g).draws = s.draws := rfl
@[simp] theorem modFurrow_csr (s : State) (k : CoreId) (n : Nat) (g : Furrow → Furrow) : (s.modFurrow k n g).csr = s.csr := rfl
@[simp] theorem modFurrow_opt (s : State) (k : CoreId) (n : Nat) (g : Furrow → Furrow) : (s.modFurrow k n g).opt = s.opt := rfl
@[simp] theorem modFurrow_fuses (s : State) (k : CoreId) (n : Nat) (g : Furrow → Furrow) : (s.modFurrow k n g).fuses = s.fuses := rfl
@[simp] theorem modFurrow_mem (s : State) (k : CoreId) (n : Nat) (g : Furrow → Furrow) : (s.modFurrow k n g).mem = s.mem := rfl
@[simp] theorem modFurrow_mx (s : State) (k : CoreId) (n : Nat) (g : Furrow → Furrow) : (s.modFurrow k n g).mx = s.mx := rfl
@[simp] theorem modFurrow_bins (s : State) (k : CoreId) (n : Nat) (g : Furrow → Furrow) : (s.modFurrow k n g).bins = s.bins := rfl
@[simp] theorem modFurrow_drills (s : State) (k : CoreId) (n : Nat) (g : Furrow → Furrow) : (s.modFurrow k n g).drills = s.drills := rfl
@[simp] theorem modFurrow_fab (s : State) (k : CoreId) (n : Nat) (g : Furrow → Furrow) : (s.modFurrow k n g).fab = s.fab := rfl
@[simp] theorem modFurrow_coll (s : State) (k : CoreId) (n : Nat) (g : Furrow → Furrow) : (s.modFurrow k n g).coll = s.coll := rfl
@[simp] theorem modFurrow_host (s : State) (k : CoreId) (n : Nat) (g : Furrow → Furrow) : (s.modFurrow k n g).host = s.host := rfl
@[simp] theorem modFurrow_boot (s : State) (k : CoreId) (n : Nat) (g : Furrow → Furrow) : (s.modFurrow k n g).boot = s.boot := rfl
@[simp] theorem modFurrow_hay (s : State) (k : CoreId) (n : Nat) (g : Furrow → Furrow) : (s.modFurrow k n g).hay = s.hay := rfl
@[simp] theorem modFurrow_obs (s : State) (k : CoreId) (n : Nat) (g : Furrow → Furrow) : (s.modFurrow k n g).obs = s.obs := rfl

@[simp] theorem setTok_pending (s : State) (k : CoreId) (n v : Nat) : (s.setTok k n v).pending = s.pending := rfl
@[simp] theorem setTok_fieldCount (s : State) (k : CoreId) (n v : Nat) : (s.setTok k n v).fieldCount = s.fieldCount := rfl
@[simp] theorem setTok_passPoint (s : State) (k : CoreId) (n v : Nat) : (s.setTok k n v).passPoint = s.passPoint := rfl
@[simp] theorem setTok_firstPass (s : State) (k : CoreId) (n v : Nat) : (s.setTok k n v).firstPass = s.firstPass := rfl
@[simp] theorem setTok_stretchCredit (s : State) (k : CoreId) (n v : Nat) : (s.setTok k n v).stretchCredit = s.stretchCredit := rfl
@[simp] theorem setTok_draws (s : State) (k : CoreId) (n v : Nat) : (s.setTok k n v).draws = s.draws := rfl
@[simp] theorem setTok_csr (s : State) (k : CoreId) (n v : Nat) : (s.setTok k n v).csr = s.csr := rfl
@[simp] theorem setTok_opt (s : State) (k : CoreId) (n v : Nat) : (s.setTok k n v).opt = s.opt := rfl
@[simp] theorem setTok_fuses (s : State) (k : CoreId) (n v : Nat) : (s.setTok k n v).fuses = s.fuses := rfl
@[simp] theorem setTok_mem (s : State) (k : CoreId) (n v : Nat) : (s.setTok k n v).mem = s.mem := rfl
@[simp] theorem setTok_mx (s : State) (k : CoreId) (n v : Nat) : (s.setTok k n v).mx = s.mx := rfl
@[simp] theorem setTok_bins (s : State) (k : CoreId) (n v : Nat) : (s.setTok k n v).bins = s.bins := rfl
@[simp] theorem setTok_drills (s : State) (k : CoreId) (n v : Nat) : (s.setTok k n v).drills = s.drills := rfl
@[simp] theorem setTok_fab (s : State) (k : CoreId) (n v : Nat) : (s.setTok k n v).fab = s.fab := rfl
@[simp] theorem setTok_coll (s : State) (k : CoreId) (n v : Nat) : (s.setTok k n v).coll = s.coll := rfl
@[simp] theorem setTok_host (s : State) (k : CoreId) (n v : Nat) : (s.setTok k n v).host = s.host := rfl
@[simp] theorem setTok_boot (s : State) (k : CoreId) (n v : Nat) : (s.setTok k n v).boot = s.boot := rfl
@[simp] theorem setTok_hay (s : State) (k : CoreId) (n v : Nat) : (s.setTok k n v).hay = s.hay := rfl
@[simp] theorem setTok_obs (s : State) (k : CoreId) (n v : Nat) : (s.setTok k n v).obs = s.obs := rfl

@[simp] theorem noteTok_pending (s : State) (k : CoreId) (n t : Nat) (d : Int) : (s.noteTok k n t d).pending = s.pending := rfl
@[simp] theorem noteTok_fieldCount (s : State) (k : CoreId) (n t : Nat) (d : Int) : (s.noteTok k n t d).fieldCount = s.fieldCount := rfl
@[simp] theorem noteTok_passPoint (s : State) (k : CoreId) (n t : Nat) (d : Int) : (s.noteTok k n t d).passPoint = s.passPoint := rfl
@[simp] theorem noteTok_firstPass (s : State) (k : CoreId) (n t : Nat) (d : Int) : (s.noteTok k n t d).firstPass = s.firstPass := rfl
@[simp] theorem noteTok_stretchCredit (s : State) (k : CoreId) (n t : Nat) (d : Int) : (s.noteTok k n t d).stretchCredit = s.stretchCredit := rfl
@[simp] theorem noteTok_draws (s : State) (k : CoreId) (n t : Nat) (d : Int) : (s.noteTok k n t d).draws = s.draws := rfl
@[simp] theorem noteTok_csr (s : State) (k : CoreId) (n t : Nat) (d : Int) : (s.noteTok k n t d).csr = s.csr := rfl
@[simp] theorem noteTok_opt (s : State) (k : CoreId) (n t : Nat) (d : Int) : (s.noteTok k n t d).opt = s.opt := rfl
@[simp] theorem noteTok_fuses (s : State) (k : CoreId) (n t : Nat) (d : Int) : (s.noteTok k n t d).fuses = s.fuses := rfl
@[simp] theorem noteTok_mem (s : State) (k : CoreId) (n t : Nat) (d : Int) : (s.noteTok k n t d).mem = s.mem := rfl
@[simp] theorem noteTok_mx (s : State) (k : CoreId) (n t : Nat) (d : Int) : (s.noteTok k n t d).mx = s.mx := rfl
@[simp] theorem noteTok_bins (s : State) (k : CoreId) (n t : Nat) (d : Int) : (s.noteTok k n t d).bins = s.bins := rfl
@[simp] theorem noteTok_drills (s : State) (k : CoreId) (n t : Nat) (d : Int) : (s.noteTok k n t d).drills = s.drills := rfl
@[simp] theorem noteTok_fab (s : State) (k : CoreId) (n t : Nat) (d : Int) : (s.noteTok k n t d).fab = s.fab := rfl
@[simp] theorem noteTok_coll (s : State) (k : CoreId) (n t : Nat) (d : Int) : (s.noteTok k n t d).coll = s.coll := rfl
@[simp] theorem noteTok_host (s : State) (k : CoreId) (n t : Nat) (d : Int) : (s.noteTok k n t d).host = s.host := rfl
@[simp] theorem noteTok_boot (s : State) (k : CoreId) (n t : Nat) (d : Int) : (s.noteTok k n t d).boot = s.boot := rfl
@[simp] theorem noteTok_hay (s : State) (k : CoreId) (n t : Nat) (d : Int) : (s.noteTok k n t d).hay = s.hay := rfl
@[simp] theorem noteTok_obs (s : State) (k : CoreId) (n t : Nat) (d : Int) : (s.noteTok k n t d).obs = s.obs := rfl

@[simp] theorem setBin_pending (s : State) (b : BinId) (x : BinUnit) : (s.setBin b x).pending = s.pending := rfl
@[simp] theorem setBin_fieldCount (s : State) (b : BinId) (x : BinUnit) : (s.setBin b x).fieldCount = s.fieldCount := rfl
@[simp] theorem setBin_passPoint (s : State) (b : BinId) (x : BinUnit) : (s.setBin b x).passPoint = s.passPoint := rfl
@[simp] theorem setBin_firstPass (s : State) (b : BinId) (x : BinUnit) : (s.setBin b x).firstPass = s.firstPass := rfl
@[simp] theorem setBin_stretchCredit (s : State) (b : BinId) (x : BinUnit) : (s.setBin b x).stretchCredit = s.stretchCredit := rfl
@[simp] theorem setBin_draws (s : State) (b : BinId) (x : BinUnit) : (s.setBin b x).draws = s.draws := rfl
@[simp] theorem setBin_csr (s : State) (b : BinId) (x : BinUnit) : (s.setBin b x).csr = s.csr := rfl
@[simp] theorem setBin_opt (s : State) (b : BinId) (x : BinUnit) : (s.setBin b x).opt = s.opt := rfl
@[simp] theorem setBin_fuses (s : State) (b : BinId) (x : BinUnit) : (s.setBin b x).fuses = s.fuses := rfl
@[simp] theorem setBin_mem (s : State) (b : BinId) (x : BinUnit) : (s.setBin b x).mem = s.mem := rfl
@[simp] theorem setBin_mx (s : State) (b : BinId) (x : BinUnit) : (s.setBin b x).mx = s.mx := rfl
@[simp] theorem setBin_slots (s : State) (b : BinId) (x : BinUnit) : (s.setBin b x).slots = s.slots := rfl
@[simp] theorem setBin_drills (s : State) (b : BinId) (x : BinUnit) : (s.setBin b x).drills = s.drills := rfl
@[simp] theorem setBin_fab (s : State) (b : BinId) (x : BinUnit) : (s.setBin b x).fab = s.fab := rfl
@[simp] theorem setBin_coll (s : State) (b : BinId) (x : BinUnit) : (s.setBin b x).coll = s.coll := rfl
@[simp] theorem setBin_host (s : State) (b : BinId) (x : BinUnit) : (s.setBin b x).host = s.host := rfl
@[simp] theorem setBin_boot (s : State) (b : BinId) (x : BinUnit) : (s.setBin b x).boot = s.boot := rfl
@[simp] theorem setBin_hay (s : State) (b : BinId) (x : BinUnit) : (s.setBin b x).hay = s.hay := rfl
@[simp] theorem setBin_obs (s : State) (b : BinId) (x : BinUnit) : (s.setBin b x).obs = s.obs := rfl

@[simp] theorem setDrill_pending (s : State) (p : Nat) (x : DrillUnit) : (s.setDrill p x).pending = s.pending := rfl
@[simp] theorem setDrill_fieldCount (s : State) (p : Nat) (x : DrillUnit) : (s.setDrill p x).fieldCount = s.fieldCount := rfl
@[simp] theorem setDrill_passPoint (s : State) (p : Nat) (x : DrillUnit) : (s.setDrill p x).passPoint = s.passPoint := rfl
@[simp] theorem setDrill_firstPass (s : State) (p : Nat) (x : DrillUnit) : (s.setDrill p x).firstPass = s.firstPass := rfl
@[simp] theorem setDrill_stretchCredit (s : State) (p : Nat) (x : DrillUnit) : (s.setDrill p x).stretchCredit = s.stretchCredit := rfl
@[simp] theorem setDrill_draws (s : State) (p : Nat) (x : DrillUnit) : (s.setDrill p x).draws = s.draws := rfl
@[simp] theorem setDrill_csr (s : State) (p : Nat) (x : DrillUnit) : (s.setDrill p x).csr = s.csr := rfl
@[simp] theorem setDrill_opt (s : State) (p : Nat) (x : DrillUnit) : (s.setDrill p x).opt = s.opt := rfl
@[simp] theorem setDrill_fuses (s : State) (p : Nat) (x : DrillUnit) : (s.setDrill p x).fuses = s.fuses := rfl
@[simp] theorem setDrill_mem (s : State) (p : Nat) (x : DrillUnit) : (s.setDrill p x).mem = s.mem := rfl
@[simp] theorem setDrill_mx (s : State) (p : Nat) (x : DrillUnit) : (s.setDrill p x).mx = s.mx := rfl
@[simp] theorem setDrill_slots (s : State) (p : Nat) (x : DrillUnit) : (s.setDrill p x).slots = s.slots := rfl
@[simp] theorem setDrill_bins (s : State) (p : Nat) (x : DrillUnit) : (s.setDrill p x).bins = s.bins := rfl
@[simp] theorem setDrill_fab (s : State) (p : Nat) (x : DrillUnit) : (s.setDrill p x).fab = s.fab := rfl
@[simp] theorem setDrill_coll (s : State) (p : Nat) (x : DrillUnit) : (s.setDrill p x).coll = s.coll := rfl
@[simp] theorem setDrill_host (s : State) (p : Nat) (x : DrillUnit) : (s.setDrill p x).host = s.host := rfl
@[simp] theorem setDrill_boot (s : State) (p : Nat) (x : DrillUnit) : (s.setDrill p x).boot = s.boot := rfl
@[simp] theorem setDrill_hay (s : State) (p : Nat) (x : DrillUnit) : (s.setDrill p x).hay = s.hay := rfl
@[simp] theorem setDrill_obs (s : State) (p : Nat) (x : DrillUnit) : (s.setDrill p x).obs = s.obs := rfl

@[simp] theorem setPort_pending (s : State) (n : Nat) (x : PortSt) : (s.setPort n x).pending = s.pending := rfl
@[simp] theorem setPort_fieldCount (s : State) (n : Nat) (x : PortSt) : (s.setPort n x).fieldCount = s.fieldCount := rfl
@[simp] theorem setPort_passPoint (s : State) (n : Nat) (x : PortSt) : (s.setPort n x).passPoint = s.passPoint := rfl
@[simp] theorem setPort_firstPass (s : State) (n : Nat) (x : PortSt) : (s.setPort n x).firstPass = s.firstPass := rfl
@[simp] theorem setPort_stretchCredit (s : State) (n : Nat) (x : PortSt) : (s.setPort n x).stretchCredit = s.stretchCredit := rfl
@[simp] theorem setPort_draws (s : State) (n : Nat) (x : PortSt) : (s.setPort n x).draws = s.draws := rfl
@[simp] theorem setPort_csr (s : State) (n : Nat) (x : PortSt) : (s.setPort n x).csr = s.csr := rfl
@[simp] theorem setPort_opt (s : State) (n : Nat) (x : PortSt) : (s.setPort n x).opt = s.opt := rfl
@[simp] theorem setPort_fuses (s : State) (n : Nat) (x : PortSt) : (s.setPort n x).fuses = s.fuses := rfl
@[simp] theorem setPort_mem (s : State) (n : Nat) (x : PortSt) : (s.setPort n x).mem = s.mem := rfl
@[simp] theorem setPort_mx (s : State) (n : Nat) (x : PortSt) : (s.setPort n x).mx = s.mx := rfl
@[simp] theorem setPort_slots (s : State) (n : Nat) (x : PortSt) : (s.setPort n x).slots = s.slots := rfl
@[simp] theorem setPort_bins (s : State) (n : Nat) (x : PortSt) : (s.setPort n x).bins = s.bins := rfl
@[simp] theorem setPort_drills (s : State) (n : Nat) (x : PortSt) : (s.setPort n x).drills = s.drills := rfl
@[simp] theorem setPort_coll (s : State) (n : Nat) (x : PortSt) : (s.setPort n x).coll = s.coll := rfl
@[simp] theorem setPort_host (s : State) (n : Nat) (x : PortSt) : (s.setPort n x).host = s.host := rfl
@[simp] theorem setPort_boot (s : State) (n : Nat) (x : PortSt) : (s.setPort n x).boot = s.boot := rfl
@[simp] theorem setPort_hay (s : State) (n : Nat) (x : PortSt) : (s.setPort n x).hay = s.hay := rfl
@[simp] theorem setPort_obs (s : State) (n : Nat) (x : PortSt) : (s.setPort n x).obs = s.obs := rfl

@[simp] theorem setChan_pending (s : State) (c : Nat) (x : Chan) : (s.setChan c x).pending = s.pending := rfl
@[simp] theorem setChan_fieldCount (s : State) (c : Nat) (x : Chan) : (s.setChan c x).fieldCount = s.fieldCount := rfl
@[simp] theorem setChan_passPoint (s : State) (c : Nat) (x : Chan) : (s.setChan c x).passPoint = s.passPoint := rfl
@[simp] theorem setChan_firstPass (s : State) (c : Nat) (x : Chan) : (s.setChan c x).firstPass = s.firstPass := rfl
@[simp] theorem setChan_stretchCredit (s : State) (c : Nat) (x : Chan) : (s.setChan c x).stretchCredit = s.stretchCredit := rfl
@[simp] theorem setChan_draws (s : State) (c : Nat) (x : Chan) : (s.setChan c x).draws = s.draws := rfl
@[simp] theorem setChan_csr (s : State) (c : Nat) (x : Chan) : (s.setChan c x).csr = s.csr := rfl
@[simp] theorem setChan_opt (s : State) (c : Nat) (x : Chan) : (s.setChan c x).opt = s.opt := rfl
@[simp] theorem setChan_fuses (s : State) (c : Nat) (x : Chan) : (s.setChan c x).fuses = s.fuses := rfl
@[simp] theorem setChan_mem (s : State) (c : Nat) (x : Chan) : (s.setChan c x).mem = s.mem := rfl
@[simp] theorem setChan_mx (s : State) (c : Nat) (x : Chan) : (s.setChan c x).mx = s.mx := rfl
@[simp] theorem setChan_slots (s : State) (c : Nat) (x : Chan) : (s.setChan c x).slots = s.slots := rfl
@[simp] theorem setChan_bins (s : State) (c : Nat) (x : Chan) : (s.setChan c x).bins = s.bins := rfl
@[simp] theorem setChan_drills (s : State) (c : Nat) (x : Chan) : (s.setChan c x).drills = s.drills := rfl
@[simp] theorem setChan_fab (s : State) (c : Nat) (x : Chan) : (s.setChan c x).fab = s.fab := rfl
@[simp] theorem setChan_host (s : State) (c : Nat) (x : Chan) : (s.setChan c x).host = s.host := rfl
@[simp] theorem setChan_boot (s : State) (c : Nat) (x : Chan) : (s.setChan c x).boot = s.boot := rfl
@[simp] theorem setChan_hay (s : State) (c : Nat) (x : Chan) : (s.setChan c x).hay = s.hay := rfl
@[simp] theorem setChan_obs (s : State) (c : Nat) (x : Chan) : (s.setChan c x).obs = s.obs := rfl

@[simp] theorem poke_pending (s : State) (a : Nat) (bs : List Byte) : (s.poke a bs).pending = s.pending := rfl
@[simp] theorem poke_fieldCount (s : State) (a : Nat) (bs : List Byte) : (s.poke a bs).fieldCount = s.fieldCount := rfl
@[simp] theorem poke_passPoint (s : State) (a : Nat) (bs : List Byte) : (s.poke a bs).passPoint = s.passPoint := rfl
@[simp] theorem poke_firstPass (s : State) (a : Nat) (bs : List Byte) : (s.poke a bs).firstPass = s.firstPass := rfl
@[simp] theorem poke_stretchCredit (s : State) (a : Nat) (bs : List Byte) : (s.poke a bs).stretchCredit = s.stretchCredit := rfl
@[simp] theorem poke_draws (s : State) (a : Nat) (bs : List Byte) : (s.poke a bs).draws = s.draws := rfl
@[simp] theorem poke_csr (s : State) (a : Nat) (bs : List Byte) : (s.poke a bs).csr = s.csr := rfl
@[simp] theorem poke_opt (s : State) (a : Nat) (bs : List Byte) : (s.poke a bs).opt = s.opt := rfl
@[simp] theorem poke_fuses (s : State) (a : Nat) (bs : List Byte) : (s.poke a bs).fuses = s.fuses := rfl
@[simp] theorem poke_mx (s : State) (a : Nat) (bs : List Byte) : (s.poke a bs).mx = s.mx := rfl
@[simp] theorem poke_slots (s : State) (a : Nat) (bs : List Byte) : (s.poke a bs).slots = s.slots := rfl
@[simp] theorem poke_bins (s : State) (a : Nat) (bs : List Byte) : (s.poke a bs).bins = s.bins := rfl
@[simp] theorem poke_drills (s : State) (a : Nat) (bs : List Byte) : (s.poke a bs).drills = s.drills := rfl
@[simp] theorem poke_fab (s : State) (a : Nat) (bs : List Byte) : (s.poke a bs).fab = s.fab := rfl
@[simp] theorem poke_coll (s : State) (a : Nat) (bs : List Byte) : (s.poke a bs).coll = s.coll := rfl
@[simp] theorem poke_host (s : State) (a : Nat) (bs : List Byte) : (s.poke a bs).host = s.host := rfl
@[simp] theorem poke_boot (s : State) (a : Nat) (bs : List Byte) : (s.poke a bs).boot = s.boot := rfl
@[simp] theorem poke_hay (s : State) (a : Nat) (bs : List Byte) : (s.poke a bs).hay = s.hay := rfl
@[simp] theorem poke_obs (s : State) (a : Nat) (bs : List Byte) : (s.poke a bs).obs = s.obs := rfl

/-! ### Registers -/

/-- Reading a field after another or the same field has been written. -/
theorem rd_wr (s : State) (b : Nat) (f : Field) (v i : Nat) (b' : Nat) (f' : Field) (i' : Nat) :
    (s.wr b f v i).rd b' f' i' = if fkey b' f' i' = fkey b f i then v % 2 ^ f.w else s.rd b' f' i' := by
  unfold State.rd State.wr
  simp only [SMap.find?_insert]
  split <;> rfl

@[simp] theorem rd_wr_self (s : State) (b : Nat) (f : Field) (v i : Nat) : (s.wr b f v i).rd b f i = v % 2 ^ f.w := by
  rw [rd_wr]; simp

/-- A field at another bit address keeps its value. -/
theorem rd_wr_ne (s : State) (b : Nat) (f : Field) (v i : Nat) (b' : Nat) (f' : Field) (i' : Nat) (h : fkey b' f' i' ≠ fkey b f i) :
    (s.wr b f v i).rd b' f' i' = s.rd b' f' i' := by
  rw [rd_wr, if_neg h]

/-- What a field reads depends on the register store, the option block and the fuses alone. -/
theorem rd_congr (s t : State) (b : Nat) (f : Field) (i : Nat) (hc : t.csr = s.csr) (ho : t.opt = s.opt) (hf : t.fuses = s.fuses) :
    t.rd b f i = s.rd b f i := by
  unfold State.rd State.rstVal State.fuseVal State.optBits State.optByte State.plotCount
  rw [hc, ho, hf]

/-! ### Slots -/

/-- Two slots with the same key are one. -/
theorem key_inj (j k : CoreId) : j.key = k.key ↔ j = k := by
  constructor
  · intro h
    obtain ⟨⟨p, hp⟩, ⟨a, ha⟩⟩ := j
    obtain ⟨⟨q, hq⟩, ⟨b, hb⟩⟩ := k
    simp only [CoreId.key] at h
    have : p = q := by omega
    have : a = b := by omega
    subst_vars; rfl
  · rintro rfl; rfl

theorem slot_setSlot (s : State) (j k : CoreId) (x : Slot) : (s.setSlot k x).slot j = if j = k then x else s.slot j := by
  unfold State.slot State.setSlot
  simp only [SMap.get_insert, key_inj]

@[simp] theorem slot_setSlot_self (s : State) (k : CoreId) (x : Slot) : (s.setSlot k x).slot k = x := by rw [slot_setSlot]; simp

@[simp] theorem slot_modSlot_self (s : State) (k : CoreId) (g : Slot → Slot) : (s.modSlot k g).slot k = g (s.slot k) := by
  unfold State.modSlot; simp

theorem slot_modSlot_ne (s : State) (j k : CoreId) (g : Slot → Slot) (h : j ≠ k) : (s.modSlot k g).slot j = s.slot j := by
  unfold State.modSlot; rw [slot_setSlot, if_neg h]

@[simp] theorem core_setCore_self (s : State) (k : CoreId) (c : Core) : (s.setCore k c).core k = c := by
  unfold State.core State.setCore; simp

@[simp] theorem core_modCore_self (s : State) (k : CoreId) (g : Core → Core) : (s.modCore k g).core k = g (s.core k) := by
  unfold State.modCore; simp

theorem core_modCore_ne (s : State) (j k : CoreId) (g : Core → Core) (h : j ≠ k) : (s.modCore k g).core j = s.core j := by
  unfold State.core State.modCore State.setCore; rw [slot_modSlot_ne _ _ _ _ h]

/-- A change of the core alone leaves the rest of its slot. -/
theorem slot_modCore (s : State) (k : CoreId) (g : Core → Core) : (s.modCore k g).slot k = { s.slot k with core := g (s.core k) } := by
  unfold State.modCore State.setCore; simp [State.core]

@[simp] theorem slot_wr (s : State) (b : Nat) (f : Field) (v i : Nat) (k : CoreId) : (s.wr b f v i).slot k = s.slot k := rfl
@[simp] theorem slot_satAdd (s : State) (b : Nat) (f : Field) (v i : Nat) (k : CoreId) : (s.satAdd b f v i).slot k = s.slot k := rfl
@[simp] theorem slot_wrapAdd (s : State) (b : Nat) (f : Field) (v i : Nat) (k : CoreId) : (s.wrapAdd b f v i).slot k = s.slot k := rfl
@[simp] theorem core_wr (s : State) (b : Nat) (f : Field) (v i : Nat) (k : CoreId) : (s.wr b f v i).core k = s.core k := rfl
@[simp] theorem core_satAdd (s : State) (b : Nat) (f : Field) (v i : Nat) (k : CoreId) : (s.satAdd b f v i).core k = s.core k := rfl
@[simp] theorem core_wrapAdd (s : State) (b : Nat) (f : Field) (v i : Nat) (k : CoreId) : (s.wrapAdd b f v i).core k = s.core k := rfl
@[simp] theorem byte_wr (s : State) (b : Nat) (f : Field) (v i a : Nat) : (s.wr b f v i).byte a = s.byte a := rfl
@[simp] theorem byte_setSlot (s : State) (k : CoreId) (x : Slot) (a : Nat) : (s.setSlot k x).byte a = s.byte a := rfl

end Sys2Proof.Machine
end

