-- ==== Sys2Proof/Laws/Clock.lean ====
section
/-! SUPPORT. The passing of time (R31, R43): what counts engine edges changes the registers of ports, router, collectives and clusters, and nothing else. -/

namespace Sys2Proof.Machine

/-- Only register fields have changed, and only those from CSR offset `lo` on. -/
def CountsFrom (lo : Nat) (s t : State) : Prop :=
  ({ t with csr := [] } : State) = { s with csr := [] } ∧ ∀ q, q < lo * 64 → t.csr.find? q = s.csr.find? q

theorem CountsFrom.refl (lo : Nat) (s : State) : CountsFrom lo s s := ⟨rfl, fun _ _ => rfl⟩

theorem CountsFrom.trans {lo : Nat} {s t u : State} (h : CountsFrom lo s t) (g : CountsFrom lo t u) : CountsFrom lo s u :=
  ⟨g.1.trans h.1, fun q hq => (g.2 q hq).trans (h.2 q hq)⟩

theorem CountsFrom.wr {lo : Nat} {s t : State} (h : CountsFrom lo s t) (b : Nat) (f : Field) (v i : Nat) (hb : lo ≤ b) :
    CountsFrom lo s (t.wr b f v i) := by
  refine h.trans ⟨rfl, fun q hq => ?_⟩
  show SMap.find? (t.csr.insert (fkey b f i) (v % 2 ^ f.w)) q = _
  rw [SMap.find?_insert, if_neg]
  unfold fkey
  omega

theorem CountsFrom.wrapAdd {lo : Nat} {s t : State} (h : CountsFrom lo s t) (b : Nat) (f : Field) (v i : Nat) (hb : lo ≤ b) :
    CountsFrom lo s (t.wrapAdd b f v i) := h.wr b f _ i hb

theorem CountsFrom.satAdd {lo : Nat} {s t : State} (h : CountsFrom lo s t) (b : Nat) (f : Field) (v i : Nat) (hb : lo ≤ b) :
    CountsFrom lo s (t.satAdd b f v i) := h.wr b f _ i hb

theorem CountsFrom.ite {lo : Nat} {s t u : State} {p : Prop} [Decidable p] (h : CountsFrom lo s t) (g : CountsFrom lo s u) :
    CountsFrom lo s (if p then t else u) := by split <;> assumption

theorem CountsFrom.foldl {lo : Nat} {s t : State} {α : Type} (f : State → α → State) (hf : ∀ t a, CountsFrom lo s t → CountsFrom lo s (f t a))
    (l : List α) (h : CountsFrom lo s t) : CountsFrom lo s (l.foldl f t) := by
  induction l generalizing t with
  | nil => exact h
  | cons a l ih => exact ih (hf t a h)

theorem CountsFrom.field {lo : Nat} {s t : State} {α : Type} (h : CountsFrom lo s t) (f : State → α) (hf : ∀ s, f { s with csr := [] } = f s) :
    f t = f s := by rw [← hf t, ← hf s, h.1]

theorem CountsFrom.rd {lo : Nat} {s t : State} (h : CountsFrom lo s t) (b : Nat) (f : Field) (i : Nat) (hk : fkey b f i < lo * 64) :
    t.rd b f i = s.rd b f i := by
  have ho : t.opt = s.opt := h.field (·.opt) (fun _ => rfl)
  have hf : t.fuses = s.fuses := h.field (·.fuses) (fun _ => rfl)
  have hr : t.rstVal b f i = s.rstVal b f i := by
    unfold State.rstVal State.optBits State.optByte State.fuseVal State.plotCount
    rw [ho, hf]
  unfold State.rd
  rw [h.2 _ hk, hr]

theorem low_slotB (k : CoreId) : 0x100000 ≤ slotB k := by unfold slotB plotB; omega

theorem low_portB (n : Nat) : 0x100000 ≤ portB n := by unfold portB; omega

theorem portEdges_counts {s t : State} (n : Nat → Nat) (e : Nat × PortSt) (h : CountsFrom 0x100000 s t) : CountsFrom 0x100000 s (State.portEdges n t e) := by
  unfold State.portEdges
  refine CountsFrom.foldl _ (fun t v h => ?_) _ h
  have hp := low_portB e.1
  dsimp only
  split
  · exact h
  · exact CountsFrom.ite ((h.wrapAdd _ _ _ _ hp).wrapAdd _ _ _ _ hp) (h.wrapAdd _ _ _ _ hp)

theorem checkerEdges_counts {s t : State} (n p : Nat) (h : CountsFrom 0x100000 s t) : CountsFrom 0x100000 s (State.checkerEdges n t p) := by
  unfold State.checkerEdges
  have hp := low_portB p
  refine CountsFrom.ite h (CountsFrom.foldl _ (fun t v h => ?_) _ h)
  dsimp only
  exact CountsFrom.ite ((h.satAdd _ _ _ _ hp).satAdd _ _ _ _ hp) h

theorem stallAdd_counts {s t : State} (h : CountsFrom 0x100000 s t) (b : Nat) (f : Field) (n : Nat) (hb : 0x100000 ≤ b) :
    CountsFrom 0x100000 s (t.stallAdd b f n) := h.wrapAdd b f _ 0 hb

theorem slotEdges_counts {s t : State} (edges : Nat → Nat) (k : CoreId) (h : CountsFrom 0x100000 s t) :
    CountsFrom 0x100000 s (State.slotEdges edges t k) := by
  unfold State.slotEdges
  have hk := low_slotB k
  extract_lets n x b ready noHead s1 s2 s3 s4 waits s5 s6 s7 s8 s9
  have h1 : CountsFrom 0x100000 s s1 := CountsFrom.ite h (h.wrapAdd _ _ _ _ hk)
  have h2 : CountsFrom 0x100000 s s2 := by
    simp only [s2]; split
    · exact h1.wrapAdd _ _ _ _ hk
    · exact h1.wrapAdd _ _ _ _ hk
    · exact h1.wrapAdd _ _ _ _ hk
    · exact h1
  have h3 : CountsFrom 0x100000 s s3 := CountsFrom.ite (h2.wrapAdd _ _ _ _ hk) h2
  have h4 : CountsFrom 0x100000 s s4 := CountsFrom.ite (h3.wrapAdd _ _ _ _ hk) h3
  have h5 : CountsFrom 0x100000 s s5 := CountsFrom.ite (h4.wrapAdd _ _ _ _ hk) h4
  have h6 : CountsFrom 0x100000 s s6 := CountsFrom.ite (h5.wrapAdd _ _ _ _ hk) h5
  have h7 : CountsFrom 0x100000 s s7 := CountsFrom.ite (h6.wrapAdd _ _ _ _ hk) h6
  have h8 : CountsFrom 0x100000 s s8 := CountsFrom.ite (h7.wrapAdd _ _ _ _ hk) h7
  have h9 : CountsFrom 0x100000 s s9 := CountsFrom.ite (stallAdd_counts (h8.wrapAdd _ _ _ _ hk) _ _ _ hk) h8
  split
  · have h10 := stallAdd_counts (stallAdd_counts (h9.wrapAdd b F.VEC_EDGES_BUSY n 0 hk) b F.VEC_STALL_DEP_STALL n hk) b F.VEC_STALL_PIPE_STALL n hk
    exact CountsFrom.ite (h10.wrapAdd _ _ _ _ hk) h10
  · exact h9

/-- The counts of the Barn's queues. -/
theorem barnEdges_counts {s t : State} (n : Nat) (h : CountsFrom 0x100000 s t) : CountsFrom 0x100000 s (t.barnEdges n) := by
  unfold State.barnEdges
  exact CountsFrom.ite (stallAdd_counts h _ _ _ (by unfold barnB; omega)) h

/-- The counts of one slot after another, of the router, of the collectives and of the Barn. -/
theorem unitEdges_counts {s t : State} (e : Nat → Nat) (n m : Nat) (ks : List CoreId) (h : CountsFrom 0x100000 s t) :
    CountsFrom 0x100000 s ((((ks.foldl (State.slotEdges e) t).routerEdges n).gatherEdges n).barnEdges m) := by
  have h1 := CountsFrom.foldl (State.slotEdges e) (fun t a h => slotEdges_counts e a h) ks h
  have h2 : CountsFrom 0x100000 s ((ks.foldl (State.slotEdges e) t).routerEdges n) := by
    unfold State.routerEdges
    exact CountsFrom.ite (h1.wrapAdd _ _ _ _ (by unfold routeB; omega)) h1
  refine barnEdges_counts m ?_
  unfold State.gatherEdges
  exact CountsFrom.ite (h2.wrapAdd _ _ _ _ (by unfold collB; omega)) h2

/-- The counts of the ports. -/
theorem linkEdges_counts {s t : State} (n : Nat) (m : Nat → Nat) (ps : SMap PortSt) (h : CountsFrom 0x100000 s t) :
    CountsFrom 0x100000 s ((List.range 12).foldl (State.checkerEdges n) (ps.foldl (State.portEdges m) t)) :=
  CountsFrom.foldl (State.checkerEdges n) (fun _ a h => checkerEdges_counts n a h) _
    (CountsFrom.foldl (State.portEdges m) (fun _ a h => portEdges_counts m a h) ps h)

/-- `n` reference clk: the field counter advances by `n`, the edges not dropped are counted, and nothing else changes. -/
theorem elapse_counts (s : State) (n : Nat) :
    ∃ c d, CountsFrom 0x100000 { s with fieldCount := s.fieldCount + n, stretchCredit := c, draws := d } (s.elapse n) := by
  unfold State.elapse
  split
  · subst_vars; exact ⟨s.stretchCredit, s.draws, CountsFrom.refl _ _⟩
  · exact ⟨(s.stretched n).stretchCredit, (s.stretched n).draws, unitEdges_counts _ _ _ _ (linkEdges_counts _ _ _ (CountsFrom.refl _ _))⟩

end Sys2Proof.Machine
end

