-- ==== Sys2Proof/Laws/ControlCore.lean ====
section
/-! SUPPORT. The control core's shared operations: what the common conditions decide, general registers, retiring an instruction. -/

namespace Sys2Proof.Machine

/-! ### One slot changes -/

/-- Slot `k` becomes `x`; nothing else changes. -/
structure SlotTo (k : CoreId) (x : Slot) (s t : State) : Prop where
  slot : t.slot k = x
  others : ∀ j, j ≠ k → t.slot j = s.slot j
  rest : ({ t with slots := [] } : State) = { s with slots := [] }

theorem SlotTo.refl (s : State) (k : CoreId) : SlotTo k (s.slot k) s s := ⟨rfl, fun _ _ => rfl, rfl⟩

theorem SlotTo.trans {k : CoreId} {x y : Slot} {s t u : State} (h : SlotTo k x s t) (g : SlotTo k y t u) : SlotTo k y s u :=
  ⟨g.slot, fun j hj => (g.others j hj).trans (h.others j hj), g.rest.trans h.rest⟩

theorem setSlot_to (s : State) (k : CoreId) (x : Slot) : SlotTo k x s (s.setSlot k x) :=
  ⟨slot_setSlot_self s k x, fun j hj => by rw [slot_setSlot, if_neg hj], rfl⟩

theorem modSlot_to (s : State) (k : CoreId) (g : Slot → Slot) : SlotTo k (g (s.slot k)) s (s.modSlot k g) := setSlot_to s k _

theorem setCore_to (s : State) (k : CoreId) (c : Core) : SlotTo k { s.slot k with core := c } s (s.setCore k c) := setSlot_to s k _

theorem modCore_to (s : State) (k : CoreId) (g : Core → Core) : SlotTo k { s.slot k with core := g (s.core k) } s (s.modCore k g) :=
  setSlot_to s k _

theorem SlotTo.core {k : CoreId} {x : Slot} {s t : State} (h : SlotTo k x s t) : t.core k = x.core := by unfold State.core; rw [h.slot]

theorem modFurrow_to (s : State) (k : CoreId) (n : Nat) (g : Furrow → Furrow) :
    SlotTo k { s.slot k with core := (s.core k).mapFurrow n g } s (s.modFurrow k n g) := setSlot_to s k _

/-- Every field but the slots. -/
theorem SlotTo.field {k : CoreId} {x : Slot} {s t : State} {α : Type} (f : State → α) (hf : ∀ s, f { s with slots := [] } = f s) (h : SlotTo k x s t) :
    f t = f s := by rw [← hf t, ← hf s, h.rest]

/-- Changing the furrow in hand changes nothing of a slot but its core's lists of furrows. -/
theorem modCur_to (s : State) (k : CoreId) (g : Furrow → Furrow) :
    ∃ fs ks, SlotTo k { s.slot k with core := { s.core k with furrows := fs, kept := ks } } s (s.modCur k g) := by
  unfold State.modCur
  split
  · rename_i f _
    exact ⟨((s.core k).mapFurrow f.serial g).furrows, ((s.core k).mapFurrow f.serial g).kept, modFurrow_to s k f.serial g⟩
  · exact ⟨(s.core k).furrows, (s.core k).kept, SlotTo.refl s k⟩

/-! ### General registers (R154) -/

/-- Writing a register changes the registers and the furrows' masks. -/
theorem setG_to (s : State) (k : CoreId) (r : BitVec 5) (v : W64) :
    ∃ fs ks, SlotTo k { s.slot k with core := { s.core k with
      regs := if r = 0 then (s.core k).regs else (s.core k).regs.put 0 r.toNat v, furrows := fs, kept := ks } } s (s.setG k r v) := by
  unfold State.setG
  split
  · exact ⟨(s.core k).furrows, (s.core k).kept, SlotTo.refl s k⟩
  · have h := modCore_to s k (fun c => { c with regs := c.regs.put 0 r.toNat v })
    obtain ⟨fs, ks, h2⟩ := modCur_to (s.modCore k (fun c => { c with regs := c.regs.put 0 r.toNat v })) k
      (fun f => { f with mask := f.mask ||| (1#32 <<< r.toNat) })
    refine ⟨fs, ks, ?_⟩
    have h3 := h.trans h2
    rw [h.slot, h.core] at h3
    exact h3

/-- A written register reads its new value, g0 reads zero, and the others keep theirs. -/
theorem g_setG (s : State) (k : CoreId) (r q : BitVec 5) (v : W64) :
    (s.setG k r v).g k q = if q = 0 then 0 else if q = r then v else s.g k q := by
  obtain ⟨fs, ks, h⟩ := setG_to s k r v
  unfold State.g
  rw [h.core]
  by_cases hq : q = 0
  · rw [if_pos hq, if_pos hq]
  · rw [if_neg hq, if_neg hq, if_neg hq]
    by_cases hr : r = 0
    · rw [if_pos hr, if_neg (fun e => hq (e.trans hr))]
    · rw [if_neg hr, SMap.get_put]
      by_cases e : q = r
      · rw [if_pos e, if_pos (congrArg BitVec.toNat e)]
      · rw [if_neg e, if_neg (fun x => e (BitVec.eq_of_toNat_eq x))]

/-! ### Running and retiring -/

/-- Where no bit of the instruction banks is flipped, the fetch changes nothing (R153). -/
theorem fetched_clean (s : State) (k : CoreId) (body : State → State) (ha : (s.slot k).imErrA = []) (hb : (s.slot k).imErrB = []) :
    s.fetched k body = body s := by
  have h : (s.slot k).imErr (s.core k).bank = [] := by unfold Slot.imErr; split <;> assumption
  simp [State.fetched, h]

/-- An instruction that may run at its point, with its reserved fields zero, runs its body. -/
theorem coreStep_runs (k : CoreId) (w : Where) (ok : Bool) (body : State → State) (s : State) (hi : s.issuing k = true)
    (hea : (s.slot k).imErrA = []) (heb : (s.slot k).imErrB = []) (hb : s.breakpoint k = false) (hw : w.ok (s.core k) = true) (ho : ok = true) :
    coreStep k w ok body s = .next (body s) := by
  simp [coreStep, fetched_clean, hi, hea, heb, hb, hw, ho]

/-- A read of sound data memory, with no error forced, passes its bytes on (R153). -/
theorem dmRead_clean (s : State) (k : CoreId) (a n : Nat) (use : List Byte → State → State) (hi : (s.core k).injMem = false)
    (he : (s.slot k).dmErr = []) : s.dmRead k a n use = use (s.dmBytes k a n) s := by
  simp [State.dmRead, hi, he]

/-- The branch trace's gathering changes nothing of a slot but what it gathers. -/
theorem branchCover_to (s : State) (k : CoreId) (pc : Nat) :
    ∃ b, SlotTo k { s.slot k with brStart := b } s (s.branchCover k pc) := by
  unfold State.branchCover
  split
  · exact ⟨(s.slot k).brStart.or (some pc), setSlot_to s k _⟩
  · exact ⟨(s.slot k).brStart, SlotTo.refl s k⟩

/-- An instruction that is neither stepped nor struck by a forced mismatch retires: the program counter moves on and CORE_INSTR.RETIRED counts it. -/
theorem retireAt_eq (s : State) (k : CoreId) (pc : Nat) (hl : (s.core k).injLockstep = false) (hs : (s.core k).stepping = false) :
    ∃ b u, SlotTo k { s.slot k with brStart := b, core := { s.core k with pc := pc, wait := Wait.none } } s u ∧
      s.retireAt k pc = u.wrapAdd (slotB k) F.CORE_INSTR_RETIRED 1 := by
  obtain ⟨b, h⟩ := branchCover_to s k (s.core k).pc
  refine ⟨b, (s.branchCover k (s.core k).pc).modCore k (fun c => { c with pc := pc, wait := Wait.none }), ?_, ?_⟩
  · have h2 := h.trans (modCore_to (s.branchCover k (s.core k).pc) k (fun c => { c with pc := pc, wait := Wait.none }))
    rw [h.slot, h.core] at h2
    exact h2
  · unfold State.retireAt
    have e : ((s.branchCover k (s.core k).pc).wrapAdd (slotB k) F.CORE_INSTR_RETIRED 1).modCore k (fun c => { c with pc := pc, wait := Wait.none })
        = ((s.branchCover k (s.core k).pc).modCore k (fun c => { c with pc := pc, wait := Wait.none })).wrapAdd (slotB k) F.CORE_INSTR_RETIRED 1 := rfl
    have hc : (((s.branchCover k (s.core k).pc).modCore k (fun c => { c with pc := pc, wait := Wait.none })).wrapAdd (slotB k)
        F.CORE_INSTR_RETIRED 1).core k = { s.core k with pc := pc, wait := Wait.none } := by
      rw [core_wrapAdd, core_modCore_self, h.core]; rfl
    simp only [e]
    unfold State.lockstep
    rw [if_neg (by rw [hc]; simp [hl])]
    unfold State.stepDone
    rw [if_neg (by rw [hc]; simp [hs])]

/-- What an instruction that retires has changed: its core, the branch trace's gathering, CORE_INSTR. -/
structure Retired (k : CoreId) (c : Core) (s t : State) : Prop where
  core : t.core k = c
  outside : SameOutside s t
  others : SameOthers k s t
  slot : SameSlot k s t
  registers : SameRegisters [fkey (slotB k) F.CORE_INSTR_RETIRED 0] s t

/-- What a change of one slot leaves. -/
theorem SlotTo.outside {k : CoreId} {x : Slot} {s t : State} (h : SlotTo k x s t) : SameOutside s t :=
  ⟨h.field (·.pending) (fun _ => rfl), h.field (·.fieldCount) (fun _ => rfl), h.field (·.passPoint) (fun _ => rfl), h.field (·.firstPass) (fun _ => rfl),
    h.field (·.opt) (fun _ => rfl), h.field (·.fuses) (fun _ => rfl), h.field (·.mem) (fun _ => rfl), h.field (·.mx) (fun _ => rfl),
    h.field (·.bins) (fun _ => rfl), h.field (·.drills) (fun _ => rfl), h.field (·.fab) (fun _ => rfl), h.field (·.coll) (fun _ => rfl),
    h.field (·.host) (fun _ => rfl), h.field (·.boot) (fun _ => rfl), h.field (·.hay) (fun _ => rfl), h.field (·.obs) (fun _ => rfl)⟩

theorem SlotTo.rd {k : CoreId} {x : Slot} {s t : State} (h : SlotTo k x s t) (b : Nat) (f : Field) (i : Nat) : t.rd b f i = s.rd b f i :=
  rd_congr s t b f i (h.field (·.csr) (fun _ => rfl)) (h.field (·.opt) (fun _ => rfl)) (h.field (·.fuses) (fun _ => rfl))

/-- An instruction has changed its core to `c` and then retires at an offset. -/
theorem retired_of (s u : State) (k : CoreId) (c : Core) (pc : Nat) (h : SlotTo k { s.slot k with core := c } s u) (hl : c.injLockstep = false)
    (hs : c.stepping = false) : Retired k { c with pc := pc, wait := Wait.none } s (u.retireAt k pc) := by
  have hc : u.core k = c := h.core
  obtain ⟨b, w, hw, e⟩ := retireAt_eq u k pc (by rw [hc]; exact hl) (by rw [hc]; exact hs)
  have hsw := h.trans hw
  rw [h.slot, hc] at hsw
  rw [e]
  refine ⟨?_, ?_, ?_, ?_, ?_⟩
  · rw [core_wrapAdd]; exact hsw.core
  · exact hsw.outside
  · exact fun j hj => hsw.others j hj
  · show ({ w.slot k with core := {}, brStart := none, brTargets := [] } : Slot) = _
    rw [hsw.slot]
  · intro a f i hn
    simp only [List.mem_singleton] at hn
    unfold State.wrapAdd
    rw [rd_wr_ne _ _ _ _ _ _ _ _ hn]
    exact hsw.rd a f i

/-- The same for one that goes on to the next instruction (R161). -/
theorem retired_next (s u : State) (k : CoreId) (c : Core) (h : SlotTo k { s.slot k with core := c } s u) (hl : c.injLockstep = false)
    (hs : c.stepping = false) (hp : c.pc < 16380) : Retired k { c with pc := c.pc + 4, wait := Wait.none } s (u.retire k) := by
  have hc : u.core k = c := h.core
  unfold State.retire
  simp only [hc]
  rw [if_neg (by omega)]
  exact retired_of s u k c (c.pc + 4) h hl hs

/-- What "executes normally" says. -/
theorem executes_iff (s : State) (k : CoreId) :
    s.executes k = true ↔ s.issuing k = true ∧ s.breakpoint k = false ∧ (s.core k).injLockstep = false ∧ (s.core k).stepping = false ∧
      (s.core k).pc < 16380 ∧ (s.slot k).imErrA = [] ∧ (s.slot k).imErrB = [] ∧ (s.slot k).dmErr = [] := by
  simp [State.executes, and_assoc]

theorem issuing_iff (s : State) (k : CoreId) :
    s.issuing k = true ↔ s.slotLive k = true ∧ (s.slot k).coreDom = .run ∧ (s.core k).halted = false ∧ (s.core k).wait = Wait.none := by
  simp [State.issuing, and_assoc]

/-- An instruction that goes on to the next one: what the count and the trace change beside the program counter (R161). -/
theorem retire_eq (s : State) (k : CoreId) (hl : (s.core k).injLockstep = false) (hs : (s.core k).stepping = false) (hp : (s.core k).pc < 16380) :
    ∃ b u, SlotTo k { s.slot k with brStart := b, core := { s.core k with pc := (s.core k).pc + 4, wait := Wait.none } } s u ∧
      s.retire k = u.wrapAdd (slotB k) F.CORE_INSTR_RETIRED 1 := by
  unfold State.retire
  rw [if_neg (by omega)]
  exact retireAt_eq s k _ hl hs

/-- A slot has become `x`, and then the instruction retires: slot, other slots, memory, registers. -/
theorem retire_slot (s u : State) (k : CoreId) (x : Slot) (h : SlotTo k x s u) (hl : x.core.injLockstep = false) (hs : x.core.stepping = false)
    (hp : x.core.pc < 16380) :
    (∃ b, (u.retire k).slot k = { x with brStart := b, core := { x.core with pc := x.core.pc + 4, wait := Wait.none } }) ∧
      SameOthers k s (u.retire k) ∧ SameOutside s (u.retire k) ∧ SameRegisters [fkey (slotB k) F.CORE_INSTR_RETIRED 0] s (u.retire k) := by
  have hc : u.core k = x.core := h.core
  obtain ⟨b, w, hw, e⟩ := retire_eq u k (by rw [hc]; exact hl) (by rw [hc]; exact hs) (by rw [hc]; exact hp)
  have hsw := h.trans hw
  rw [h.slot, hc] at hsw
  rw [e]
  refine ⟨⟨b, hsw.slot⟩, fun j hj => hsw.others j hj, hsw.outside, ?_⟩
  intro a f i hn
  simp only [List.mem_singleton] at hn
  unfold State.wrapAdd
  rw [rd_wr_ne _ _ _ _ _ _ _ _ hn]
  exact hsw.rd a f i

/-- An instruction that executes normally and whose body writes one value to one register and retires. -/
theorem writes_value (k : CoreId) (w : Where) (ok : Bool) (body : State → State) (rd : BitVec 5) (v : W64) (s : State) (he : s.executes k = true)
    (hw : w.ok (s.core k) = true) (ho : ok = true) (hbody : body s = (s.setG k rd v).retire k) :
    ∃ t, coreStep k w ok body s = .next t ∧
      t.g k rd = (if rd = 0 then 0 else v) ∧ (t.core k).pc = (s.core k).pc + 4 ∧ CoreFrame k [rd] s t := by
  obtain ⟨hi, hb, hl, hs, hp, hea, heb, -⟩ := (executes_iff s k).1 he
  refine ⟨_, coreStep_runs k w ok _ s hi hea heb hb hw ho, ?_⟩
  rw [hbody]
  obtain ⟨fs, ks, h⟩ := setG_to s k rd v
  have r := retired_next s _ k _ h hl hs hp
  have hg : ∀ q, ((s.setG k rd v).retire k).g k q = (s.setG k rd v).g k q := by
    intro q; unfold State.g; rw [r.core, h.core]
  refine ⟨?_, ?_, r.outside, r.others, r.slot, r.registers, ?_, ?_, ?_, ?_, ?_⟩
  · rw [hg, g_setG]; by_cases h0 : rd = 0 <;> simp [h0]
  · rw [r.core]
  · intro q hq
    rw [hg, g_setG]
    simp only [List.mem_singleton] at hq
    by_cases h0 : q = 0
    · rw [if_pos h0]; unfold State.g; rw [if_pos h0]
    · rw [if_neg h0, if_neg hq]
  · rw [r.core]; exact ((issuing_iff s k).1 hi).2.2.1
  · rw [r.core]
  · rw [r.core]
  · rw [r.core]

/-- The same where the body is a function of the state. -/
theorem writes_register (k : CoreId) (w : Where) (ok : Bool) (rd : BitVec 5) (v : State → W64) (s : State) (he : s.executes k = true)
    (hw : w.ok (s.core k) = true) (ho : ok = true) :
    ∃ t, coreStep k w ok (fun s => (s.setG k rd (v s)).retire k) s = .next t ∧
      t.g k rd = (if rd = 0 then 0 else v s) ∧ (t.core k).pc = (s.core k).pc + 4 ∧ CoreFrame k [rd] s t :=
  writes_value k w ok _ rd (v s) s he hw ho rfl

end Sys2Proof.Machine
end

