-- ==== Sys2Proof/Machine/Layout.lean ====
section
/-! DEFINITION. Where a line of the Granary and a byte of the Barn lie: bank and row of a line (R205), package, beat and lane, sub-channel, bank, column, rank and
row of a Barn address (R241, R247). The models of both memories keep bytes by address, so nothing else depends on these places. -/

namespace Sys2Proof.Machine

/-- Bank of line `x` of a plot's Granary (R205). -/
def granBank (x : Nat) : Nat := bits x 0 10 ^^^ bits x 10 10
/-- Row of line `x` in its bank (R205). -/
def granRow (x : Nat) : Nat := bits x 10 11

/-- Where a byte of the Barn lies. -/
structure BarnPlace where
  /-- The block, and the byte in it. -/
  block : Nat
  byte : Nat
  /-- The data package of the byte, its beat and its byte lane (R241). -/
  package : Nat
  beat : Nat
  lane : Nat
  /-- Table 9-2. -/
  subChannel : Nat
  bankGroup : Nat
  bank : Nat
  column : Nat
  rank : Nat
  row : Nat
deriving DecidableEq, Repr

/-- The place of a Barn offset: an address less 0x0080_0000_0000 (R241, R247). -/
def barnPlace (o : Nat) : BarnPlace :=
  let i := bits o 0 9
  let b := bits o 11 4 ^^^ bits o 22 4
  { block := bits o 9 30, byte := i, package := i / 32, beat := i % 32 / 2, lane := i % 2
    subChannel := bits o 9 2, bankGroup := b / 4, bank := b % 4, column := bits o 15 6, rank := bits o 21 1, row := bits o 22 17 }

end Sys2Proof.Machine
end

