-- ==== Sys2Proof/Laws/Layout.lean ====
section
/-! SUPPORT. The places of Granary lines and of Barn bytes: no two lines share one, and neither do two bytes (R205, R247). -/

namespace Sys2Proof.Machine

theorem bits_eq (n lo w : Nat) : bits n lo w = n / 2 ^ lo % 2 ^ w := by
  simp [bits, Nat.shiftRight_eq_div_pow]

theorem granBank_lt (x : Nat) : granBank x < 1024 := by
  have a : bits x 0 10 < 2 ^ 10 := by rw [bits_eq]; exact Nat.mod_lt _ (by decide)
  have b : bits x 10 10 < 2 ^ 10 := by rw [bits_eq]; exact Nat.mod_lt _ (by decide)
  exact Nat.xor_lt_two_pow a b

/-- A line's bank and row tell which line it is. -/
theorem granPlace_inj {x y : Nat} (hx : x < 2 ^ 21) (hy : y < 2 ^ 21) (hb : granBank x = granBank y) (hr : granRow x = granRow y) : x = y := by
  have h10 : bits x 10 10 = bits y 10 10 := by
    simp only [granRow, bits_eq] at hr ⊢
    omega
  have h0 : bits x 0 10 = bits y 0 10 := by
    have := congrArg (· ^^^ bits y 10 10) hb
    simpa [granBank, h10, Nat.xor_assoc] using this
  simp only [granRow, bits_eq] at hr h0
  omega

/-- Any 1,024 consecutive lines that begin at a multiple of 1,024 fall in 1,024 different banks. -/
theorem granBank_aligned {x y : Nat} (h : x / 1024 = y / 1024) (hb : granBank x = granBank y) : x = y := by
  have h10 : bits x 10 10 = bits y 10 10 := by
    simp only [bits_eq]
    omega
  have h0 : bits x 0 10 = bits y 0 10 := by
    have := congrArg (· ^^^ bits y 10 10) hb
    simpa [granBank, h10, Nat.xor_assoc] using this
  simp only [bits_eq] at h0
  omega

end Sys2Proof.Machine
end

