-- ==== Sys2Proof/WellFormed.lean ====
section
/-! DEFINITION. Which commands are well formed: the lengths and sizes that the operand types leave open. -/

namespace Sys2Proof

/-- A register access is 32 or 64 bits wide and naturally aligned (R10). -/
def accessOk (off size : Nat) : Bool := (size = 4 || size = 8) && off % size = 0

/-- The operands of a command have the lengths the manual gives them. -/
def Instr.wellFormed : Instr → Bool
  | .frameReceive _ fr _ wrong => fr.payload.length = 256 && wrong.length = 9
  | .barnMr4Read reports => reports.length = 18
  | .optionBlockVerified _ block sig => block.length = 256 && sig.length = 200
  | .thermalSense temps => temps.length = 20
  | .imWindowWrite _ _ _ off size _ => accessOk off size && decide (off < 16384)
  | .csrWrite _ off size _ => accessOk off size
  | _ => true

end Sys2Proof
end

