-- ==== Sys2Proof/Tests/Slice0.lean ====
section
/-! SUPPORT. Tests: ill-formed commands that the check refuses, worked examples of the manual, and for every statement concrete states and operands that meet its
hypotheses, clause by clause. -/

set_option Elab.async false

namespace Sys2Proof.Tests

open Sys2Proof Sys2Proof.Machine

/-- The outcome is a next state with a property. -/
def after (o : Out) (p : State → Bool) : Bool :=
  match o with
  | .next t => p t
  | _ => false

/-! ### Well-formed commands -/

theorem test_wf_frame : Instr.wellFormed (.frameReceive 0 { hdr := 0, payload := [], crc := 0 } 0 (List.replicate 9 0)) = false := by decide
theorem test_wf_mr4 : Instr.wellFormed (.barnMr4Read []) = false := by decide
theorem test_wf_option : Instr.wellFormed (.optionBlockVerified true [] (List.replicate 200 0)) = false := by decide
theorem test_wf_option_signature : Instr.wellFormed (.optionBlockVerified true (List.replicate 256 0) []) = false := by decide +kernel
theorem test_wf_thermal : Instr.wellFormed (.thermalSense [25]) = false := by decide
theorem test_wf_window : Instr.wellFormed (.imWindowWrite .steward ⟨0, 0⟩ false 16384 8 0) = false := by decide
theorem test_wf_csr : Instr.wellFormed (.csrWrite .steward 0x24 8 0) = false := by decide
theorem test_wf_csr_size : Instr.wellFormed (.csrWrite .steward 0x20 2 0) = false := by decide

/-! ### States to test on -/

/-- Slot 3 of plot 0, and slot 0 of plot 1. -/
def k3 : CoreId := ⟨0, 3⟩
def k17 : CoreId := ⟨1, 0⟩

/-- A slot whose core issues. -/
def busySlot (regs : SMap W64) : Slot := { started := true, core := { halted := false, regs := regs } }

/-- The first Pass has begun and the core of slot 3 issues. -/
def coreState (regs : SMap W64) : State := ({ firstPass := true } : State).setSlot k3 (busySlot regs)

/-- An open furrow. -/
def furrow : Furrow := { id := 7, serial := 1, pc := 0, bank := false }

/-- The same with a slot of one's choice. -/
def withSlot (f : Slot → Slot) (s : State) : State := s.modSlot k3 f

/-- A core inside a furrow. -/
def furrowState (regs : SMap W64) : State :=
  withSlot (fun x => { x with core := { x.core with inFurrow := true, furrows := [furrow], serial := 2 } }) (coreState regs)

def rf (rd ra rb : BitVec 5) (fn : BitVec 4 := 0) : RForm := { rd := rd, ra := ra, rb := rb, fn := fn, rsv := 0 }
def im (rd ra : BitVec 5) (i : BitVec 14) : IForm := { rd := rd, ra := ra, imm := i }
/-- A queue entry whose descriptor is of no matter. -/
def entry : QEntry := { desc := {}, pc := 0, bank := false, serial := 1, order := 0 }
/-- A command past dequeue with a descriptor, of the open furrow. -/
def flight (d : Desc) : Flight := { q := { entry with desc := d }, seq := 0, tDeq := 0 }

/-- Partition 1 holds every plot and the first half of the Barn. -/
def owned (s : State) : State :=
  (((((s.wr hayB F.PART_PLOTS 0xFFFFFFFF 1).wr hayB F.PART_VALID 1 1).wr hayB F.BARN_EXT_PART 1).wr hayB F.BARN_EXT_UNITS 0x10000).wr hayB F.BARN_EXT_VALID 1)

/-! ### The queue and the control core -/

theorem witness_StepRunsTheFrontCommand :
    ({ pending := [.telSnap, .clearPeaks] } : State).pending = Instr.telSnap :: [.clearPeaks] := by decide
theorem witness_IdleClkAdvancesTheFieldCounter :
    State.reset.pending = [] ∧ State.reset.firstPass = false ∧ State.reset.timed = false := by decide
theorem test_idle : after (step State.reset) (fun t => t.fieldCount = 1) = true := by decide +kernel

theorem witness_RegisterArithmetic :
    (coreState [(1, 5)]).executes k3 = true ∧ (rf 3 1 2).rsv = 0 ∧ (rf 3 1 2).fn = 0 := by decide +kernel
theorem test_add_wraps : after (exec (.add k3 (rf 3 1 2)) (coreState [(1, BitVec.allOnes 64), (2, 2)]))
    (fun t => t.g k3 3 = 1 && (t.core k3).pc = 4) = true := by decide +kernel
theorem test_sub_own_source : after (exec (.sub k3 (rf 1 1 2)) (coreState [(1, 3), (2, 5)])) (fun t => t.g k3 1 = BitVec.ofInt 64 (-2)) = true := by decide +kernel
theorem test_g0_discards : after (exec (.add k3 (rf 0 1 2)) (coreState [(1, 3), (2, 5)])) (fun t => t.g k3 0 = 0 && (t.core k3).pc = 4) = true := by decide +kernel
theorem test_sra_sign : after (exec (.sra k3 (rf 3 1 2)) (coreState [(1, BitVec.ofInt 64 (-8)), (2, 65)])) (fun t => t.g k3 3 = BitVec.ofInt 64 (-4)) = true := by
  decide +kernel
theorem test_mulhu : after (exec (.mulhu k3 (rf 3 1 2)) (coreState [(1, BitVec.allOnes 64), (2, BitVec.allOnes 64)]))
    (fun t => t.g k3 3 = BitVec.ofInt 64 (-2)) = true := by decide +kernel
theorem test_slt_signed : after (exec (.slt k3 (rf 3 1 2)) (coreState [(1, BitVec.allOnes 64), (2, 1)])) (fun t => t.g k3 3 = 1) = true := by decide +kernel

theorem witness_ImmediateAndClockInstructions :
    (coreState [(1, 5)]).executes k3 = true ∧ (im 3 1 63).imm.toNat < 64 ∧ (rf 0 0 0).rsv = 0 ∧ (rf 0 0 0).fn = 0 ∧ (rf 0 0 0).ra = 0 ∧ (rf 0 0 0).rb = 0 ∧
    (rf 0 0 0).rd = 0 := by decide +kernel
theorem test_addi_negative : after (exec (.addi k3 (im 3 1 0x3FFF)) (coreState [(1, 5)])) (fun t => t.g k3 3 = 4) = true := by decide +kernel
theorem test_andi_zero_extends : after (exec (.andi k3 (im 3 1 0x3FFF)) (coreState [(1, BitVec.allOnes 64)])) (fun t => t.g k3 3 = 0x3FFF) = true := by decide +kernel
theorem test_lui : after (exec (.lui k3 { rd := 3, imm := 0x7FFFF }) (coreState [])) (fun t => t.g k3 3 = BitVec.ofInt 64 (-16384)) = true := by decide +kernel

theorem witness_LoadsReadTheFurrowsView :
    let s := coreState [(1, 0x3FF8)]
    s.executes k3 = true ∧ (s.core k3).injMem = false ∧ (s.g k3 (im 3 1 0).ra + (im 3 1 0).imm.signExtend 64).toNat = 0x3FF8 ∧ 0x3FF8 % 8 = 0 ∧
    0x3FF8 + 8 ≤ 0x4000 := by decide +kernel
theorem witness_LoadsReadTheFurrowsView_word :
    let s := coreState [(1, 0x3FF8)]
    s.executes k3 = true ∧ (s.core k3).injMem = false ∧ (s.g k3 1 + (im 3 1 4).imm.signExtend 64).toNat = 0x3FFC ∧ 0x3FFC % 4 = 0 ∧ 0x3FFC + 4 ≤ 0x4000 := by
  decide +kernel
theorem test_lw_zero_extends : after (exec (.lw k3 (im 3 0 8)) (withSlot (fun x => { x with dmem := [(8, 0xFE), (11, 0x80), (12, 1)] }) (coreState [])))
    (fun t => t.g k3 3 = 0x800000FE) = true := by decide +kernel

theorem witness_StoresGoToTheWorkingCopy :
    let s := furrowState [(1, 0x40), (2, 0x1122)]
    s.executes k3 = true ∧ (s.core k3).cur = some furrow ∧ (s.g k3 1 + (im 2 1 0).imm.signExtend 64).toNat = 0x40 ∧ (s.slot k3).tags.find? 1 = none := by decide +kernel
theorem witness_StoresGoToTheWorkingCopy_own_line :
    let s := withSlot (fun x => { x with tags := [(255, 1)] }) (furrowState [(1, 0x3FFC)])
    s.executes k3 = true ∧ (s.core k3).cur = some furrow ∧ (s.g k3 1 + (im 2 1 0).imm.signExtend 64).toNat = 0x3FFC ∧ (s.slot k3).tags.find? 255 = some 1 := by
  decide +kernel
theorem test_st_working_copy : after (exec (.st k3 (im 2 1 0)) (furrowState [(1, 0x40), (2, 0x1122)]))
    (fun t => t.dmByte k3 0x40 = 0x22 && t.dmByte k3 0x41 = 0x11 && (t.slot k3).dmem = []) = true := by decide +kernel

theorem witness_BranchesAndJumps :
    let f : BForm := { ra := 1, rb := 0, off := 4095 }
    let s := coreState [(1, 1)]
    s.executes k3 = true ∧ ((s.core k3).pc : Int) + 4 * f.off.toInt = 16380 ∧ f.rb = 0 := by decide +kernel
theorem witness_BranchesAndJumps_jumps :
    let s := coreState [(1, 16380)]
    s.executes k3 = true ∧ ((s.core k3).pc : Int) + 4 * (0 : BitVec 19).toInt = 0 ∧ (s.g k3 1 + (im 2 1 0).imm.signExtend 64).toNat = 16380 := by decide +kernel
theorem test_bltu_not_taken : after (exec (.bltu k3 { ra := 1, rb := 2, off := 5 }) (coreState [(1, BitVec.allOnes 64), (2, 1)])) (fun t => (t.core k3).pc = 4) = true := by
  decide +kernel
theorem test_blt_taken : after (exec (.blt k3 { ra := 1, rb := 2, off := 5 }) (coreState [(1, BitVec.allOnes 64), (2, 1)])) (fun t => (t.core k3).pc = 20) = true := by
  decide +kernel
theorem test_dbnz : after (exec (.dbnz k3 { ra := 1, rb := 0, off := 3 }) (coreState [(1, 1)])) (fun t => (t.core k3).pc = 4 && t.g k3 1 = 0) = true := by decide +kernel
theorem test_jal : after (exec (.jal k3 { rd := 5, imm := 10 }) (coreState [])) (fun t => (t.core k3).pc = 40 && t.g k3 5 = 4) = true := by decide +kernel

theorem witness_InstructionMemoryInstructions :
    let s := coreState [(1, 16376), (2, 7)]
    s.executes k3 = true ∧ (rf 0 1 2).rsv = 0 ∧ (rf 0 1 2).rd = 0 ∧ (s.g k3 1).toNat = 16376 ∧ 16376 % 8 = 0 ∧ (s.slot k3).writable (!(s.slot k3).active) = true ∧
    (im 0 1 0).rd = 0 := by decide +kernel

theorem witness_TokensAndIssues :
    let s := withSlot (fun x => { x with tok := [(9, 3)] }) (furrowState [])
    let f : TForm := { tok := 9, rsv := 0, count := 3 }
    s.slotLive k3 = true ∧ (s.core k3).cur = some furrow ∧ f.rsv = 0 ∧ f.count ≠ 0 ∧ s.executes k3 = true ∧ f.count.toNat ≤ s.leftForCore k3 9 ∧ s.tok k3 9 + 3 ≤ 0xFFFF := by
  decide +kernel
theorem witness_TokensAndIssues_waits :
    let s := withSlot (fun x => { x with tok := [(9, 2)] }) (furrowState [])
    s.slotLive k3 = true ∧ (s.core k3).cur = some furrow ∧ s.executes k3 = true ∧ s.leftForCore k3 9 < 3 := by decide +kernel
theorem witness_TokensAndIssues_satisfied :
    let s := withSlot (fun x => { x with tok := [(9, 3)], core := { x.core with wait := Wait.token 9 3 } }) (furrowState [])
    s.slotLive k3 = true ∧ (s.core k3).cur = some furrow ∧ (s.core k3).wait = Wait.token 9 3 ∧ 3 ≤ s.leftForCore k3 9 ∧ (s.core k3).injLockstep = false ∧
    (s.core k3).stepping = false ∧ (s.core k3).pc < 16380 := by decide +kernel
theorem witness_TokensAndIssues_issue :
    let s := furrowState [(1, 0x40)]
    s.slotLive k3 = true ∧ (s.core k3).cur = some furrow ∧ (s.core k3).injMem = false ∧ s.executes k3 = true ∧ (rf 0 1 0 2).rsv = 0 ∧ (rf 0 1 0 2).rd = 0 ∧
    (rf 0 1 0 2).fn.toNat < 3 ∧ (s.g k3 1).toNat % 64 = 0 ∧ (s.g k3 1).toNat + 64 ≤ 0x4000 ∧ ((s.slot k3).queue 2).length < 64 := by decide +kernel
theorem witness_TokensAndIssues_full :
    let s := withSlot (fun x => { x with matQ := List.replicate 32 entry }) (furrowState [(1, 0x40)])
    s.executes k3 = true ∧ (s.core k3).cur = some furrow ∧ (s.core k3).injMem = false ∧ 32 ≤ ((s.slot k3).queue 0).length := by decide +kernel
theorem witness_TokensAndIssues_freed :
    let s := withSlot (fun x => { x with core := { x.core with wait := Wait.issue 1 0x40 } }) (furrowState [])
    (s.core k3).cur = some furrow ∧ (s.core k3).injMem = false ∧ (s.core k3).wait = Wait.issue 1 0x40 ∧ ((s.slot k3).queue 1).length < 32 ∧
    (s.core k3).injLockstep = false ∧ (s.core k3).stepping = false ∧ (s.core k3).pc < 16380 := by decide +kernel
theorem test_twait : after (exec (.twait k3 { tok := 9, rsv := 0, count := 3 }) (withSlot (fun x => { x with tok := [(9, 5)] }) (furrowState [])))
    (fun t => t.tok k3 9 = 2) = true := by decide +kernel

theorem witness_FurrowsAndPasses :
    let s := coreState []
    (s.core k3).reexec = false ∧ (s.core k3).injLockstep = false ∧ (s.core k3).stepping = false ∧ (s.core k3).pc < 16380 ∧ s.executes k3 = true ∧
    (s.core k3).inFurrow = false ∧ (s.core k3).furrows.length < 8 ∧ s.passPoint = .window ∧ s.firstPass = true ∧ (0xFFFF : BitVec 19).toNat < 0x10000 ∧
    (s.slot k3).oldBank = none := by decide +kernel
theorem witness_FurrowsAndPasses_late :
    let s : State := { coreState [] with passPoint := .marked }
    s.executes k3 = true ∧ (s.core k3).inFurrow = false ∧ s.passPoint ≠ .window ∧ (s.core k3).pc < 16380 := by decide +kernel
theorem witness_FurrowsAndPasses_end :
    let s := furrowState []
    (s.core k3).cur = some furrow ∧ furrow.cmds = 0 ∧ s.executes k3 = true ∧ (s.core k3).reexec = false ∧ (rf 0 0 0).rsv = 0 := by decide +kernel
theorem witness_FurrowsAndPasses_retire :
    let s := withSlot (fun x => { x with core := { x.core with wait := Wait.fend } }) (furrowState [])
    (s.core k3).cur = some furrow ∧ furrow.cmds = 0 ∧ (s.core k3).wait = Wait.fend ∧ (s.core k3).reexec = false := by decide +kernel
theorem witness_FurrowsAndPasses_switched :
    let s := withSlot (fun x => { x with oldBank := some 64, active := true }) (coreState [])
    s.executes k3 = true ∧ (s.core k3).inFurrow = false ∧ (s.slot k3).oldBank = some 64 := by decide +kernel
theorem test_fbegin : after (exec (.fbegin k3 { rd := 0, imm := 7 }) (coreState [(1, 9)]))
    (fun t => (t.core k3).inFurrow && (t.core k3).furrows.map (·.id) = [7] && (t.core k3).pc = 4) = true := by decide +kernel
theorem test_pass_waits : after (exec (.pass k3 (im 0 1 1)) (coreState [(1, 6)])) (fun t => (t.core k3).wait = Wait.pass 7 (im 0 1 1) && (t.core k3).pc = 0) = true := by
  decide +kernel

theorem witness_HaltingInstructions :
    (coreState []).executes k3 = true ∧ (0x80 : BitVec 19).toNat ≤ 0xFF ∧ 0x80 ≤ (0xFF : BitVec 19).toNat ∧ (0x7F : BitVec 19).toNat < 0x80 ∧ 0xFF < (0x100 : BitVec 19).toNat ∧ (rf 0 0 0).rsv = 0 ∧ (rf 0 0 0).fn = 0 := by decide +kernel
theorem test_halt : after (exec (.halt k3 { rd := 0, imm := 0 }) (coreState [])) (fun t => (t.core k3).halted && (t.core k3).halt.reason = 0x0C) = true := by decide +kernel

/-! ### The points of a Pass -/

theorem witness_PointsOfAPassFallAtTheirClk :
    ∀ p ∈ [PassPoint.window, .voted, .marked, .guard, .early], let s : State := { firstPass := true, passPoint := p }
      s.firstPass = true ∧ 0 < s.passLen ∧ s.passPoint = p ∧ s.fieldCount ≤ s.fieldCount / s.passLen * s.passLen + 92 * s.passLen / 100 + 32 := by decide +kernel
theorem witness_VotesAndCommits :
    (furrowState []).firstPass = true ∧ (furrowState []).passPoint = .window ∧ SMap.sorted ({ tags := [(3, 1), (4, 2)] } : Slot).tags = true := by decide +kernel
theorem witness_MarkersAndGuard :
    ({ firstPass := true, passPoint := .voted } : State).passPoint = .voted ∧ ({ firstPass := true, passPoint := .marked } : State).passPoint = .marked := by decide
/-- A Pass of 300 clk with a guard of 400: it begins at vote close, ahead of the markers. -/
def shortPass : State := (({ firstPass := true, passPoint := .voted } : State).wr seqB F.PASS_CFG_PASS_LEN 300).wr seqB F.COMMIT_CFG_COMMIT_GUARD 400
theorem witness_PointsOfAPass_short :
    shortPass.passLen = 300 ∧ shortPass.passPoint = .voted ∧ shortPass.guardClk = 92 * 300 / 100 + 32 ∧ shortPass.budget = 92 * 300 / 100 ∧ shortPass.guardClk < shortPass.budget + 40 := by
  decide +kernel

/-! ### Register accesses -/

theorem witness_CoresReachTheirOwnBlock :
    let s := coreState [(1, BitVec.ofNat 64 F.CORE_BP_OFFSET.off)]
    s.executes k3 = true ∧ (s.g k3 1 + (im 2 1 0).imm.signExtend 64).toNat % 8 = 0 ∧ (s.g k3 1 + (im 2 1 0).imm.signExtend 64).toNat < 0x1000 ∧
    (s.g k3 1 + (im 2 1 24).imm.signExtend 64).toNat = F.CORE_BP_OFFSET.off + 8 * 3 := by decide +kernel
theorem witness_InstructionMemoryWindow :
    let s := coreState []
    s.fallowPlot k3.plot.val = false ∧ s.retiredSlot k3 = false ∧ s.slotOpen k3 = true ∧ (s.slot k3).writable true = true ∧ (s.slot k3).writable false = false := by
  decide +kernel
theorem test_im_window : after (exec (.imWindowWrite .steward k3 true 0x3FF8 8 0x0102) (coreState []))
    (fun t => ((t.slot k3).im true).get 0 0x3FF8 = 2 && ((t.slot k3).im true).get 0 0x3FF9 = 1) = true := by decide +kernel
theorem witness_RegisterWritesFollowTheAccessCodes : (coreState []).firstPass = true := by decide
theorem test_w1c : after (exec (.csrWrite .steward (telB + F.FLT_STAT_UNMASKED.off) 8 1) (State.reset.wr telB F.FLT_STAT_UNMASKED 1))
    (fun t => t.rd telB F.FLT_STAT_UNMASKED = 0) = true := by decide +kernel
theorem witness_ManagementPathReachesItsBlocks :
    let off := BitVec.ofNat 64 (rstB + F.PWR_CAP_LIMIT.off)
    off.toNat % 8 = 0 ∧ rstB ≤ off.toNat ∧ off.toNat < rstB + 0x100000 ∧ 1000 ≤ (1500 : W64).toNat % 2 ^ F.PWR_CAP_LIMIT.w ∧
    (1500 : W64).toNat % 2 ^ F.PWR_CAP_LIMIT.w ≤ 2000 := by decide +kernel
theorem witness_ManagementPathReachesItsBlocks_outside :
    (0x10000 : W64).toNat % 8 = 0 ∧ 0x10000 ≤ (0x10000 : W64).toNat ∧ (0x10000 : W64).toNat < rstB ∧ (0x10000 : W64).toNat < telB := by decide +kernel

/-! ### Engines and the matrix engine -/

/-- A matrix engine with one command past dequeue. -/
def matState (d : Desc) : State := withSlot (fun x => { x with matPipe := [flight d] }) (furrowState [])

/-- The MMUL record of chapter 7: code 0x20 with one row, one column and one block. -/
def mmulDesc : Desc := { w0 := 0x20 }

theorem witness_DequeueTakesTheOlderReadyHead :
    let s := withSlot (fun x => { x with matQ := [{ entry with desc := { w0 := 0x24 } }] }) (furrowState [])
    s.slotLive k3 = true ∧ (s.slot k3).engineRoom .matrix = true ∧ readyHead (s.leftFor k3 .matrix) ((s.slot k3).queue 0) = some ({ entry with desc := { w0 := 0x24 } }, false) ∧
    s.engineChecks k3 .matrix { w0 := 0x24 } = .ok := by decide +kernel
theorem witness_DequeueTakesTheOlderReadyHead_fault :
    let s := withSlot (fun x => { x with matQ := [{ entry with desc := { w0 := 0x7F } }] }) (furrowState [])
    (s.slot k3).engineRoom .matrix = true ∧ (readyHead (s.leftFor k3 .matrix) ((s.slot k3).queue 0)).isSome = true ∧ s.engineChecks k3 .matrix { w0 := 0x7F } = .halt 8 ∧
    (s.core k3).halted = false := by decide +kernel
theorem witness_DequeueTakesTheOlderReadyHead_stale :
    let s := withSlot (fun x => { x with cur := 5, matQ := [{ entry with desc := { w0 := 0x24 } }] }) (furrowState [])
    (s.slot k3).engineRoom .matrix = true ∧ (readyHead (s.leftFor k3 .matrix) ((s.slot k3).queue 0)).isSome = true ∧ s.engineChecks k3 .matrix { w0 := 0x24 } = .stale := by decide +kernel

theorem witness_TileCommands :
    (matState { w0 := 0x24 }).matNext k3 0x24 = some (flight { w0 := 0x24 }) ∧ (matState { w0 := 0x23 }).matNext k3 0x23 = some (flight { w0 := 0x23 }) ∧
    (flight { w0 := 0x23 }).denied = false ∧ (matState { w0 := 0x23 }).firstBlocked (.furrow k3 1) (rowRanges k3 0 1 0 512) = none ∧
    ((matState { w0 := 0x23 }).readRanges k3.slot.val (rowRanges k3 0 1 0 512) ((matState { w0 := 0x23 }).flightCause k3 (flight { w0 := 0x23 }))).1 = rOK ∧
    (matState { w0 := 0x22 }).matNext k3 0x22 = some (flight { w0 := 0x22 }) ∧ ownPlot k3 (rowSpan k3 0 1 0 512) = true ∧ (matState { w0 := 0x22 }).plotOpen 0 = true := by
  decide +kernel
theorem test_tzero : after (exec (.tzero k3) (withSlot (fun x => { x with tiles := [(0, 7), (64, 9)] }) (matState { w0 := 0x24 })))
    (fun t => (t.slot k3).tileGet 0 0 0 = 0 && (t.slot k3).tileGet 0 1 0 = 9) = true := by decide +kernel

theorem witness_MmulAccumulatesBlockResults :
    let s := matState mmulDesc
    let r := mmulDesc.opA.ranges k3 mmulDesc.rows mmulDesc.kBlocks ++ mmulDesc.opB.ranges k3 mmulDesc.cols mmulDesc.kBlocks
    s.matNext k3 0x20 = some (flight mmulDesc) ∧ mmulDesc.epi = false ∧ s.firstBlocked (.furrow k3 1) r = none ∧ (s.readRanges k3.slot.val r (s.flightCause k3 (flight mmulDesc))).1 = rOK ∧
    mmulDesc.row0 + mmulDesc.rows ≤ 256 := by decide +kernel
theorem witness_MoutWritesTheEpiloguesRows :
    let d : Desc := { w0 := 0x21 }
    let s := matState d
    s.matNext k3 0x21 = some (flight d) ∧ s.firstBlocked (.furrow k3 1) (d.epiGroup.vecRanges k3) = none ∧ (s.readRanges k3.slot.val (d.epiGroup.vecRanges k3) (s.flightCause k3 (flight d))).1 = rOK ∧
    s.plotOpen 0 = true ∧ ownPlot k3 (rowSpan k3 d.epiGroup.oBase d.rows d.epiGroup.oStride (d.epiGroup.rowBytes d.cols)) = true ∧ d.epiGroup.target = 0 ∧ d.rows = 1 ∧
    d.epiGroup.mode = 0 ∧ d.epiGroup.cVec = false ∧ d.epiGroup.dVec = false := by decide +kernel
theorem witness_MoutWritesTheEpiloguesRows_bf16 :
    let d : Desc := { w0 := 0x21, w2 := 1 <<< 32 ||| 1 <<< 16, w4 := 1 }
    let s := matState d
    s.matNext k3 0x21 = some (flight d) ∧ s.firstBlocked (.furrow k3 1) (d.epiGroup.vecRanges k3) = none ∧ (s.readRanges k3.slot.val (d.epiGroup.vecRanges k3) (s.flightCause k3 (flight d))).1 = rOK ∧
    ownPlot k3 (rowSpan k3 d.epiGroup.oBase d.rows d.epiGroup.oStride (d.epiGroup.rowBytes d.cols)) = true ∧ d.epiGroup.target = 1 ∧ d.rows = 2 ∧ d.epiGroup.mode = 0 ∧
    d.epiGroup.cVec = false ∧ d.epiGroup.dVec = false ∧ d.epiGroup.rowBytes d.cols ≤ d.epiGroup.oStride * 64 ∧ fmtBF16.width / 8 = 2 ∧ fmtFP32.width / 8 = 4 := by decide +kernel
theorem witness_MatrixCommandsCompleteInOrder :
    let s := withSlot (fun x => { x with matPipe := [{ flight mmulDesc with done := true }] }) (furrowState [])
    (s.slot k3).matPipe = [{ flight mmulDesc with done := true }] ∧ s.furrow? k3 1 = some furrow ∧ furrow.ringHeld = [] ∧ mmulDesc.sigScope = 0 ∧
    s.rd (slotB k3) F.CMP_RING_SIZE_LOG2 = 0 := by decide +kernel
theorem witness_MatrixCommandsCompleteInOrder_ring :
    let s := (withSlot (fun x => { x with matPipe := [{ flight mmulDesc with done := true }] }) (furrowState [])).wr (slotB k3) F.CMP_RING_SIZE_LOG2 5
    (s.slot k3).matPipe = [{ flight mmulDesc with done := true }] ∧ s.furrow? k3 1 = some furrow ∧ s.rd (slotB k3) F.CMP_RING_SIZE_LOG2 = 5 ∧ s.plotOpen 0 = true ∧
    lineAddr 0 (s.rd (slotB k3) F.CMP_RING_BASE) + 32 ≤ lineAddr 0 0x20_0000 := by decide +kernel

/-! ### The vector engine -/

/-- A VEXEC that has started. -/
def vrun : VRun := { f := flight { w0 := 0x30 }, bank := false, pc := 0, strict := true, started := true }
def vecState (regs : SMap W32) (mregs : SMap (BitVec 256)) : State := withSlot (fun x => { x with vrun := some vrun, vregs := regs, mregs := mregs }) (furrowState [])
/-- A VR form with most fields zero. -/
def vr (vd va vb : BitVec 5) (fmt : BitVec 2) (sub : BitVec 3 := 0) : VRForm :=
  { vd := vd, va := va, vb := vb, vc := 0, msk := 0, mz := 0, fmt := fmt, rm := 0, sub := sub, imm := 0 }

theorem witness_VectorIntegerLanes : (vecState [] []).running k3 vrun ∧ (vr 3 1 2 3).fmt = 3 ∧ (vr 3 1 2 3).vc = 0 ∧ (vr 3 1 2 3).rm = 0 ∧ (vr 3 1 2 3).sub = 0 ∧
    (vr 3 1 2 3).imm = 0 ∧ (vr 3 0 0 3 1).sub.toNat < 2 ∧ (vr 3 0 0 3).vb = 0 ∧ (vr 3 0 0 3).va = 0 := by decide +kernel
theorem test_vsub_wraps : after (exec (.vsub k3 (vr 3 1 2 3)) (vecState [(256, 1), (512, 2)] []))
    (fun t => (t.slot k3).vget 3 0 = 0xFFFFFFFF && (t.slot k3).vget 3 1 = 0) = true := by decide +kernel

theorem witness_VectorFloatingLanes : (vecState [] []).running k3 vrun ∧ (vr 3 1 2 0).fmt.toNat < 3 ∧ (vr 3 1 2 0).imm = 0 ∧ (vr 3 1 2 0).rm = 0 ∧ vrun.strict = true ∧
    (vr 3 1 0 0).vb = 0 ∧ (vr 3 1 0 0).vc = 0 ∧ (vr 3 1 0 0 2).sub.toNat < 3 := by decide +kernel
theorem test_vadd_fp32 : after (exec (.vadd k3 (vr 3 1 2 0)) (vecState [(256, 0x3F800000), (512, 0x40000000)] []))
    (fun t => (t.slot k3).vget 3 0 = 0x40400000) = true := by decide +kernel
theorem test_vdiv_zero : after (exec (.vdiv k3 (vr 3 1 2 0)) (vecState [(256, 0x3F800000)] [])) (fun t => (t.slot k3).vget 3 0 = 0x7F800000) = true := by decide +kernel

theorem witness_ApproximationsMeetTheirSpecialValuesAndBounds :
    ((vFmt 0).read true 0x7FC00000).isNan = true ∧ ((vFmt 0).read true 0).isNan = false ∧ (Approx.special .exp2 ((vFmt 0).read true 0x7F800000)).isSome = true ∧ ((vFmt 0).read true 0x7F800000).isNan = false ∧
    (vFmt 0).read true 0 = .fin false 0 ((vFmt 0).emin - ((vFmt 0).p - 1)) ∧ (vFmt 0).read true 0x80000000 = .fin true 0 ((vFmt 0).emin - ((vFmt 0).p - 1)) ∧
    (vFmt 0).read true 0x40400000 = .fin false 0xC00000 (-22) ∧ Approx.special .rcp ((vFmt 0).read true 0x40400000) = none ∧
    (Approx.exact .rcp false 0xC00000 (-22)).log2 ≤ (vFmt 0).emax := by
  decide +kernel
/-- e is 2.71828182845904…, between the FP32 neighbours 0x402DF854 and 0x402DF855. -/
theorem test_exp_bound : fmtFP32.within 2 (exactExp false 1 0) 0x402DF855 = true ∧ fmtFP32.within 2 (exactExp false 1 0) 0x402DF857 = false := by decide +kernel
/-- erf(1) is 0.84270079294971…, FP32 0x3F57BB3D. -/
theorem test_erf_bound : fmtFP32.within 1 (exactErf false 1 0) 0x3F57BB3D = true ∧ fmtFP32.within 3 (exactErf false 1 0) 0x3F57BB42 = false := by decide +kernel

theorem witness_VectorMasks :
    (vecState [] []).running k3 vrun ∧ 0 < (vr 7 1 2 3).vd.toNat ∧ (vr 7 1 2 3).vd.toNat < 8 ∧ (vr 7 1 2 3).fmt = 3 ∧ (vr 7 1 2 2).fmt.toNat < 3 ∧ (vr 7 7 7 0).fmt = 0 ∧
    (vr 7 7 7 0).va.toNat < 8 ∧ (vr 7 7 7 0).vb.toNat < 8 ∧ (vr 7 7 0 0).vb = 0 ∧ (vr 7 0 0 0).imm.toNat ≤ (vecState [] []).lanes k3 ∧ (vr 3 1 0 0).msk = 0 ∧
    (vr 3 1 0 0).mz = 0 ∧ (vr 3 1 0 0).vd.toNat < 4 := by decide +kernel
theorem test_vcmp_nan_unordered : after (exec (.vcmp k3 (vr 1 1 2 0 6)) (vecState [(256, 0x7FC00000)] [])) (fun t => ((t.slot k3).mget 1).getLsbD 0) = true := by
  decide +kernel
theorem test_mcnt : after (exec (.mcnt k3 (vr 1 2 0 0)) (vecState [] [(2, 0x13)])) (fun t => (t.slot k3).vrun.map (·.count 1) = some 3) = true := by decide +kernel

theorem witness_VectorMovesAndReductions :
    (vecState [] []).running k3 vrun ∧ (vr 3 1 0 0).vb = 0 ∧ (vr 3 1 0 0).vc = 0 ∧ (vr 3 1 0 0).imm.toNat < (vecState [] []).lanes k3 := by decide +kernel
theorem test_vwin : after (exec (.vwin k3 { vr 3 1 0 3 with msk := 2 }) (vecState [(256, 10), (257, 11), (258, 12)] [(2, 0b101)]))
    (fun t => (t.slot k3).vget 3 0 = 10 && (t.slot k3).vget 3 1 = 12 && (t.slot k3).vget 3 2 = 0) = true := by decide +kernel

/-- A VM form with most fields zero: address register A0. -/
def vm (vd : BitVec 5) (fmt : BitVec 2) (off : BitVec 24 := 0) : VMForm :=
  { vd := vd, ab := 0, inc := 0, sab := 0, rsv := 0, msk := 0, mz := 0, fmt := fmt, rm := 0, sub := 0, off := off }
theorem witness_VectorMemory :
    let s := vecState [] []
    s.running k3 vrun ∧ vrun.f.denied = false ∧ vrun.f.status = 0 ∧ s.mx.extents = [] ∧ s.mx.hostExtents = [] ∧ s.mx.granBad = [] ∧ s.plotOpen 0 = true ∧
    lineAddr 0 0 ≤ (BitVec.ofNat 48 (vrun.addr 0) + (vm 3 0 64).off.signExtend 48).toNat ∧ 64 + 4 * s.lanes k3 ≤ lineAddr 0 0x20_0000 ∧ (vm 3 0).sab = 0 ∧ (vm 3 0).mz = 0 ∧
    (vm 3 0).vd.toNat < 8 ∧ 0 < (vm 3 0).vd.toNat ∧ (vm 3 0).msk = 0 ∧ (vm 3 0).fmt = 0 ∧ (vm 3 0).sub.toNat % 4 = 0 := by decide +kernel
theorem test_vldb : after (exec (.vldb k3 (vm 3 0 4)) { vecState [] [] with mem := [(4, 0x11), (5, 0x22)] })
    (fun t => (t.slot k3).vget 3 0 = 0x2211 && (t.slot k3).vget 3 9 = 0x2211) = true := by decide +kernel

theorem witness_MicroprogramControl :
    let s := withSlot (fun x => { x with vrun := some { vrun with started := false } }) (furrowState [])
    (s.slot k3).vrun = some { vrun with started := false } ∧ (vecState [] []).running k3 vrun ∧ (0 : Int) ≤ (vrun.pc : Int) + 8 * (2047 : BitVec 24).toInt ∧
    (vrun.pc : Int) + 8 * (2047 : BitVec 24).toInt < 16384 := by decide +kernel
theorem witness_MicroprogramControl_completes :
    let s := withSlot (fun x => { x with vtail := [vrun] }) (furrowState [])
    (s.slot k3).vtail = [vrun] ∧ vrun.f.q.desc.sigScope = 0 ∧ s.rd (slotB k3) F.CMP_RING_SIZE_LOG2 = 0 := by decide +kernel
theorem test_vbnz : after (exec (.vbnz k3 { ci := 1, aj := 0, rsv := 0, imm := 5 }) (withSlot (fun x => { x with vrun := some { vrun with c := [(1, 2)] } }) (furrowState [])))
    (fun t => (t.slot k3).vrun.map (fun r => (r.pc, r.count 1)) = some (40, 1)) = true := by decide +kernel

/-! ### The data mover and the Windrow -/

/-- A data mover with one command past dequeue. -/
def moverState (d : Desc) : State := withSlot (fun x => { x with dmPipe := [flight d] }) (furrowState [])

/-- Copy two rows of 64 bytes from 0 to 0x1000. -/
def copyDesc : Desc := { w0 := 0x10, w3 := 0x1000, w4 := 0x2_0000_0040, w5 := 0x80_0000_0040 }

theorem witness_DataMoverCommands :
    let s := moverState copyDesc
    s.mx.extents = [] ∧ s.mx.hostExtents = [] ∧ s.mx.granBad = [] ∧ s.mx.barnBad = [] ∧ s.mx.granInj = [] ∧ s.mx.barnInj = none ∧
    s.dmWaiting k3 0x10 = flight copyDesc :: (s.dmWaiting k3 0x10).tail ∧ s.remoteDst copyDesc = false ∧ s.posted copyDesc = false ∧
    (∀ r ∈ natRuns copyDesc.dstRuns, inMemory r.1 = true) ∧ inMemory copyDesc.dst = true ∧ s.physOf (s.ownerOf k3 copyDesc) = some k3 ∧
    (s.slot k3).accepts copyDesc.epoch = true ∧ s.remoteSrc copyDesc = false ∧ inMemory copyDesc.src = true ∧ (∀ r ∈ natRuns copyDesc.srcRuns, inMemory r.1 = true) := by
  decide +kernel
theorem witness_DataMoverCommands_open : ∀ p, (moverState copyDesc).plotOpen p = true := fun _ => rfl
theorem witness_DataMoverCommands_fill :
    let d : Desc := { copyDesc with w0 := 0x11 }
    let s := moverState d
    s.dmWaiting k3 0x11 = flight d :: (s.dmWaiting k3 0x11).tail ∧ s.remoteDst d = false ∧ s.posted d = false ∧ (∀ r ∈ natRuns d.dstRuns, inMemory r.1 = true) ∧
    s.physOf (s.ownerOf k3 d) = some k3 := by decide +kernel
theorem witness_DataMoverCommands_signal :
    let s := moverState { w0 := 0x12 }
    s.dmWaiting k3 0x12 = flight { w0 := 0x12 } :: (s.dmWaiting k3 0x12).tail ∧ s.remoteDst { w0 := 0x12 } = false := by decide +kernel
theorem witness_DataMoverCommands_close :
    let d : Desc := { w0 := 0x13, w7 := 16 }
    let s := moverState d
    s.dmWaiting k3 0x13 = flight d :: (s.dmWaiting k3 0x13).tail ∧ s.remoteDst d = false ∧ s.physOf d.dstCluster = some k17 ∧ s.slotOpen k17 = true ∧
    (s.slot k17).accepts d.epoch = true := by decide +kernel
theorem witness_DataMoverCommands_post :
    let d : Desc := { w0 := 0x14, w2 := 3 }
    let s := moverState d
    s.dmWaiting k3 0x14 = flight d :: (s.dmWaiting k3 0x14).tail ∧ (flight d).denied = false ∧ d.unit < 8 ∧ (s.bin ⟨0, 3⟩).queue.length < 16 := by decide +kernel
theorem test_dcopy : after (exec (.dcopy k3) { moverState copyDesc with mem := [(0x41, 7)] }) (fun t => t.byte 0x1081 = 7 && t.byte 0x1041 = 0) = true := by decide +kernel

/-- The mover's oldest command has done its work, with a signal scope, token 5, count 2 and target cluster 16. -/
def doneState (scope : Nat) : State :=
  withSlot (fun x => { x with dmPipe := [{ flight { w0 := 0x12, w1 := BitVec.ofNat 64 (5 * 2 ^ 24 + scope * 2 ^ 30 + 2 * 2 ^ 32 + 16 * 2 ^ 48) } with done := true }] }) (furrowState [])
theorem witness_CompletionMakesTheSignal :
    ∀ scope ∈ [0, 1, 2, 3], let s := doneState scope
      s.slotLive k3 = true ∧ (∃ f, (s.slot k3).dmPipe = [f] ∧ f.done = true ∧ f.status = 0 ∧ f.mute = false ∧ f.q.desc.sigScope = scope ∧ f.q.desc.sigTok = 5 ∧
        f.q.desc.sigCount = 2 ∧ s.physOf f.q.desc.sigCluster = some k17) ∧ s.rd (slotB k3) F.CMP_RING_SIZE_LOG2 = 0 ∧ s.tok k3 5 + 2 ≤ 0xFFFF ∧
      (s.slot k3).accepts 0 = true ∧ (s.slot k3).held = [] ∧ (s.slot k3).held.length < 128 ∧ (s.slot k17).held.length < 128 ∧ s.slotOpen k17 = true ∧ (s.slot k17).accepts 0 = true ∧ (s.slot k17).held = [] := by
  simp only [List.mem_cons, List.not_mem_nil, or_false]
  rintro scope (rfl | rfl | rfl | rfl) <;> refine ⟨by decide +kernel, ⟨_, rfl, ?_⟩, ?_⟩ <;> decide +kernel
theorem test_signal_local : after (exec (.dmCommandComplete k3) (doneState 1)) (fun t => t.tok k3 5 = 2) = true := by decide +kernel

/-- Stack 0 with a ring of 8 lines at line 0x1000 and a spill area of 16 lines at the bottom of the Barn. -/
def stackState (k : Stack) (d : Desc) : State :=
  (owned (withSlot (fun x => { x with wstacks := [(0, k)], dmPipe := [flight d] }) (furrowState []))
    |>.wr (slotB k3) F.WR_REGION_RING_LINES 8 |>.wr (slotB k3) F.WR_REGION_BASE_LINE 0x1000 |>.wr (slotB k3) F.WR_SPILL_SPILL_LINES 16
    |>.wr (slotB k3) F.WR_SPILL_BASE 0x2_0000_0000)
/-- One row of two lines at line 0. -/
def pushDesc (code : W64) : Desc := { w0 := code, w3 := 0x1_0002 }

theorem witness_WindrowPushAndPop :
    let d := pushDesc 0x16
    let s := stackState {} d
    s.mx.extents = [] ∧ s.mx.hostExtents = [] ∧ s.mx.granBad = [] ∧ (flight d).denied = false ∧
    (∀ r ∈ windrowRows k3 d, inMemory r.1 = true ∧ r.1 < 0x0001_0000_0000) ∧ d.wRowLines ≠ 0 ∧ s.windrowNext k3 0x16 = some (flight d) ∧
    s.windrowFault k3 d 1 true = 0 ∧ ((s.slot k3).stack 0).resident + d.wData + 1 ≤ s.ringLines k3 0 := by decide +kernel
theorem witness_WindrowPushAndPop_pop :
    let d := pushDesc 0x17
    let s : State := { stackState { ctop := 3, wtop := 3, cframes := [3], wframes := [3] } d with mem := [(0x40004, 2)] }
    let x := (s.slot k3).stack 0
    s.windrowNext k3 0x17 = some (flight d) ∧ s.windrowFault k3 d 1 false = 0 ∧ x.wframes = (d.wData + 1) :: x.wframes.tail ∧ d.wData + 1 ≤ x.wtop ∧
    x.spilled ≤ x.wtop - (d.wData + 1) ∧ num (s.bytes (s.ringAddr k3 0 0) 64) 4 4 = d.wData ∧ num (s.bytes (s.ringAddr k3 0 0) 64) 0 2 = d.layer ∧
    (windrowRows k3 d).Pairwise (fun a b => overlap a.1 a.2 b.1 b.2 = false) := by decide +kernel
theorem test_push_top : after (exec (.wpush k3) (stackState {} (pushDesc 0x16))) (fun t => ((t.slot k3).stack 0).wtop = 3) = true := by decide +kernel

theorem witness_WindrowSpillAndRefill :
    let s := stackState { ctop := 7, wtop := 7 } {}
    let x := (s.slot k3).stack 0
    s.mx.granBad = [] ∧ s.mx.barnBad = [] ∧ 4 * x.resident > 3 * s.ringLines k3 0 ∧ x.resident ≤ s.ringLines k3 0 ∧ x.ctop ≤ x.spilled + s.ringLines k3 0 := by decide +kernel
theorem witness_WindrowSpillAndRefill_low :
    let s := stackState { ctop := 7, wtop := 7, spilled := 6 } {}
    let x := (s.slot k3).stack 0
    4 * x.resident < s.ringLines k3 0 ∧ x.spilled ≤ s.spillLines k3 0 := by decide +kernel
theorem witness_WindrowSpillAndRefill_places (k : Stack) (d : Desc) :
    let s := stackState k d
    (∀ p, s.plotOpen p = true) ∧ (∀ depth, s.ringAddr k3 0 depth + 64 ≤ 0x0001_0000_0000) ∧
    (∀ depth, depth < s.spillLines k3 0 → 0x0080_0000_0000 ≤ s.spillAddr k3 0 depth ∧ s.spillAddr k3 0 depth + 64 ≤ 0x0100_0000_0000) := by
  refine ⟨fun _ => rfl, fun depth => ?_, fun depth h => ?_⟩
  · have e : (stackState k d).rd (slotB k3) F.WR_REGION_BASE_LINE 0 = 0x1000 := rfl
    have n : (stackState k d).rd (slotB k3) F.WR_REGION_RING_LINES 0 = 8 := rfl
    simp only [State.ringAddr, State.ringLines, e, n, lineAddr]
    have : depth % 8 < 8 := Nat.mod_lt _ (by decide)
    simp only [k3]
    omega
  · have e : (stackState k d).rd (slotB k3) F.WR_SPILL_BASE 0 = 0x2_0000_0000 := rfl
    have n : (stackState k d).rd (slotB k3) F.WR_SPILL_SPILL_LINES 0 = 16 := rfl
    simp only [State.spillAddr, State.spillLines, e, n] at h ⊢
    omega

/-! ### Bin units and the Drill -/

/-- A posted descriptor of the open furrow. -/
def postedOf (d : Desc) : Posted := { desc := d, poster := k3, serial := 1, furrowId := 7, pc := 0, bank := false, eligible := true }
def bin3 : BinId := ⟨0, 3⟩
/-- BZERO of 32 elements at line 0. -/
def bzeroDesc : Desc := { w0 := 0x40, w2 := 32 }
/-- BADAM of 32 elements: x, m, v, g, b, r at lines 0, 16, 32, 48, 64, 80; gated by verdict slot 2. -/
def adamDesc : Desc :=
  { w0 := 0x45, w2 := BitVec.ofNat 64 (32 + 2 ^ 38 + 2 * 2 ^ 39), w3 := BitVec.ofNat 64 (16 * 2 ^ 21 + 32 * 2 ^ 42), w4 := BitVec.ofNat 64 (48 + 64 * 2 ^ 21 + 80 * 2 ^ 42) }
/-- A unit with a journal of 64 lines at line 0x1000 and a queue. -/
def binState (x : BinUnit) : State :=
  ((owned (furrowState [])).wr (plotB 0) F.BIN_CFG_JOURNAL_BASE 0x1000 3 |>.wr (plotB 0) F.BIN_CFG_JOURNAL_LINES 64 3).setBin bin3 x
/-- A unit that runs a command in a Bin furrow of serial number 4. -/
def binRun (d : Desc) : State :=
  binState { run := some { p := { postedOf d with bf := some 4, taken := true }, tDeq := 0 }, furrows := [{ serial := 4, poster := k3, pserial := 1, id := 7 }] }

theorem witness_BinUnitsTakeEligibleDescriptors :
    let p := postedOf bzeroDesc
    let s := binState { queue := [p] }
    let r := s.binFurrowOf bin3 p
    s.binLive bin3 = true ∧ s.passPoint = .window ∧ (s.bin bin3).run = none ∧ (s.bin bin3).queue.find? nextPosted = some p ∧ s.binGate 0 bzeroDesc = .ready ∧
    r.2.checks k3 bzeroDesc true (binBodyOk bzeroDesc && (binExtents 0 bzeroDesc).all (r.2.unitPlotOk 0)) (r.2.sigFallow bzeroDesc) true
      ((binExtents 0 bzeroDesc).all (r.2.inPlotPart 0)) = .ok ∧
    (∀ f ∈ (r.2.bin bin3).furrows, r.2.journalFull bin3 f (journaled 0 bzeroDesc) = false) := by decide +kernel
theorem witness_BinUnitsTakeEligibleDescriptors_gated :
    let s := binState { queue := [postedOf adamDesc] }
    s.binLive bin3 = true ∧ (s.bin bin3).queue.find? nextPosted = some (postedOf adamDesc) ∧ s.binGate 0 adamDesc = .wait ∧
    ((s.wr (plotB 0) F.VERDICT_VALID 1 2).wr (plotB 0) F.VERDICT_STEP 1 2).binGate 0 adamDesc = .late ∧ (s.core k3).halted = false := by decide +kernel

theorem witness_BinCommands :
    ∀ c ∈ [0x40, 0x41, 0x42, 0x43, 0x44, 0x45, 0x46], let d : Desc := { adamDesc with w0 := BitVec.ofNat 64 c, w2 := if c = 0x46 then 32 + 2 ^ 36 else 32, w5 := if c = 0x46 then BitVec.ofNat 64 (96 * 2 ^ 42) else 0 }
      let s := binRun d
      ((s.bin bin3).run.map (fun r => (r.denied, r.p.bf))) = some (false, some 4) ∧ s.mx.extents = [] ∧ s.mx.hostExtents = [] ∧ s.mx.granBad = [] ∧ s.mx.granInj = [] ∧
      s.plotOpen 0 = true ∧ d.bN % 32 = 0 ∧ (∀ e ∈ binExtents 0 d, inPlot 0 e = true) ∧
      (binExtents 0 d).Pairwise (fun e f => overlap e.1 e.2 f.1 f.2 = false) ∧ ((s.bin bin3).furrows.find? (fun f => f.serial = 4)).map (·.journal) = some [] ∧
      s.binSkips 0 d = false ∧ d.code = c ∧ (c = 0x46 → castI d = true) ∧ s.postedWaits (postedOf d) (.bin bin3 4) 3 2 = false := by decide +kernel
theorem witness_BinCommands_journal (pos : Nat) :
    let s := binRun adamDesc
    inPlot 0 (s.journalLine bin3 pos, 64) = true ∧ ∀ e ∈ binExtents 0 adamDesc, overlap (s.journalLine bin3 pos) 64 e.1 e.2 = false := by
  have e : (binRun adamDesc).journalLine bin3 pos = lineAddr 0 (0x1000 + pos % 64) := rfl
  have all : ∀ m, m < 64 → inPlot 0 (lineAddr 0 (0x1000 + m), 64) = true ∧ ∀ e ∈ binExtents 0 adamDesc, overlap (lineAddr 0 (0x1000 + m)) 64 e.1 e.2 = false := by
    decide +kernel
  simp only [e]
  exact all _ (Nat.mod_lt _ (by decide))
theorem witness_BinCommands_skip : (binRun adamDesc).binSkips 0 adamDesc = true ∧ adamDesc.code = 0x45 := by decide +kernel
theorem test_bzero : after (exec (.bzero bin3) { binRun bzeroDesc with mem := [(5, 9), (128, 1)] })
    (fun t => t.byte 5 = 0 && t.byte 128 = 1 && (t.bin bin3).run = none) = true := by decide +kernel

/-- DWINNOW of 2 rows of one line, one choice each, two experts of capacity 1: rows at line 0, choices at 8, results at 16, 4 lines an expert, indices at 32, counts at 40. -/
def winnowDesc : Desc :=
  { w0 := 0x50, w2 := BitVec.ofNat 64 (2 + 2 * 2 ^ 32 + 2 ^ 44), w3 := BitVec.ofNat 64 (8 * 2 ^ 21 + 16 * 2 ^ 42), w4 := BitVec.ofNat 64 (4 + 32 * 2 ^ 21 + 40 * 2 ^ 42) }
def drillState (x : DrillUnit) : State := (owned (furrowState [])).setDrill 0 x
theorem witness_DrillCommands :
    let s := drillState { queue := [postedOf winnowDesc] }
    s.mx.extents = [] ∧ s.mx.hostExtents = [] ∧ s.mx.granBad = [] ∧ s.mx.granInj = [] ∧ s.plotOpen 0 = true ∧ s.drillLive 0 = true ∧ (s.drill 0).run = none ∧
    (s.drill 0).queue = [postedOf winnowDesc] ∧
    s.checks k3 winnowDesc true (drillBodyOk winnowDesc && (drillExtents 0 winnowDesc).all (s.unitPlotOk 0)) (s.sigFallow winnowDesc) true
      ((drillExtents 0 winnowDesc).all (s.inPlotPart 0)) = .ok := by decide +kernel
theorem witness_DrillCommands_winnow :
    let r : UnitRun := { p := postedOf winnowDesc, tDeq := 0 }
    ((drillState { run := some r }).drill 0).run = some r ∧ winnowDesc.code = 0x50 ∧ (drillExtents 0 winnowDesc).all (inPlot 0) = true ∧
    (drillExtents 0 winnowDesc).Pairwise (fun e f => overlap e.1 e.2 f.1 f.2 = false) ∧ winnowDesc.dCap * (64 * winnowDesc.dRowLines) ≤ 64 * winnowDesc.dStride ∧
    (drillState { run := some r }).postedWaits r.p (.furrow k3 1) 0 3 = false := by decide +kernel
theorem test_dwinnow_capacity : after (exec (.dwinnow 0) { drillState { run := some { p := postedOf winnowDesc, tDeq := 0 } } with mem := [(0, 7), (64, 8)] })
    (fun t => t.byte (16 * 64) = 7 && ofBytes (t.bytes (32 * 64) 8) = 0xFFFF0000_00000000 && ofBytes (t.bytes (40 * 64) 4) = 1) = true := by decide +kernel
theorem witness_DrillCommands_resow :
    let d : Desc := { w0 := 0x51, w2 := BitVec.ofNat 64 (2 + 2 * 2 ^ 32), w3 := BitVec.ofNat 64 (8 * 2 ^ 21 + 16 * 2 ^ 42), w4 := 4 }
    let r : UnitRun := { p := postedOf d, tDeq := 0 }
    let s := drillState { run := some r }
    (s.drill 0).run = some r ∧ d.code = 0x51 ∧ (drillExtents 0 d).all (inPlot 0) = true ∧
    ∀ i, i < d.dSels → inPlot 0 (lineAddr 0 d.dSrc + 64 * d.dStride * (num (s.bytes (lineAddr 0 d.dSel) 8) (4 * i) 4 % 0x10000), 64) = true := by decide +kernel

/-! ### Hosts and queues -/

/-- The path is UP, the gate is this module's own device, and segment 0 of the window gives partition 1 eight MiB of host 2. -/
def hostState : State :=
  let s := (owned ({ firstPass := true, fab := { peers := [{ dev := 0 }] } } : State)).wr hostB F.GATE_STAT_PATH 1
  ((((s.wr hostB F.XLAT_RIGHTS_VALID 1).wr hostB F.XLAT_RIGHTS_PART 1).wr hostB F.XLAT_RIGHTS_READ 1).wr hostB F.XLAT_RIGHTS_WRITE 1).wr hostB F.XLAT_WIN_PAGES 4
    |>.wr hostB F.XLAT_HOST_HOST 2 |>.wr hostB F.XLAT_HOST_HBASE 5
/-- Queue pair 6 of partition 1 and host 2, with rings of 16 entries, in a state. -/
def pairState (st : Nat) : State :=
  ((((hostState.wr hostB F.QP_OWNER_VALID 1 6).wr hostB F.QP_OWNER_PART 1 6).wr hostB F.QP_OWNER_HOST 2 6).wr hostB F.QP_SQ_SIZE_LOG2 4 6).wr hostB F.QP_CQ_SIZE_LOG2 4 6
    |>.wr hostB F.QP_SQ_BASE 0x200_0000_0000 6 |>.wr hostB F.QP_CQ_BASE 0x200_0000_0100 6 |>.wr hostB F.QP_STAT_STATE st 6
def hostPacket (host htype qp hlen w2 : Nat) (h : Hdr) : Packet := { h with kind := 9 }.packet (hostHdr host htype qp false hlen 0 w2)
/-- The same with a host packet ejected. -/
def arrived (p : Packet) (s : State) : State := { s with fab.ejected := [{ pkt := p, port := none }] }

theorem witness_QueuePairsOpenAndDrain :
    (pairState 0).qpState 6 = 0 ∧ (pairState 0).qpReady 6 = true ∧ ((pairState 0).wr hostB F.QP_SQ_SIZE_LOG2 3 6).qpReady 6 = false ∧ (pairState 2).qpState 6 = 2 ∧
    (pairState 3).qpState 6 = 3 ∧ (pairState 3).qpReady 6 = true ∧ ((pairState 2).qp 6).entries = [] ∧ (pairState 2).completing 6 = false := by decide +kernel
theorem witness_QueuePairsOpenAndDrain_doorbell :
    let p := hostPacket 2 3 6 0 (2 ^ 32 + 15) {}
    let s := arrived p (pairState 1)
    isHost 3 { pkt := p, port := none } = true ∧ p.hostQp = 6 ∧ p.hostNo = s.rd hostB F.QP_OWNER_HOST 6 ∧ s.qpState 6 = 1 ∧ num p.data 16 8 / 2 ^ 32 % 4 = 1 ∧
    num p.data 16 8 % 2 ^ 16 < s.sqSize 6 := by decide +kernel
theorem witness_QueuePairsOpenAndDrain_refused :
    let p := hostPacket 3 3 6 0 (2 ^ 33 + 15 * 2 ^ 16) {}
    isHost 3 { pkt := p, port := none } = true ∧ p.hostQp = 6 ∧ p.hostNo ≠ (pairState 1).rd hostB F.QP_OWNER_HOST 6 ∧ p.hostNo = ((pairState 2).wr hostB F.QP_OWNER_HOST 3 6).rd hostB F.QP_OWNER_HOST 6 ∧
    (pairState 2).qpState 6 ≠ 1 ∧ num p.data 16 8 / 2 ^ 32 % 4 = 2 ∧ num p.data 16 8 / 2 ^ 16 % 2 ^ 16 < (pairState 1).cqSize 6 := by decide +kernel
theorem test_qp_enable : after (exec (.qpEnable 6) (pairState 0)) (fun t => t.qpState 6 = 1) = true := by decide +kernel

/-- An entry in flight. -/
def sqEntry (op w1 w2 w3 w4 : Nat) : QpEntry :=
  { idx := 0, fetched := true, desc := { w0 := BitVec.ofNat 64 op, w1 := BitVec.ofNat 64 w1, w2 := BitVec.ofNat 64 w2, w3 := BitVec.ofNat 64 w3, w4 := BitVec.ofNat 64 w4 } }
def entryState (e : QpEntry) : State := (pairState 1).modQp 6 (fun x => { x with entries := [e] })

theorem witness_QueueEntriesRun :
    let s := (pairState 1).wr hostB F.QP_IDX_SQ_TAIL 3 6
    s.pathUp = true ∧ s.noWay 0 0 false = false ∧ s.fab.peers.any (fun d => d.dev = 0) = true ∧ s.rd hostB F.GATE_CFG_GATE_DEVICE = 0 ∧ s.fab.nextTag < 2 ^ 24 ∧
    (s.mx.granBad = [] ∧ s.mx.barnBad = [] ∧ s.mx.granInj = [] ∧ s.mx.barnInj = none ∧ s.mx.extents = [] ∧ s.mx.hostExtents = []) ∧
    s.qpState 6 = 1 ∧ min (min (8 - (s.qp 6).entries.length) (256 - s.entriesInFlight)) (s.rd hostB F.QP_IDX_SQ_TAIL 6) = 3 ∧ s.mreads < 64 ∧
    s.rd hostB F.QP_SQ_SIZE_LOG2 6 ≤ 16 ∧ (s.translate (s.qpPart 6) (64 * s.rd hostB F.QP_SQ_BASE 6) (64 * 3) false).isSome = true := by decide +kernel
theorem witness_clean : State.reset.clean := ⟨rfl, rfl, rfl, rfl, rfl, rfl, rfl, fun _ => rfl⟩
theorem witness_QueueEntriesRun_copies :
    ∀ op ∈ [1, 2], let s := entryState (sqEntry op 0x40 0x8000_0000_1000 5000 0)
      s.nextCopy 6 op = some (sqEntry op 0x40 0x8000_0000_1000 5000 0) ∧ (sqEntry op 0x40 0x8000_0000_1000 5000 0).denied = false ∧ inMemory 0x40 = true ∧
      (s.translate (s.qpPart 6) 0x8000_0000_1000 4032 (op = 2)).isSome = true ∧ s.mreads < 64 := by decide +kernel
theorem witness_QueueEntriesRun_others :
    let e := sqEntry 3 0 0 0 (5 + 16 * 2 ^ 16 + 2 * 2 ^ 32)
    (entryState e).headEntry 6 3 = some e ∧ (entryState e).physOf e.desc.sqCluster = some k17 ∧ (entryState e).slotOpen k17 = true ∧ ((entryState e).slot k17).held = [] ∧
    (entryState (sqEntry 4 0 0 0 0)).headEntry 6 4 = some (sqEntry 4 0 0 0 0) := by decide +kernel
/-- An MWRITE of the entry's data, sent in Pass 0. -/
def writeReq : HostReq := { tag := 9, write := true, host := 2, haddr := 0, win := 0, len := 64, use := .dataOut 6 0, pass := 0 }
theorem witness_QueueEntriesRun_timeout :
    let s : State := { (entryState (sqEntry 2 0x40 0x8000_0000_1000 64 0)) with host.reqs := [writeReq], fieldCount := 1500000 }
    s.host.reqs.find? (fun r => r.tag = (9 : BitVec 24).toNat) = some writeReq ∧ writeReq.use = .dataOut 6 0 ∧ writeReq.pass + s.rd hostB F.QM_CFG_HOST_TIMEOUT ≤ s.passIdx := by
  decide +kernel

theorem witness_HostAnswersAndPath :
    let p := { hostPacket 2 9 6 64 0 { tag := 9, length := 96 } with data := hostHdr 2 9 6 false 64 0 0 ++ List.replicate 64 7 }
    let r : HostReq := { writeReq with write := false, use := .dataIn 6 0 0x40 }
    let s := arrived p { entryState (sqEntry 1 0x40 0x8000_0000_1000 64 0) with host.reqs := [r] }
    s.saysDown p = false ∧ p.resp = 0 ∧ isHost 9 { pkt := p, port := none } = true ∧ r.len ≤ 4032 ∧ s.host.reqs.find? (fun r => r.tag = p.tag && !r.write) = some r ∧
    p.hostData.length = r.len ∧ inMemory 0x40 = true := by decide +kernel
theorem witness_HostAnswersAndPath_ack :
    let p := hostPacket 2 0xA 6 0 0 { tag := 9 }
    let r : HostReq := { writeReq with use := .completion 6 }
    isHost 0xA { pkt := p, port := none } = true ∧ ([r].find? (fun r => r.tag = p.tag && r.write)) = some r ∧ (pairState 1).saysDown p = false := by decide +kernel
theorem witness_HostAnswersAndPath_probe :
    let p := hostPacket 0 0xB 0 0 0 { src := 3 }
    let s := arrived p ((hostState.wr (portB 2) F.PORT_CFG_MODE 2).setPst 3 pUP)
    isHost 0xB { pkt := p, port := none } = true ∧ s.isGate = true ∧ p.src ≠ s.device ∧ s.noWay 0 3 false = false ∧ hostState.isGate = false ∧ p.pathDown = false ∧
    (hostPacket 0 0xB 0 0 0 {}).src < 0x10000 ∧ hostState.host.reqs = [] ∧ hostState.host.qps = [] ∧ hostState.pathUp = true ∧
    ({ hostPacket 0 0xB 0 0 0 {} with data := hostHdr 0 0xB 0 true 0 0 0 } : Packet).pathDown = true := by decide +kernel
theorem witness_HostAnswersAndPath_timer :
    let s : State := { hostState with fieldCount := 1500 * 64 }
    s.host.probePass + s.rd hostB F.QM_CFG_PROBE_PASSES ≤ s.passIdx ∧ s.noWay 0 (s.rd hostB F.GATE_CFG_GATE_DEVICE) false = false := by decide +kernel
theorem witness_HostAnswersAndPath_ingress :
    let p := hostPacket 2 1 6 64 0 { length := 32 }
    let q := ({ kind := 1 } : Hdr).packet []
    let s := (hostState.wr (portB 2) F.PORT_CFG_MODE 2).modPort 2 (fun x => { x with rxPkts := [{ pkt := p }] })
    s.gatePort = some 2 ∧ (s.port 2).rxPkts = [{ pkt := p }] ∧ p.headerOk = true ∧ p.kind = 9 ∧ p.slice = 0 ∧ p.src = 0 ∧ p.dst = 0 ∧ p.hostOk = true ∧ q.kind ≠ 9 := by
  decide +kernel
/-- A posted transfer of 64 bytes between line 1 and the window. -/
def postedXfer (out : Bool) : PostedXfer :=
  let w := 0x8000_0000_1000
  { q := { entry with desc := { w0 := 0x10, w2 := if out then 0x40 else w, w3 := if out then w else 0x40, w4 := 0x1_0000_0040 } }
    issuer := k3, part := 1, no := 4, released := true }
theorem witness_HostAnswersAndPath_posted :
    ∀ out ∈ [true, false], let x := postedXfer out
      let s : State := { hostState with host.posted := [x] }
      let c := piece x.q.desc x.next
      s.host.posted.find? (fun x => x.released && decide (x.next < x.q.desc.total)) = some x ∧ x.q.desc.toHost = out ∧ (out = true → inMemory c.1 = true) ∧
      (s.translate x.part (if out then c.2.1 else c.1) c.2.2 out).isSome = true ∧ s.mreads < 64 ∧ s.pathUp = true ∧ x.denied = false := by decide +kernel

/-! ### Collectives -/

/-- A collective command on channel 5 with OP_SEQ 0: one chunk of 64 bytes from 0x1000 to 0x2000. -/
def collDesc (code : Nat) : Desc :=
  { w0 := BitVec.ofNat 64 code, w2 := 5, w3 := 0x1000, w4 := 0x2000, w5 := 0x1_0000_0040 }
def collOp (code : Nat) (accNo : Nat := 0) : CollOp :=
  { desc := collDesc code, issuer := k3, serial := 1, furrowId := 7, pc := 0, bank := false, part := 1, slice := 0, axis := 0, n := 4, pos := 0, lo := 0, ring := true,
    accNo := accNo, home := 0 }
def chanState (c : Chan) (d : Desc) (waiting : Bool := false) : State :=
  ((owned (withSlot (fun x => { x with dmPipe := [{ flight d with waiting := waiting }] }) (furrowState []))).setChan 5 c)

theorem witness_ChannelsTakeTheirCommandsInOrder :
    ∀ code ∈ [0x18, 0x19, 0x1A, 0x1B, 0x1C, 0x1D, 0x1E, 0x1F], let d := collDesc code
      let s := chanState {} d
      s.collNext k3 code = some (flight d) ∧ (flight d).q.reexec = false ∧ s.coll.early = [] ∧ s.allOps = [] ∧ d.cChan = 5 ∧ (s.chan 5).aborted = false ∧
      d.cSeq = (s.chan 5).next ∧ (s.core k3).halted = false ∧ (chanState { aborted := true } d).collNext k3 code = some (flight d) ∧
      ((chanState { aborted := true } d).chan 5).aborted = true := by decide +kernel
theorem witness_ChannelsTakeTheirCommandsInOrder_full :
    let s0 := chanState { ops := List.replicate 8 (collOp 0x18) } (collDesc 0x19)
    let s : State := { s0 with coll.accepts := 1 }
    s.collNext k3 0x19 = some (flight (collDesc 0x19)) ∧ 8 ≤ (s.chan 5).ops.length ∧ s.coll.early = [] ∧ (∀ e ∈ s.allOps, e.2.accNo < s.coll.accepts) := by decide +kernel
theorem witness_ChannelsTakeTheirCommandsInOrder_room :
    let s := chanState {} (collDesc 0x18) true
    let f := { flight (collDesc 0x18) with waiting := true }
    (s.slot k3).dmPipe.find? (fun f => !f.done && f.waiting && decide (0x18 ≤ f.q.desc.code) && decide (f.q.desc.code ≤ 0x1F)) = some f ∧ f.q.reexec = false ∧
    (s.chan 5).ops.length < 8 ∧ s.allOps.length < 1024 := by decide +kernel
theorem witness_ChannelsTakeTheirCommandsInOrder_rows :
    ∀ code ∈ [0x1D, 0x1E, 0x1F], let s0 := chanState { ops := [collOp code] } {}
      let s : State := { s0 with coll.accepts := 1 }
      (s.chan 5).ops.find? (fun o => !o.started) = some (collOp code) ∧ (collOp code).code = code ∧ (∀ e ∈ s.allOps, ¬e.2.accNo < (collOp code).accNo) ∧
      s.coll.early = [] ∧ (∀ e ∈ s.allOps, e.2.accNo < s.coll.accepts) ∧ inMemory (collOp code).desc.cSrc = true ∧ s.rotBefore (collOp code) = false ∧
      (∀ e ∈ s.allOps, e.2.desc.cBuf = (collOp code).desc.cBuf → (collOp code).accNo ≤ e.2.accNo ∧ (e.2.code = 0x1E → e.2.started = false → e.2.accNo = (collOp code).accNo)) := by decide +kernel

/-- A reduction packet of channel 5 with a mask, ejected at port 0. -/
def redEjected (rtype target : Nat) (mask : W64) (count : Nat := 0) : Ejected :=
  let r : Red := { chan := 5, rtype := rtype, mask := mask, target := target, auxCount := count }
  { pkt := ({ kind := 8 } : Hdr).packet (r.bytes ++ List.replicate 64 1), port := some 0 }
def redState (o : CollOp) (e : Ejected) : State := { chanState { bound := true, ops := [o] } {} with fab.ejected := [e] }
def runOp (code : Nat) : CollOp := { collOp code with started := true, src := List.replicate 64 2 }
/-- The one chunk, and that of a verdict. -/
def chunk0 : ChunkAt := ⟨0, 0, 64, none⟩
def chunkV : ChunkAt := ⟨0, 0, 0, none⟩

/-- What the statement asks of a packet and its operation. -/
def redMeets (code : Nat) (e : Ejected) (ch : ChunkAt) : Bool :=
  let o := runOp code
  let s := redState o e
  let r := Red.of e.pkt.data
  decide (s.redMatch r = .op o) && decide (s.op? r.chan o.accNo = some o) && decide (e.pkt.epoch = o.desc.epoch) && decide (fld e.pkt.w0 50 1 = 0) &&
  decide (r.gen = o.gen % 4) && o.started && decide (o.chunkNo r.chunk = some ch) &&
  decide (takeFirst (fun x : Ejected => x.pkt.kind = 8 && (Red.of x.pkt.data).rtype = r.rtype && ((some (0 : Fin 12)).isNone || x.port = some 0)) s.fab.ejected = some (e, []))

theorem witness_ReductionPacketsMeetTheirOperation :
    redMeets 0x18 (redEjected 0 0 2) chunk0 = true ∧ redMeets 0x18 (redEjected 0 0 1) chunk0 = true ∧ redMeets 0x18 (redEjected 0 2 2) chunk0 = true ∧
    redMeets 0x1D (redEjected 5 0 2) chunkV = true ∧ redMeets 0x1A (redEjected 1 0 0) chunk0 = true ∧ redMeets 0x1C (redEjected 2 0 0 1) chunk0 = true := by decide +kernel
theorem witness_ReductionPacketsMeetTheirOperation_masks :
    let o := runOp 0x18
    let a := ownChunk (redState o (redEjected 0 0 2)) o chunk0
    (Red.of (redEjected 0 0 2).pkt.data).target = o.pos ∧ a.seq = 0 ∧ a.mask &&& 2 = 0 ∧ a.mask ||| 2 ≠ o.full ∧ o.code ≠ 0x1D ∧ a.mask &&& 1 ≠ 0 ∧ (1 : W64) &&& ~~~ a.mask = 0 ∧
    (Red.of (redEjected 0 2 2).pkt.data).target ≠ o.pos ∧ (2 : W64) &&& o.bit = 0 ∧ inMemory (o.desc.cDst) = true ∧ (redState o (redEjected 0 0 2)).combineUsed o.home < 64 ∧ (runOp 0x1A).got.contains (gotKey 0 0) = false := by decide +kernel
theorem test_partial_sums : after (exec (.reductionPartial 0) (redState { runOp 0x18 with src := List.replicate 64 0 } (redEjected 0 0 2)))
    (fun t => (t.chan 5).ops.all (fun o => o.acc.any (fun a => a.mask = 3))) = true := by decide +kernel

theorem witness_BreaksAndAborts :
    (∀ ty ∈ [3, 4], takeFirst (fun x : Ejected => x.pkt.kind = 8 && (Red.of x.pkt.data).rtype = ty) [redEjected ty 0 0] = some (redEjected ty 0 0, [])) ∧
    (let s := redState (runOp 0x18) (redEjected 3 0 0)
     let o := runOp 0x18
     (s.chan 5).ops.find? (fun o => o.ring && o.complete.isNone) = some o ∧ (s.chan 5).bound = true ∧ (s.chan 5).axis = o.axis ∧ (s.chan 5).aborted = false ∧
     s.staleRed (redEjected 3 0 0).pkt = false ∧ s.coll.chans.sorted = true ∧ o.line = false ∧ o.lo < s.rd routeB F.AXIS_LENGTH o.axis ∧ o.n ≤ s.rd routeB F.AXIS_LENGTH o.axis ∧ (0 : Nat) < o.n) := by decide +kernel
theorem witness_BreaksAndAborts_early :
    let e : Early := { port := some 0, pkt := (redEjected 0 0 2).pkt, pass := 0 }
    let s : State := { coll := { early := [e] }, fieldCount := 1500 * 16 }
    e ∈ s.coll.early ∧ (Red.of e.pkt.data).chan = (5 : Fin 512).val ∧ (Red.of e.pkt.data).seq = (0 : BitVec 16).toNat ∧
    e.pass + s.rd collB F.COLL_CFG_HOLD_LIMIT ≤ s.passIdx ∧ (s.chan 5).aborted = false := by decide +kernel

/-! ### Packets -/

/-- A module that knows peer 3 and has a route to it, with one packet ejected. -/
def packetState (p : Packet) : State :=
  { (owned (furrowState [])).setPst 3 pUP with fab.ejected := [{ pkt := p, port := none }], fab.peers := [{ dev := 3 }] }

theorem witness_PacketsReachTheirEnd :
    let p := ({ kind := 0, src := 3, addr := 0x1000, owner := 3, stream := 5 } : Hdr).packet (List.replicate 64 9)
    let s := packetState p
    s.fab.ejected = [{ pkt := p, port := none }] ∧ s.noWay p.slice p.src false = false ∧ p.kind = 0 ∧ p.data.length ≠ 0 ∧ s.memCheck (s.packetParts p) p.addr p.data.length = 0 ∧
    s.physOf p.owner = some k3 ∧ (s.slot k3).accepts p.epoch = true ∧ p.sigEn = false ∧ (({ s with fab.ejected := [] }).slot k3).accepts 7 = false := by decide +kernel
theorem witness_PacketsReachTheirEnd_elastic :
    let w := ({ kind := 1, src := 3, addr := 0x80_0000_0000 } : Hdr).packet (List.replicate 64 9)
    let r := ({ kind := 2, src := 3, addr := 0x1000, length := 128 } : Hdr).packet []
    w.kind = 1 ∧ r.kind = 2 ∧ (packetState w).memCheck ((packetState w).packetParts w) w.addr w.data.length = 0 ∧
    (packetState r).memCheck ((packetState r).packetParts r) r.addr r.length = 0 ∧ (packetState r).fab.peers.any (fun d => d.dev = r.src) = true := by decide +kernel
theorem witness_PacketsReachTheirEnd_signal :
    let p := ({ kind := 4, src := 3, owner := 3, sigEn := true, sigCluster := 16, sigCount := 2 } : Hdr).packet []
    let s := packetState p
    p.kind = 4 ∧ s.physOf p.owner = some k3 ∧ (s.slot k3).accepts p.epoch = true ∧ p.sigEn = true ∧ s.physOf p.sigCluster = some k17 ∧ s.slotOpen k17 = true ∧
    (s.slot k17).accepts p.epoch = true ∧ (s.slot k17).held = [] := by decide +kernel
theorem witness_PacketsReachTheirEnd_close :
    let p := ({ kind := 5, src := 3, owner := 3 } : Hdr).packet []
    p.kind = 5 ∧ (packetState p).physOf p.owner = some k3 ∧ (packetState p).slotOpen k3 = true ∧ p.sigEn = false := by decide +kernel
theorem witness_PacketsReachTheirEnd_csr :
    let p := ({ kind := 6, src := 3, addr := 0x0100_0000_0008 } : Hdr).packet []
    let q := ({ kind := 6, src := 3, slice := 1 } : Hdr).packet []
    p.kind = 6 ∧ p.slice = 0 ∧ p.addr = 0x0100_0000_0000 + 8 ∧ p.data = [] ∧ q.kind = 6 ∧ q.slice ≠ 0 := by decide +kernel
/-- A command that waits for the answers to some packets. -/
def tagState (tags : List (Nat × Nat)) (p : Packet) : State :=
  withSlot (fun x => { x with dmPipe := [{ flight copyDesc with tags := tags }] }) (packetState p)
theorem witness_PacketsReachTheirEnd_answers :
    let a := ({ kind := 7, src := 3, tag := 21 } : Hdr).packet []
    let b := ({ kind := 3, src := 3, tag := 21 } : Hdr).packet (List.replicate 64 1)
    (tagState [(21, 0)] a).flightByTag a.tag = some (k3, { flight copyDesc with tags := [(21, 0)] }) ∧ a.kind = 7 ∧ a.resp = 0 ∧ (tagState [(21, 0)] a).slotLive k3 = true ∧
    (tagState [(21, 0), (22, 64)] b).flightByTag b.tag = some (k3, { flight copyDesc with tags := [(21, 0), (22, 64)] }) ∧ b.kind = 3 ∧
    [(21, 0), (22, 64)].find? (fun x : Nat × Nat => x.1 = b.tag) = some (b.tag, 0) ∧ [(21, 0), (22, 64)].filter (fun x : Nat × Nat => x.1 ≠ b.tag) ≠ [] := by decide +kernel
theorem test_elastic_write : after (exec .elasticWrite (packetState (({ kind := 1, src := 3, addr := 0x1000 } : Hdr).packet (List.replicate 64 9))))
    (fun t => t.byte 0x103F = 9 && t.byte 0x1040 = 0 && t.fab.txq.length = 1) = true := by decide +kernel

theorem witness_HostReadsAndWrites :
    let p := { ({ kind := 9, src := 3, addr := 0x1000, length := 96 } : Hdr).packet (hostHdr 2 1 0 false 0 0 0 ++ List.replicate 64 9) with w3 := 0 }
    let r := ({ kind := 9, src := 3, addr := 0x1000, length := 32 } : Hdr).packet (hostHdr 2 2 0 false 64 0 0)
    let s := (packetState p).wr hostB F.HOST_PARTS 2 2
    isHost 1 { pkt := p, port := none } = true ∧ p.hostData ≠ [] ∧ s.memCheck (some (s.hostParts p.hostNo)) 0x1000 p.hostData.length = 0 ∧ p.hostData.length ≤ 4032 ∧
    isHost 2 { pkt := r, port := none } = true ∧ s.memCheck (some (s.hostParts r.hostNo)) 0x1000 r.hlen = 0 ∧ regionOf 0x1000 ≠ .csr ∧
    (packetState r).memCheck (some ((packetState r).hostParts r.hostNo)) 0x1000 r.hlen = rDENIED ∧ s.noWay 0 3 false = false := by decide +kernel

/-- A packet that waits for the router. -/
def routeState (p : Packet) : State := { firstPass := true, fab := { txq := [{ pkt := p }], peers := [{ dev := 3 }] } }
theorem witness_PacketsAreRouted :
    let noWay := ({ kind := 7, dst := 0xFFFF } : Hdr).packet []
    let here := ({ kind := 7 } : Hdr).packet []
    noWay.headerOk = true ∧ (routeState noWay).boot.fabricDom = .run ∧ (routeState noWay).way { pkt := noWay } = .noRoute ∧ noWay.kind = 7 ∧
    (routeState here).way { pkt := here } = .eject ∧ here.streamed = false ∧ here.sequenced = false ∧
    (routeState here).harrowRoom { pkt := here, port := none } = true := by decide +kernel
theorem witness_PacketsAreRouted_out :
    let p := ({ kind := 1, dst := 1 } : Hdr).packet [1]
    let s := (((routeState p).setPst 0 pUP).wr (portB 0) F.PORT_CFG_MODE 1)
    p.headerOk = true ∧ s.way { pkt := p } = .out 0 2 false ∧ s.rd (portB 0) F.PT_Q_DEPTH 2 + p.frames ≤ 128 ∧ tb (s.rd routeB F.THROTTLE_STAT_ACTIVE) 0 = false := by decide +kernel
theorem witness_PacketsAreRouted_arrivals :
    let bad := ({ kind := 12 } : Hdr).packet []
    let p := ({ kind := 1, src := 3 } : Hdr).packet []
    let s := (routeState p).modPort 1 (fun x => { x with rxPkts := [{ pkt := p, src := some 1 }] })
    s.rd (portB 1) F.PORT_CFG_MODE ≠ 2 ∧ (s.port 1).rxPkts = [{ pkt := p, src := some 1 }] ∧ (s.port 1).rxMk = [] ∧ bad.headerOk = false ∧ p.headerOk = true ∧
    s.way { pkt := p, src := some 1 } = .eject ∧ p.sequenced = true ∧ p.kind ≠ 9 ∧ p.ssn = s.expected p ∧ s.fab.peers.any (fun d => d.dev = p.src) = true ∧
    s.fab.reorder = [] := by decide +kernel

/-! ### Ports -/

/-- Port 3 in a state, as a fabric port, with what its link holds. -/
def linkState (st : Nat) (p : PortSt) : State :=
  (((({ firstPass := true } : State).setPst 3 st).wr (portB 3) F.PORT_CFG_MODE 1).wr (portB 3) F.PORT_CFG_SPARE_EN 1).setPort 3 p
/-- An 80-byte packet and its one frame, of SEQ 0. -/
def shortPacket : Packet := ({ kind := 7 } : Hdr).packet (List.replicate 48 7)
def frame0 : Frame := frameOf 0 2 shortPacket 0
/-- Markers of SEQ 0, and the replay buffer with one frame. -/
def markerSym : BitVec 128 := mkSym 5 [(8, 12, 0), (20, 12, 5), (32, 16, 9), (48, 16, 2), (64, 6, 1)]
def item0 : TxItem := { seq := 0, frame := some frame0, pkt := some shortPacket, vc := 2 }

theorem test_crc32c : crc32c ("123456789".toList.map (fun c => BitVec.ofNat 8 c.toNat)) = 0xE3069283 := by decide +kernel
theorem witness_LinksMoveFramesInSequence :
    let s := linkState pUP {}
    carries (s.pst 3) = true ∧ s.boot.fabricDom = .run ∧ frame0.crcOk = true ∧ bits frame0.hdr.toNat 24 8 = 0 ∧ frame0.seq = (s.port 3).rxSeq ∧
    frameOrderOk ((s.port 3).part.get [] frame0.vc) frame0 = true ∧ frame0.eop = true ∧ frame0.abort = false ∧ { frame0 with crc := 0 }.crcOk = false ∧
    (s.port 3).nakUntil ≤ s.fieldCount := by decide +kernel
theorem witness_LinksMoveFramesInSequence_long :
    let f := frameOf 0 2 (({ kind := 7 } : Hdr).packet (List.replicate 300 7)) 0
    f.crcOk = true ∧ frameOrderOk [] f = true ∧ f.eop = false := by decide +kernel
theorem witness_LinksMoveFramesInSequence_symbols :
    let s := linkState pUP { replay := [item0], unacked := 3 }
    trained (s.pst 3) = true ∧ symIs (mkSym 1 [(8, 12, 0)]) 1 = true ∧ symIs (mkSym 2 [(8, 12, 0)]) 2 = true ∧ symIs (mkSym 3 [(8, 3, 2), (16, 16, 0xFFFF)]) 3 = true ∧
    sf (mkSym 3 [(8, 3, 2), (16, 16, 0xFFFF)]) 35 1 = 0 ∧ symOk (mkSym 9 []) = true ∧ 9 ≤ sf (mkSym 9 []) 0 8 ∧ 0 < (s.port 3).unacked := by decide +kernel
theorem witness_LinksMoveFramesInSequence_marker :
    let s := linkState pUP {}
    s.rd (portB 3) F.PORT_CFG_MODE = 1 ∧ symIs markerSym 5 = true ∧ sf markerSym 8 12 = (s.port 3).rxSeq ∧ (s.port 3).rxPkts = [] ∧ (s.port 3).rxMk = [] ∧
    s.fab.transit = [] := by decide +kernel
theorem witness_LinksMoveFramesInSequence_quiet :
    let s := linkState pHELLO { swap := some 4 }
    trained (s.pst 3) = true ∧ carries (s.pst 3) = false ∧ (s.port 3).swap = some 4 := by decide +kernel
theorem witness_LinksMoveFramesInSequence_transmit :
    let s := linkState pUP { resend := [{ item0 with seq := 1 }] }
    let o : OutPkt := { pkt := shortPacket, vc := 2, src := none }
    let u := (linkState pUP { outQ := [o] }).wr (portB 3) F.PORT_VC_HELD 4 2
    (s.port 3).resend = [{ item0 with seq := 1 }] ∧ 0 + 1 < s.rd (portB 3) F.PORT_CFG_REPLAY_LIMIT ∧ (s.port 3).frCount < 13 ∧ (s.port 3).badCw = 0 ∧ (u.pick 3).map (·.1) = some 0 ∧ (u.port 3).outQ[0]? = some o ∧ o.vc < 8 := by decide +kernel
theorem test_frame_receive : after (exec (.frameReceive 3 frame0 0 []) (linkState pUP {}))
    (fun t => (t.port 3).rxPkts.map (·.pkt) == [shortPacket]) = true := by decide +kernel
theorem test_frame_transmit : after (exec (.frameTransmit 3) ((linkState pUP { outQ := [{ pkt := shortPacket, vc := 2, src := none }] }).wr (portB 3) F.PORT_VC_HELD 4 2))
    (fun t => (t.port 3).replay.map (·.frame) == [some frame0] && t.rd (portB 3) F.PORT_VC_HELD 2 == 3) = true := by decide +kernel

theorem witness_LanesAndLinksFail :
    let s := ((linkState pUP {}).wr (portB 3) F.LANE_STATE 3 2).wr (portB 3) F.PORT_STAT_SPARED_LANE 15
    carries (s.pst 3) = true ∧ s.rd (portB 3) F.LANE_STATE 2 = 3 ∧ s.rd (portB 3) F.LANE_STATE 8 ≠ 3 ∧ s.rd (portB 3) F.PORT_STAT_SPARE_FAILED = 0 ∧
    s.rd (portB 3) F.PORT_CFG_SPARE_EN ≠ 0 ∧ (s.port 3).swap = none ∧ s.rd (portB 3) F.PORT_STAT_SPARED_LANE = 0xF ∧ symIs (mkSym 7 [(8, 4, 7)]) 7 = true ∧
    sf (mkSym 7 [(8, 4, 7)]) 8 4 = 7 ∧ sf (mkSym 7 [(8, 4, 7)]) 12 1 = 0 := by decide +kernel
theorem witness_LanesAndLinksFail_granted :
    let y := mkSym 7 [(8, 4, 2), (12, 1, 1)]
    symIs y 7 = true ∧ sf y 8 4 ≤ 7 ∧ sf y 12 1 = 1 ∧ ((linkState pUP { swap := some 2 }).port 3).swap = some (sf y 8 4) := by decide +kernel
theorem witness_LanesAndLinksFail_down :
    let s : State := { (linkState pUP { lastRx := 88 }).wr (portB 3) F.PORT_CFG_AUTO_RETRAIN 0 with fieldCount := 600 }
    symIs (mkSym 8 [(8, 4, 3)]) 8 = true ∧ s.rd (portB 3) F.PORT_CFG_AUTO_RETRAIN = 0 ∧ (s.port 3).lastRx + s.rd (portB 3) F.PORT_CFG_LINK_TIMEOUT ≤ s.fieldCount := by
  decide +kernel

theorem witness_PortsComeAndGo :
    (linkState pWAIT_SIGNAL {}).pst 3 = pWAIT_SIGNAL ∧ popcount 9 (0x1FF : BitVec 9).toNat = 9 ∧ popcount 9 (0x17F : BitVec 9).toNat = 8 ∧ (linkState pTRAINING {}).pst 3 = pTRAINING ∧
    trained ((linkState pHELLO {}).pst 3) = true ∧ symIs (mkSym 6 [(12, 2, 3)]) 6 = true ∧ symIs (mkSym 4 []) 4 = true ∧ (linkState pHELLO {}).rd (portB 3) F.PORT_CFG_MODE = 1 ∧
    (linkState pUP {}).pst 3 = pUP ∧ (linkState pUP {}).rd (portB 3) F.PT_TEST_TEST_EN = 0 ∧ (linkState pDRAINING {}).pst 3 = pDRAINING := by decide +kernel
theorem witness_PortsComeAndGo_starts :
    let s := fun st p => (linkState st p).wr rstB F.BOOT_STAT_STATE 5
    (s pDOWN { trainFailed := true }).portMayStart 3 = true ∧ ((s pDOWN { trainFailed := true }).wr (portB 3) F.PORT_CFG_AUTO_RETRAIN 1).rd (portB 3) F.PORT_CFG_AUTO_RETRAIN ≠ 0 ∧
    (s pDISABLED {}).portMayStart 3 = true ∧ (s pDRAINED {}).pst 3 = pDRAINED ∧ (s pENABLE_PENDING { shutting := true }).portMayStart 3 = true ∧
    (s pENABLE_PENDING { shutting := true }).pst 3 = pENABLE_PENDING ∧ (s pMISWIRED {}).pst 3 ≠ pDISABLED ∧ ((s pDOWN { shutting := true }).port 3).shutting = true := by decide +kernel

/-! ### Checks, control registers, upkeep -/

theorem witness_ChecksClearAndInject :
    let s := coreState []
    s.fallowPlot 0 = false ∧ s.fallowPlot 31 = false ∧ ((s.rd (plotB 0) F.FLT_PLOT_BIN_SINGLE).testBit bin3.unit.val = false) ∧ (((s.wr (plotB 0) F.FLT_PLOT_BIN_SINGLE 0xFF).rd (plotB 0) F.FLT_PLOT_BIN_SINGLE).testBit bin3.unit.val = true) ∧
    s.rd (plotB 31) F.FLT_PLOT_DRILL_SINGLE = 0 ∧ (17 : BitVec 5).toNat < 18 ∧ s.harrowSingle 11 = false ∧ (s.rd telB F.FLT_PORTS_HARROW_BYPASS).testBit 11 = false := by
  decide +kernel
theorem test_mat_check_clear : after (exec (.matCheckClear k3) ((coreState []).wr (slotB k3) F.MAT_CHECK_RESIDUE_ERRS 5))
    (fun t => t.rd (slotB k3) F.MAT_CHECK_RESIDUE_ERRS == 0) = true := by decide +kernel

theorem witness_ControlRegistersTakeEffect :
    let h := withSlot (fun x => { x with core := { x.core with halted := true, halt := { x.core.halt with reason := 0x0B } } }) (coreState [])
    (coreState []).coreLive k3 = true ∧ ((coreState []).core k3).halted = false ∧ h.coreLive k3 = true ∧ (h.core k3).halted = true ∧ (h.core k3).halt.reason = 0x0B ∧
    ((coreState []).core k3).halt.reason ≠ 0x0B ∧ ((coreState []).slot k3).started = true ∧ (({} : State).slot k3).started = false := by decide +kernel
theorem witness_ControlRegistersTakeEffect_writes :
    let s := (coreState []).wr (slotB k3) F.EPOCH_CTL_NEXT 4
    let ring := fld (0x0400_0000 : W64)
    s.rd (slotB k3) F.EPOCH_CTL_NEXT ≠ (s.slot k3).cur ∧ (coreState []).rd (slotB k3) F.EPOCH_CTL_NEXT = ((coreState []).slot k3).cur ∧
    ring 24 4 = 4 ∧ 64 * ring 0 21 + 32 * 2 ^ ring 24 4 ≤ 0x0800_0000 ∧ fld (0x0300_0000 : W64) 24 4 = 3 ∧ fld (0x041F_FFF8 : W64) 24 4 ≠ 0 ∧
    0x0800_0000 < 64 * fld (0x041F_FFF9 : W64) 0 21 + 32 * 2 ^ fld (0x041F_FFF9 : W64) 24 4 := by decide +kernel
theorem witness_ControlRegistersTakeEffect_stacks :
    let used := stackState { ctop := 2 } (pushDesc 0x16)
    (((coreState []).slot k3).stack 7).ctop = 0 ∧ (((coreState []).slot k3).stack 7).wtop = 0 ∧ ((used.slot k3).stack 0).ctop ≠ 0 ∧
    ((coreState []).bin bin3).queue = [] ∧ ((coreState []).bin bin3).run = none ∧ ((coreState []).bin bin3).jused = 0 ∧ fld (0x1FFF_0000_00 : W64) 24 14 = 0x1FFF ∧
    8191 < fld (0x2000_0000_00 : W64) 24 14 ∧ ((binState { queue := [postedOf bzeroDesc] }).bin bin3).queue ≠ [] := by decide +kernel
theorem test_cmp_ring_write : after (exec (.cmpRingWrite k3 0x0400_0010) (coreState []))
    (fun t => t.rd (slotB k3) F.CMP_RING_BASE == 16 && t.rd (slotB k3) F.CMP_RING_SIZE_LOG2 == 4) = true := by decide +kernel

/-- Line 5 of plot 0 has a correctable error and waits for repair. -/
def badState : State := { ({ firstPass := true } : State) with mx := { ({} : MemExt) with granBad := [(5, [3])], repairQ := [(0, [5])] } }
/-- A request of two lines. -/
def gleanState (s : State) : State := (s.wr (plotB 0) F.GLEAN_REQ_RANGE_LINES 2).wr (plotB 0) F.GLEAN_REQ_RANGE_START 0x1F_FFFE
def gleanReq : GleanReq := { start := 4, lines := 2, tag := 9, dest := 0x80_0000_0000 }
def gleanDone : State := { ({} : State) with mx := { ({} : MemExt) with glean := [(0, { req := some gleanReq })] } }
theorem witness_MemoriesAreKeptUp :
    let s := badState.wr (plotB 0) F.GLEAN_CFG_ENABLE 1
    s.fallowPlot 0 = false ∧ s.mx.repairQ.get [] 0 = [5] ∧ s.mx.granBad.get [] (0 * 0x20_0000 + 5) = [3] ∧ s.plotLive 0 = true ∧ s.rd (plotB 0) F.GLEAN_CFG_ENABLE ≠ 0 ∧ (s.glean 0).req = none ∧
    (s.glean 0).swept ≠ some s.passIdx ∧ s.rd (plotB 0) F.GLEAN_STAT_POS + (s.glean 0).pace < 0x20_0000 := by decide +kernel
theorem witness_MemoriesAreKeptUp_request :
    let s := gleanState {}
    (s.glean 0).req = none ∧ s.rd (plotB 0) F.GLEAN_REQ_RANGE_LINES ≠ 0 ∧ s.rd (plotB 0) F.GLEAN_REQ_RANGE_START + s.rd (plotB 0) F.GLEAN_REQ_RANGE_LINES ≤ 0x20_0000 ∧
    0x20_0000 < (s.wr (plotB 0) F.GLEAN_REQ_RANGE_LINES 3).rd (plotB 0) F.GLEAN_REQ_RANGE_START + (s.wr (plotB 0) F.GLEAN_REQ_RANGE_LINES 3).rd (plotB 0) F.GLEAN_REQ_RANGE_LINES := by
  decide +kernel
theorem witness_MemoriesAreKeptUp_done : (gleanDone.glean 0).req = some gleanReq ∧ gleanReq.next = 0 ∧ gleanReq.denied = false ∧ gleanReq.run = {} ∧
    gleanReq.crc = 0xFFFFFFFFFFFFFFFF ∧ inMemory gleanReq.dest = true ∧ gleanDone.touchesFallow gleanReq.dest 64 = false := by decide +kernel
theorem witness_MemoriesAreKeptUp_clean : gleanDone.clean := ⟨rfl, rfl, rfl, rfl, rfl, rfl, rfl, fun _ => rfl⟩
theorem witness_MemoriesAreKeptUp_retire : (({} : State).retiredPkg = none) ∧ (17 : BitVec 5).toNat ≤ 17 ∧ 17 < (18 : BitVec 5).toNat ∧ ({} : State).obs.mr4Hot = [] ∧
    ((({} : State).wr barnB F.BARN_STAT_STATE 4).wr barnB F.BARN_STAT_RETIRED_PKG 6).retiredPkg ≠ none := by decide +kernel
theorem test_granary_repair : after (exec (.granaryRepair 0) badState) (fun t => t.mx.granBad == [] && t.rd (plotB 0) F.GRAN_REPAIR_REPAIRED == 1) = true := by decide +kernel

/-! ### The module's edges -/

def coreTarget : RstTarget := { domain := 1, plot := 0, slot := 3 }
def moduleTarget : RstTarget := { domain := 6, plot := 0, slot := 0 }
/-- The cluster domain of slot 3 in a state of its reset. -/
def domState (d : Dom) : State := { (coreState []).modSlot k3 (fun x => { x with coreDom := d }) with fieldCount := 5000 }
def fabricState (d : Dom) : State := { ({ firstPass := true, fieldCount := 70000 } : State) with boot := { ({} : Boot) with fabricDom := d } }

theorem witness_ResetsIsolateClearAndRelease :
    ((coreState []).rstSource .steward).isSome = true ∧ (coreState []).targetOk coreTarget = true ∧ (coreState []).insideReset coreTarget = false ∧
    (coreState []).dom coreTarget = .run ∧ RstTarget.code coreTarget = 1 ∧ (coreState []).targetOk moduleTarget = true ∧ (coreState []).dom moduleTarget = .run ∧
    (coreState []).targetOk { coreTarget with slot := 17 } = false ∧ (domState .held).dom coreTarget = .held ∧ (domState .held).insideReset coreTarget = false ∧
    (domState (.isolating 9 false false)).dom coreTarget = .isolating 9 false false ∧ (domState (.clearing true false)).dom coreTarget = .clearing true false := by decide +kernel
theorem witness_ResetsIsolateClearAndRelease_targets :
    let fabricTarget : RstTarget := { domain := 4, plot := 0, slot := 0 }
    let stewardTarget : RstTarget := { domain := 5, plot := 0, slot := 0 }
    let plotTarget : RstTarget := { domain := 3, plot := 27, slot := 0 }
    let s := coreState []
    (s.targetOk fabricTarget && s.targetOk stewardTarget && s.targetOk plotTarget) = true ∧ s.dom fabricTarget = .run ∧ s.dom stewardTarget = .run ∧ s.dom plotTarget = .run ∧
    (s.insideReset fabricTarget || s.insideReset stewardTarget || s.insideReset plotTarget || s.insideReset moduleTarget) = false ∧
    (fabricState .held).dom fabricTarget = .held ∧ (domState (.isolating 9 true false)).dom coreTarget = .isolating 9 true false ∧
    (domState (.isolating 9 true false)).insideReset coreTarget = false ∧ (domState (.clearing true false)).insideReset coreTarget = false := by decide +kernel
theorem witness_ResetsIsolateClearAndRelease_fabric :
    (fabricState (.isolating 0 false true)).boot.fabricDom = .isolating 0 false true ∧ (∀ n < 12, (fabricState (.isolating 0 false true)).heldFrames n = 0) ∧
    0 + (fabricState (.isolating 0 false true)).rd rstB F.RST_CFG_DRAIN_LIMIT ≤ (fabricState (.isolating 0 false true)).fieldCount ∧
    (fabricState (.clearing false false)).boot.fabricDom = .clearing false false := by decide +kernel
theorem witness_ResetsIsolateClearAndRelease_watchdog :
    let s : State := { ({ firstPass := true } : State) with boot := { ({} : Boot) with wdogCount := 1024, wdogFirst := some 0 } }
    s.rd rstB F.WDOG_CFG_PASSES = 1024 ∧ s.boot.stewardDom = .run ∧ s.rd rstB F.WDOG_CFG_ESCALATE = 0 ∧ (s.wr rstB F.WDOG_CFG_ESCALATE 1).rd rstB F.WDOG_CFG_ESCALATE ≠ 0 ∧
    s.passIdx < 0 + 4 * 1024 := by decide +kernel
theorem test_rst_go : after (exec (.rstGo .steward coreTarget 0) (coreState [])) (fun t => (t.core k3).halted && t.dom coreTarget == .isolating 0 false false) = true := by
  decide +kernel

/-- A core runs, RESET_L reads high and the input voltage is in range. -/
def edgeState : State := { (coreState []).wr rstB F.PWR_STAT_VIN 5400 with boot := { ({} : Boot) with pinReset := false } }
theorem witness_SensorsScanAndTest :
    (coreState []).rd telB F.FLT_SEQ_C0_RETIRED = 0 ∧ (coreState []).rd telB F.FLT_SEQ_C1_RETIRED = 0 ∧ (coreState []).rd telB F.FLT_SEQ_VOTERS_RETIRED ≠ 0xF ∧
    ((coreState []).wr telB F.FLT_SEQ_VOTERS_RETIRED 0xF).rd telB F.FLT_SEQ_VOTERS_RETIRED = 0xF ∧ (coreState []).boot.seqRetire = [] ∧ (coreState []).boot.phasesLost.get 0 15 = 0 ∧ (coreState []).boot.thermalHold = false ∧
    (∀ x ∈ List.replicate 20 (109 : BitVec 8), x.toInt < 110) ∧ (∃ x ∈ [(110 : BitVec 8)], 110 ≤ x.toInt) ∧ (∀ x ∈ List.replicate 20 (90 : BitVec 8), x.toInt ≤ 90) := by
  decide +kernel
theorem witness_SensorsScanAndTest_pins :
    edgeState.boot.pinReset = false ∧ edgeState.hay.burn = none ∧ edgeState.burnRefused .ownerHash = false ∧ (coreState []).burnRefused .ownerHash = true ∧
    ({ edgeState with boot := { ({} : Boot) with pinReset := true } } : State).boot.pinReset = true ∧
    ({ edgeState with hay := { ({} : Hay) with burn := some (.siteOnly, 1) } } : State).hay.burn = some (.siteOnly, 1) := by decide +kernel
theorem witness_SensorsScanAndTest_ports :
    let s := (linkState pDRAINED {}).wr (portB 3) F.PT_TEST_TEST_EN 1 |>.wr (portB 3) F.PT_TEST_CHK_LANES 0x100 |>.wr (portB 3) F.PT_ERR_LOCK 1 8 |>.wr (portB 3) F.PT_MARGIN_RES_DONE 0
    s.pst 3 = pDRAINED ∧ s.rd (portB 3) F.PT_TEST_TEST_EN ≠ 0 ∧ (s.rd (portB 3) F.PT_TEST_CHK_LANES).testBit 8 = true ∧ s.rd (portB 3) F.PT_ERR_LOCK 8 ≠ 0 ∧
    s.rd (portB 3) F.PT_MARGIN_RES_DONE = 0 := by decide +kernel
theorem test_idcode : after (exec .idcode edgeState) (fun t => t.obs.tdo == 0xB4B12A63) = true := by decide +kernel

/-! ### Start-up and the loader -/

/-- A key of one's own, its hash, and its signature of a boot image. -/
def testKey : List Byte := bytesOf 97 0xD99FE848C873175FA2AAFE3A1F5A57FC1FC3CD65AE2A10709C52FAC71936D6ED0797C4A82478BF286AD433D2CF6FA6256B6F99779DA2B488ABBD41F216700E40C3116F403897379B73E76A183A15ED343523762966AD1DB5DEAFC3247E802E4404
def testHash : BitVec 384 := 0x4117F0E369425CF4AD6C1DE15B86A8B6A07C0C505DDCAB9BAAACB6D3CC846A9A7B039BC3097CE903C57AE8B1F08FD13
def imageSig : List Byte := bytesOf 96 0xDE212C7B44378FA76C31D4A1EB0E48459A8829F010E32489B13C3F6F45C3E149A4C2F682F454E126F2821B27F1EEA6612AC159285DF814029A07221B66124F2271C800EF3D0D44A7D91C5E67F82365D5F5974736AB65D7BA0A07FE26F7FA7E22

def bootStage (n : Nat) (b : Boot) : State := { ({} : State).wr rstB F.BOOT_STAT_STATE n with boot := b }
/-- An image of eight bytes, signed, with the root fuse of its key. -/
def bootImage : List Byte :=
  let body := "steward!".toList.map (fun c => BitVec.ofNat 8 c.toNat)
  bytesOf 8 (0x4254_5550 + 2 ^ 32) ++ bytesOf 24 8 ++ bytesOf 96 (sha384 body).toNat ++ testKey ++ List.replicate 31 0 ++ imageSig ++ List.replicate 160 0 ++ body
def rooted (b : Boot) : State := { bootStage 2 b with fuses := { ({} : Fuses) with rootHash := testHash } }

theorem witness_StartUpRunsItsSteps :
    (bootStage 0 {}).bootState = 0 ∧ (bootStage 0 {}).boot.powerOn = false ∧ (bootStage 0 {}).boot.pinPwrGood = true ∧ (bootStage 0 {}).boot.thermalHold = false ∧
    (bootStage 1 {}).bootState = 1 ∧ (List.replicate 256 (0 : Byte)).length = 256 ∧ 2 ≤ (bootStage 5 {}).bootState ∧ (bootStage 5 {}).bootState ≠ 0xF ∧
    (bootStage 2 {}).boot.granFilled = false ∧ (bootStage 2 {}).boot.barnFilled = false ∧ (bootStage 2 {}).boot.stewardDom = .run ∧
    (bootStage 5 { stewardDom := .clearing true false }).boot.stewardDom = .clearing true false ∧ (bootStage 3 {}).bootState = 3 := by decide +kernel
theorem witness_StartUpRunsItsSteps_packages :
    (List.range 18).filter (fun k => (0 : BitVec 18).getLsbD k) = [] ∧ (List.range 18).filter (fun k => (0x20000 : BitVec 18).getLsbD k) = [17] ∧
    2 ≤ ((List.range 18).filter (fun k => (0x20001 : BitVec 18).getLsbD k)).length := by decide +kernel
theorem witness_StartUpRunsItsSteps_time :
    let s := bootStage 5 { granFilled := true, barnFilled := true, stewardOk := true }
    let h : State := { ({ fieldCount := 2 ^ 40 } : State).wr seqB F.TIME_STAT_STATE 3 with obs := { ({} : Obs) with holdoverSince := some 0 } }
    s.timeFree = true ∧ s.rd seqB F.TIME_STAT_STATE = 0 ∧ (∀ n < 12, s.rd (portB n) F.PORT_NBR_VALID = 0) ∧ h.obs.holdoverSince = some 0 ∧
    h.rd seqB F.TIME_STAT_STATE = 3 ∧ 0 + 1024 * h.passLen < h.fieldCount ∧ h.obs.errQ = [] := by decide +kernel
theorem test_boot_image : (rooted {}).imageOk bootImage = true := by decide +kernel
theorem test_boot_image_changed : (rooted {}).imageOk (bootImage.set 513 0) = false := by decide +kernel

/-- Slot 0 of partition 1's page holds a request: operation, image, length, start. -/
def loaderState (op image len start : Nat) : State :=
  { (owned (coreState [])).poke 0x80_0000_0000 (bytesOf 8 (op + 2 ^ 32) ++ bytesOf 8 image ++ bytesOf 8 len ++ bytesOf 8 start) with boot := { ({} : Boot) with stewardOk := true } }
def loaderRequest (op image len start : Nat) : LoaderReq :=
  { addr := 0x80_0000_0000, op := op, tag := 0, seq := 1, image := image, len := len, start := start, digest := List.replicate 32 0 }
theorem witness_LoaderTakesItsRequests_clean : (loaderState 1 0 0 0).clean := ⟨rfl, rfl, rfl, rfl, rfl, rfl, rfl, fun _ => rfl⟩
theorem witness_LoaderTakesItsRequests :
    let far := loaderState 1 0x200_0000_0000 512 0
    let odd := loaderState 2 0x80_0001_0001 512 0
    far.stewardRuns = true ∧ far.boot.unload = none ∧ far.loaderNext = some (1, 0, loaderRequest 1 0x200_0000_0000 512 0) ∧ far.inPart 1 0x200_0000_0000 512 = false ∧
    odd.loaderNext = some (1, 0, loaderRequest 2 0x80_0001_0001 512 0) ∧ odd.inPart 1 0x80_0001_0001 512 = true ∧ 0x80_0001_0001 % 64 ≠ 0 ∧
    (loaderState 2 0x80_0001_0000 512 0).inPart 1 0x80_0001_0000 512 = true ∧ 0x80_0001_0000 % 64 = 0 ∧ regionOf 0x80_0000_0000 = .barn := by decide +kernel
theorem witness_LoaderTakesItsRequests_start :
    let s := loaderState 3 0 0 100
    let t : State := { s with boot := { s.boot with images := [(1, { addr := 0x80_0001_0000, len := 512, digest := [] })] } }
    s.loaderNext = some (1, 0, loaderRequest 3 0 0 100) ∧ s.boot.images.find? 1 = none ∧ (t.boot.images.find? 1).isSome = true ∧
    (t.memRead false true 28 0x80_0001_0000 512).1 = rOK := by decide +kernel
theorem witness_LoaderTakesItsRequests_unload :
    let s := loaderState 4 0 0 0
    let t : State := { s with boot := { s.boot with unload := some (1, 0, true) } }
    s.loaderNext = some (1, 0, loaderRequest 4 0 0 0) ∧ t.boot.unload = some (1, 0, true) ∧ t.loaderReq 1 0 = some (loaderRequest 4 0 0 0) ∧ t.drained 1 = true ∧
    (withSlot (fun x => { x with matQ := [entry] }) t).drained 1 = false := by decide +kernel
theorem test_loader_refuses : after (exec (.loaderCheck 1 0) (loaderState 1 0x200_0000_0000 512 0))
    (fun t => t.bytes 0x80_0000_0044 1 == [2] && t.rd rstB F.LOADER_STAT_REFUSALS == 1) = true := by decide +kernel
theorem test_sha384 : (bytesOf 48 (sha384 [0x61, 0x62, 0x63]).toNat).take 4 = [0xCB, 0x00, 0x75, 0x3F] := by decide +kernel

/-! ### Hayward -/

/-- An unsigned record for key slot 9. -/
def changeHead : List Byte := bytesOf 16 (0x4748_434B + 2 ^ 32 + 2 ^ 48 + 0xFF * 2 ^ 80 + 504 * 2 ^ 96) ++ List.replicate 48 0 ++ bytesOf 24 (3 + 9 * 2 ^ 32)
def hayState (h : Hay) : State :=
  { (List.range 4).foldl (fun s i => s.wr hayB F.HW_NONCE_NONCE 0 i) (({ firstPass := true } : State).wr hayB F.HW_SUBMIT_ADDR 0x80_0000_0000) with hay := h, fuses := { ({} : Fuses) with ownerHash := testHash, custodianHash := testHash } }

theorem witness_RecordsFillsAndReports_clean (h : Hay) : (hayState h).clean := ⟨rfl, rfl, rfl, rfl, rfl, rfl, rfl, fun _ => rfl⟩
theorem witness_RecordsFillsAndReports :
    (hayState { verifying := some changeHead }).hay.verifying.isSome = true ∧ (hayState {}).hay.verifying = none ∧
    regionOf ((hayState {}).rd hayB F.HW_SUBMIT_ADDR / 64 * 64) = .barn ∧ (hayState { verifying := some changeHead }).hay.heldRec = none ∧ (hayState {}).submitFails changeHead ≠ none ∧
    (31 : Fin 32).val ∈ (hayState { fillPlots := [31] }).hay.fillPlots ∧ (∀ u : Fin 8, ((hayState { fillPlots := [31] }).bin ⟨31, u⟩).furrows = []) ∧
    (63 : Fin 64).val ∈ (hayState { fillExts := [63] }).hay.fillExts ∧ (hayState { attesting := true }).hay.attesting = true ∧ (hayState {}).hay.attesting = false ∧
    regionOf ((({} : State).wr hayB F.ATT_DEST_ADDR 0x80_0000_0200).rd hayB F.ATT_DEST_ADDR / 64 * 64) = .barn := by decide +kernel

/-! ### Telemetry and debug -/

def obsState (o : Obs) : State := { coreState [] with obs := o }
def errRec : ErrRec := { w0 := 0x10, w1 := 0, w2 := 0, w3 := 0, w4 := 0, w5 := 0 }
theorem witness_RecordsAndTraces_clean (o : Obs) : (obsState o).clean := ⟨rfl, rfl, rfl, rfl, rfl, rfl, rfl, fun _ => rfl⟩
theorem witness_RecordsAndTraces :
    let s := obsState { errQ := [errRec] }
    let i := s.rd telB F.ERR_WIDX_WIDX
    let a := s.errBase + 64 * (i % 2 ^ s.rd telB F.ERR_RING_SIZE_LOG2)
    s.obs.errQ = errRec :: [] ∧ regionOf a = .barn ∧ a % 64 = 0 ∧ (i + 2 ^ 32 - s.rd telB F.ERR_RIDX_RIDX) % 2 ^ 32 < 2 ^ s.rd telB F.ERR_RING_SIZE_LOG2 := by decide +kernel
theorem witness_RecordsAndTraces_overwritten :
    let s := ((coreState []).wr telB F.ERR_RING_SIZE_LOG2 12).wr telB F.ERR_WIDX_WIDX 4096
    let behind := (s.rd telB F.ERR_WIDX_WIDX + 2 ^ 32 - s.rd telB F.ERR_RIDX_RIDX) % 2 ^ 32
    2 ^ s.rd telB F.ERR_RING_SIZE_LOG2 ≤ behind ∧ behind < 2 ^ 31 := by decide +kernel
theorem witness_RecordsAndTraces_congestion :
    let s := ((coreState []).wr telB F.CONG_CFG_ENABLE 1).wr telB F.CONG_DEST_ADDR 0x80_0000_0000
    let t := s.wr telB F.CONG_CFG_SEND 1
    let i := 2 ^ s.rd telB F.CONG_CFG_INTERVAL_LOG2
    let a := fun s : State => (s.rd telB F.CONG_DEST_ADDR / 64 * 64 + 64 * (s.passNum / i % 2 * 2 ^ s.rd telB F.CONG_CFG_COLLECT_BITS + s.device % 2 ^ s.rd telB F.CONG_CFG_COLLECT_BITS)) % 2 ^ 64
    s.firstPass = true ∧ s.phase = 0 ∧ s.passIdx % i = s.device % i ∧ s.obs.congMade ≠ some s.passIdx ∧ s.rd telB F.CONG_CFG_ENABLE ≠ 0 ∧ s.rd telB F.CONG_CFG_SEND = 0 ∧
    t.rd telB F.CONG_CFG_SEND ≠ 0 ∧ a t / 2 ^ 48 = t.device ∧ regionOf (a t % 2 ^ 48) = .barn ∧ ((coreState []).wr telB F.CONG_CFG_ENABLE 0).rd telB F.CONG_CFG_ENABLE = 0 := by decide +kernel
/-- The trace runs and takes samples and marks of every slot. -/
def traceState (o : Obs) : State :=
  obsState o |>.wr telB F.TRACE_STAT_STATE 1 |>.wr telB F.TRACE_CFG_SAMPLE_EN 1 |>.wr telB F.TRACE_CFG_MARK_EN 1 |>.wr telB F.TRACE_FILTER_PLOTS 1
    |>.wr telB F.TRACE_FILTER_SLOTS 8
def traceRecs (n : Nat) : List (List W64) := List.replicate n (List.replicate 8 0)
theorem witness_RecordsAndTraces_samples :
    let s := traceState {}
    s.tracing = true ∧ s.rd telB F.TRACE_CFG_SAMPLE_EN ≠ 0 ∧ s.fieldCount % 2 ^ s.rd telB F.TRACE_CFG_PERIOD_LOG2 = 0 ∧ s.obs.sampled ≠ some s.fieldCount ∧
    s.obs.traceQ.length + (((List.range 32).flatMap slotsOf).filter s.traced).length ≤ 1024 ∧ s.rd telB F.TRACE_CFG_MARK_EN ≠ 0 ∧ s.traced k3 = true ∧ s.traced k17 = false ∧
    s.obs.traceFlush = none ∧ (coreState []).tracing = false ∧ (∀ r ∈ s.obs.traceQ, r.getD 1 0 ≠ BitVec.ofNat 64 s.stamp) := by decide +kernel
/-- Records that share a STAMP stand in the order of plot and slot, each with its SEQ (R470). -/
theorem test_trace_order :
    let r := fun (slot seq : Nat) => [pack [(0, 8, 4), (13, 5, slot), (32, 32, seq)], (7 : W64)]
    traceEnter [r 2 0, r 5 1] (r 3 2) = [r 2 0, r 3 1, r 5 2] ∧ traceEnter [r 2 0] (r 3 1) = [r 2 0, r 3 1] := by decide +kernel
theorem witness_RecordsAndTraces_blocks :
    let s := (traceState { traceQ := traceRecs 8 }).wr telB F.TRACE_CFG_MODE 1
    8 ≤ s.obs.traceQ.length ∧ s.obs.traceFlush = none ∧ (∀ r ∈ s.obs.traceQ, r.length = 8) ∧ regionOf (s.traceBase + 64 * (s.rd telB F.TRACE_WIDX_WIDX % s.traceSlots)) = .barn ∧
    (s.traceBase + 64 * (s.rd telB F.TRACE_WIDX_WIDX % s.traceSlots)) % 512 = 0 ∧ (traceState {}).rd telB F.TRACE_CFG_MODE = 0 ∧ s.rd telB F.TRACE_CFG_MODE ≠ 0 ∧
    s.traceSlots ≤ (s.wr telB F.TRACE_WIDX_WIDX (s.traceSlots - 8)).rd telB F.TRACE_WIDX_WIDX + 8 ∧ s.rd telB F.TRACE_WIDX_WIDX < s.traceSlots ∧
    s.traceSlots ≤ (s.wr telB F.TRACE_WIDX_WIDX s.traceSlots).rd telB F.TRACE_WIDX_WIDX := by decide +kernel
theorem witness_RecordsAndTraces_ends :
    let s := (traceState { tracePost := some 0, traceQ := traceRecs 3 }).wr telB F.TRACE_STAT_STATE 2
    s.rd telB F.TRACE_STAT_STATE = 2 ∧ s.obs.tracePost = some 0 ∧ s.obs.traceFlush = none ∧ (traceState { traceFlush := some 2 }).obs.traceFlush.isSome = true ∧
    ((traceState {}).wr telB F.TRACE_STAT_STATE 3).rd telB F.TRACE_STAT_STATE = 3 ∧ (coreState []).rd telB F.TRACE_STAT_STATE ≠ 3 := by decide +kernel

/-! ### The whole block -/

theorem witness_EveryStepKeepsTheStateSound : State.reset.sound = true ∧ after (step State.reset) (fun t => t.fieldCount == 1) = true := by decide +kernel

/-! ### Worked examples of the manual -/

/-- Chapter 15: the shipped option block's F1, F4 and AXIS_0. -/
theorem test_shipped_ports : State.reset.optBits 0x2A 0 16 = 0x0221 ∧ State.reset.optBits 0x30 0 16 = 0x0321 ∧ State.reset.optBits 0x40 0 32 = 0x0700_04A0 := by decide +kernel
/-- Chapter 14: entry 5's completion. -/
theorem test_completion : let bs := cqEntry { idx := 5, desc := { w0 := 0x0105_0001 }, tDone := 13502484 } 16 1
    num bs 0 8 = 0x0000_0100_0006_0105 ∧ num bs 8 8 = 0x00CE_0814 := by decide +kernel
/-- Chapter 3: −0.8271484375 in BF16 and as the largest of an MXINT8 block with 0.01. -/
theorem test_bf16 : (fmtBF16.round 0 0 (.fin true 847 (-10))).1 = 0xBF54 := by decide +kernel
theorem test_mxint8 : (blockEncode 8 0 0 [0, 0] [.fin true 847 (-10), fmtFP32.decode 0x3C23D70A]).1 = 0x7E ∧
    (blockEncode 8 0 0 [0, 0] [.fin true 847 (-10), fmtFP32.decode 0x3C23D70A]).2.1 = [-106, 1] := by decide +kernel
/-- Chapter 3: block pair 1 in A40, and the sum with block pair 2. -/
theorem test_a40 : (toA40 (.fin false 1188 (-10))).1 = 0x3F_9480_0000 ∧
    fmtA40.decode (a40Add 0x3F_9480_0000 (toA40 (.fin true 750 (-8))).1).1 = fmtA40.decode (toA40 (.fin true 1812 (-10))).1 := by decide +kernel
/-- Table 13-4: winnowing with an overflow. -/
theorem test_winnow :
    let d : Desc := { w2 := BitVec.ofNat 64 (4 + 2 ^ 25 + 4 * 2 ^ 32 + 2 * 2 ^ 44) }
    let w := [(0, 2), (0, 0), (1, 2), (1, 3), (2, 2), (2, 1), (3, 0), (3, 0xFFFF)].foldl (Winnow.step d) {}
    w.index = [2, 0, 0x0001_0002, 3, 0xFFFF_0002, 1, 0x0001_0000, 0xFFFF_FFFF] ∧ w.excess = 1 ∧ [0, 1, 2, 3].map (w.counts.get 0) = [2, 1, 2, 1] := by decide +kernel
/-- Chapter 19: the PC sample of logical cluster 243. -/
theorem test_pc_sample :
    let k : CoreId := ⟨15, 3⟩
    let f : Flight := { q := { entry with desc := { w0 := 0x0031_0011_0000_0020 } }, seq := 0, tDeq := 0 }
    let x : Slot := { busySlot [] with matPipe := [f], matQ := [{ entry with desc := { w1 := 0 } }, entry] }
    let s := ({} : State).setSlot k { x with core := { x.core with pc := 0x140, inFurrow := true, furrowId := 0x102, wait := .fend } }
    s.logicalOf k = some 243 ∧ (((s.sample k).drop 2).take 2).map (·.toNat) = [0x0000_0022_0102_0140, 0x0000_0520_0031_0011] := by decide +kernel
/-- Chapter 18: the third strike of C1.P05.S09, logical cluster 89 of module 0x0042. -/
theorem test_third_strike :
    let k : CoreId := ⟨5, 9⟩
    let s := { ((({} : State).wr (slotB k) F.FLT_UNIT_STRIKES 3).setSlot k (busySlot [])) with opt := [(0x10, 0x42)] }
    let t := s.standIn k
    (t.obs.errQ.map (fun r => (r.w0.toNat, r.w4.toNat, r.w5.toNat))) = [(0x1251_0000_0042_0206, 9, 0x30)] ∧ t.physOf 89 = some ⟨5, 16⟩ ∧
    t.csrValue (0x100 + 8 * 5) = 0x0000_0000_0200_0009 := by decide +kernel

/-- Layout: the worked example of chapter 9, and neighbours a stride of 1,024 lines apart (R205). -/
theorem test_barn_place : barnPlace 0x1_2345_6780 =
    { block := 0x91A2B3, byte := 384, package := 12, beat := 0, lane := 0, subChannel := 3, bankGroup := 0, bank := 1, column := 10, rank := 0, row := 1165 } := by decide
theorem test_gran_place : (granBank 0x400, granRow 0x400) = (1, 1) ∧ (granBank 0x1F_FFFF, granRow 0x1F_FFFF) = (0, 0x7FF) := by decide

end Sys2Proof.Tests
end

/-! ### What a halt of a core changes (R171, R174, R178) -/

namespace Sys2Proof

/-- Reading a table whose values a function has changed that keeps the default. -/
theorem SMap.get_map_values {α : Type} (d : α) (g : α → α) (m : SMap α) (hd : g d = d) (k : Nat) :
    SMap.get d (m.map (fun e => (e.1, g e.2))) k = g (m.get d k) := by
  induction m with
  | nil => exact hd.symm
  | cons e m ih =>
    unfold SMap.get at ih ⊢
    rw [List.map_cons, SMap.find?_cons, SMap.find?_cons]
    split
    · rfl
    · exact ih

end Sys2Proof

namespace Sys2Proof.Machine

/-- A slot but for the branch record in the making and the signals and closings that its furrows hold. -/
def Slot.working (x : Slot) : Slot := { x with brStart := none, brTargets := [], held := [], heldClose := [] }

/-- A slot whose core has other furrows. -/
def Slot.withFurrows (x : Slot) (furrows kept : List Furrow) : Slot := { x with core := { x.core with furrows := furrows, kept := kept } }

/-- A slot whose core owes no re-execution. -/
def Slot.unowed (x : Slot) : Slot := { x with core := { x.core with owed := [], resume := none } }

/-- A slot that holds nothing more of an owner. -/
def Slot.dropHeld (x : Slot) (o : Owner) : Slot :=
  { x with held := x.held.filter (fun h => h.owner ≠ o), heldClose := x.heldClose.filter (fun h => h.owner ≠ o) }

theorem slot_dropFurrow (s : State) (k j : CoreId) (n : Nat) : (s.dropFurrow k n).slot j = (s.slot j).dropHeld (.furrow k n) :=
  SMap.get_map_values ({} : Slot) (Slot.dropHeld · (.furrow k n)) s.slots rfl j.key

/-- A state but for its slots, its registers, the trace and error queues and the list of open extents. -/
def State.unrecorded (s : State) : State := { s with csr := [], slots := [], obs := {}, mx.extents := [] }

/-- Slot `k` becomes `x` and the others stay as they are, but for what `Slot.working` leaves out; elsewhere only records are written and extents marked. -/
structure SlotUpTo (k : CoreId) (x : Slot) (s t : State) : Prop where
  slot : (t.slot k).working = x.working
  others : ∀ j, j ≠ k → (t.slot j).working = (s.slot j).working
  rest : t.unrecorded = s.unrecorded

namespace SlotUpTo

variable {k : CoreId} {x y : Slot} {s t u : State}

theorem refl (s : State) (k : CoreId) : SlotUpTo k (s.slot k) s s := ⟨rfl, fun _ _ => rfl, rfl⟩

/-- Every field of the slot but those that `Slot.working` leaves out. -/
theorem field {α : Type} (f : Slot → α) (hf : ∀ z, f z.working = f z) (h : SlotUpTo k x s t) : f (t.slot k) = f x := by
  rw [← hf (t.slot k), ← hf x, h.slot]

theorem core (h : SlotUpTo k x s t) : t.core k = x.core := h.field Slot.core (fun _ => rfl)

theorem mem (h : SlotUpTo k x s t) : t.mem = s.mem := show t.unrecorded.mem = s.unrecorded.mem by rw [h.rest]

/-- The queues of the slot and its running VEXEC. -/
theorem queues (h : SlotUpTo k x s t) :
    (t.slot k).matQ = x.matQ ∧ (t.slot k).vecQ = x.vecQ ∧ (t.slot k).dmQ = x.dmQ ∧ (t.slot k).vrun = x.vrun :=
  ⟨h.field Slot.matQ (fun _ => rfl), h.field Slot.vecQ (fun _ => rfl), h.field Slot.dmQ (fun _ => rfl), h.field Slot.vrun (fun _ => rfl)⟩

theorem ite {c : Prop} [Decidable c] (ht : SlotUpTo k x s t) (hu : SlotUpTo k x s u) : SlotUpTo k x s (if c then t else u) := by
  split
  · exact ht
  · exact hu

/-- A change of what `State.unrecorded` leaves out, the slots excepted. -/
theorem record (h : SlotUpTo k x s t) (hs : u.slots = t.slots) (hr : u.unrecorded = t.unrecorded) : SlotUpTo k x s u := by
  have hj : ∀ j, u.slot j = t.slot j := fun j => by unfold State.slot; rw [hs]
  exact ⟨by rw [hj]; exact h.slot, fun j ne => by rw [hj]; exact h.others j ne, hr.trans h.rest⟩

theorem wr (h : SlotUpTo k x s t) (b : Nat) (f : Field) (v i : Nat) : SlotUpTo k x s (t.wr b f v i) := h.record rfl rfl

theorem satAdd (h : SlotUpTo k x s t) (b : Nat) (f : Field) (n i : Nat) : SlotUpTo k x s (t.satAdd b f n i) := h.wr b f _ i

theorem wrapAdd (h : SlotUpTo k x s t) (b : Nat) (f : Field) (n i : Nat) : SlotUpTo k x s (t.wrapAdd b f n i) := h.wr b f _ i

theorem obs (h : SlotUpTo k x s t) (o : Obs) : SlotUpTo k x s { t with obs := o } := h.record rfl rfl

/-- One slot changes exactly, to what agrees with `y`. -/
theorem slotTo {z : Slot} (h : SlotUpTo k x s t) (g : SlotTo k z t u) (e : z.working = y.working) : SlotUpTo k y s u :=
  ⟨by rw [g.slot]; exact e, fun j ne => by rw [g.others j ne]; exact h.others j ne,
    (show ({ u with slots := [] } : State).unrecorded = ({ t with slots := [] } : State).unrecorded by rw [g.rest]).trans h.rest⟩

/-- A change of the slot that reads nothing of what `Slot.working` leaves out. -/
theorem modSlot (h : SlotUpTo k x s t) (g : Slot → Slot) (hg : ∀ z, (g z).working = (g z.working).working) :
    SlotUpTo k (g x) s (t.modSlot k g) := by
  refine h.slotTo (modSlot_to t k g) ?_
  rw [hg, h.slot, ← hg]

/-- A change of the slot in what `Slot.working` leaves out. -/
theorem modSlot_beside (h : SlotUpTo k x s t) (g : Slot → Slot) (hg : ∀ z, (g z).working = z.working) : SlotUpTo k x s (t.modSlot k g) :=
  h.slotTo (modSlot_to t k g) ((hg _).trans h.slot)

theorem modCore (h : SlotUpTo k x s t) (g : Core → Core) : SlotUpTo k { x with core := g x.core } s (t.modCore k g) :=
  h.modSlot (fun z => { z with core := g z.core }) (fun _ => rfl)

/-- The furrow in hand changes: of the slot the core's lists of furrows alone. -/
theorem modCur (h : SlotUpTo k x s t) (g : Furrow → Furrow) :
    ∃ fs ks, SlotUpTo k (x.withFurrows fs ks) s (t.modCur k g) := by
  obtain ⟨fs, ks, m⟩ := modCur_to t k g
  refine ⟨fs, ks, h.slotTo m ?_⟩
  exact congrArg (Slot.withFurrows · fs ks) h.slot

theorem tracePut (h : SlotUpTo k x s t) (ws : List W64) : SlotUpTo k x s (t.tracePut ws) :=
  .ite h (.ite ((h.satAdd telB F.TRACE_STAT_DROPPED 1 0).obs _) (((h.obs _).wrapAdd telB F.TRACE_WIDX_SEQ 1 0).wr telB F.TRACE_STAT_QUEUED _ 0))

theorem traceTrigger (h : SlotUpTo k x s t) (cause detail : Nat) : SlotUpTo k x s (t.traceTrigger cause detail) := by
  have fired := (((h.tracePut (traceHdr 5 0 0x1F t.stamp ++ [pack [(0, 3, cause), (8, 56, detail)]])).wr telB F.TRACE_STAT_STATE 2 0).wr
    telB F.TRACE_STAT_TRIG_CAUSE cause 0).obs
  exact .ite (.ite ((fired _).obs _) (fired _)) h

/-- An error record is merged, lost, or queued with its notes in FLT_STAT; it may trigger the trace (R460, R462, R475). -/
theorem err (h : SlotUpTo k x s t) (cls sev : Nat) (loc : Loc) (c : Cause) (d0 d1 : Nat) : SlotUpTo k x s (t.err cls sev loc c d0 d1) := by
  unfold State.err
  extract_lets r same _ queued noted unmasked degraded masked
  have hn : SlotUpTo k x s noted := (h.obs _).wr telB F.FLT_STAT_LAST_CLASS cls 0
  have hu : SlotUpTo k x s unmasked := .ite (hn.wr telB F.FLT_STAT_UNMASKED 1 0) hn
  have hd : SlotUpTo k x s degraded := .ite (hu.wr telB F.FLT_STAT_DEGRADED 1 0) hu
  have hm : SlotUpTo k x s masked := .ite (hd.satAdd telB F.FLT_STAT_MASKED 1 0) hd
  exact .ite (h.obs _) (.ite (h.satAdd telB F.ERR_RIDX_LOST 1 0) (.ite (hm.traceTrigger 2 cls) hm))

theorem branchFlush (h : SlotUpTo k x s t) : SlotUpTo k x s (t.branchFlush k) := by
  rw [State.branchFlush]
  dsimp only
  split
  · exact h
  · exact (h.modSlot_beside (fun z => { z with brTargets := [], brStart := none }) (fun _ => rfl)).tracePut _

/-- A dropped furrow's extents are marked, and what it held leaves the slots (R44, R174). -/
theorem dropFurrow (h : SlotUpTo k x s t) (j : CoreId) (n : Nat) : SlotUpTo k x s (t.dropFurrow j n) := by
  have hw : ∀ i, ((t.dropFurrow j n).slot i).working = (t.slot i).working := fun i => by rw [slot_dropFurrow]; rfl
  exact ⟨(hw k).trans h.slot, fun i ne => (hw i).trans (h.others i ne), h.rest⟩

/-- The owed re-executions are recorded and owed no more (R176). -/
theorem reexecHalted (h : SlotUpTo k x s t) (fs : List Furrow) :
    SlotUpTo k x.unowed s (t.reexecHalted k fs) := by
  unfold State.reexecHalted
  refine SlotUpTo.modCore ?_ (fun c => { c with owed := [], resume := none })
  induction fs generalizing t with
  | nil => exact h
  | cons f fs ih => exact ih ((h.dropFurrow k f.serial).err ..)

end SlotUpTo

/-! ### The halted slot -/

/-- What a halt records (R171). -/
def State.haltRec (s : State) (k : CoreId) (reason source : Nat) (bank : Bool) (addr cmd : Nat) (order : Option Nat) : HaltRec :=
  { reason := reason, source := source, bank := bank, addr := addr, furrow := (s.core k).curId, cmd := cmd, time := s.stamp
    order := order.getD (s.slot k).order }

/-- A slot whose core has halted with a record. -/
def Slot.coreHalted (x : Slot) (h : HaltRec) : Slot :=
  { x with core := { x.core with halted := true, halt := h, wait := Wait.none, stepping := false } }

/-- A slot that a halt has left with a record: its queues are discarded but under code 0x0B (R174, R178), and nothing is owed (R176). -/
def Slot.haltedWith (x : Slot) (h : HaltRec) : Slot :=
  (if h.reason = 0x0B then x.coreHalted h else discardQueues (x.coreHalted h)).unowed

theorem Slot.haltedWith_discards (x : Slot) (h : HaltRec) (hb : h.reason ≠ 0x0B) :
    x.haltedWith h = (discardQueues (x.coreHalted h)).unowed := by rw [Slot.haltedWith, if_neg hb]

theorem Slot.haltedWith_break (x : Slot) (h : HaltRec) (hb : h.reason = 0x0B) : x.haltedWith h = (x.coreHalted h).unowed := by
  rw [Slot.haltedWith, if_pos hb]

/-- A halt of a running core: its slot is halted with the record, and elsewhere only records are written. -/
theorem halt_running (s : State) (k : CoreId) (reason source : Nat) (bank : Bool) (addr cmd : Nat) (c : Cause) (sender : Option W64)
    (order : Option Nat) (hr : (s.core k).halted = false) :
    ∃ fs ks, SlotUpTo k (((s.slot k).withFurrows fs ks).haltedWith (s.haltRec k reason source bank addr cmd order)) s
      (s.halt k reason source bank addr cmd c sender order) := by
  unfold State.halt
  extract_lets core h rec? _ _ flushed marked halted discarded unowed recorded triggered _
  have hrec : ∀ {x : Slot} {t : State}, SlotUpTo k x s t → SlotUpTo k x s (rec? t) := fun ht => .ite ht (ht.err ..)
  obtain ⟨fs, ks, hmarked⟩ : ∃ fs ks, SlotUpTo k ((s.slot k).withFurrows fs ks) s marked := (SlotUpTo.refl s k).branchFlush.modCur _
  have hhalted : SlotUpTo k (((s.slot k).withFurrows fs ks).coreHalted h) s halted :=
    hmarked.modCore (fun c => { c with halted := true, halt := h, wait := Wait.none, stepping := false })
  have hunowed : SlotUpTo k (((s.slot k).withFurrows fs ks).haltedWith h) s unowed := by
    refine SlotUpTo.reexecHalted ?_ core.owed
    unfold discarded
    split
    · exact hhalted
    · exact hhalted.modSlot discardQueues (fun _ => rfl)
  have hrecorded := hrec hunowed
  have htriggered : SlotUpTo k _ s triggered := .ite (hrecorded.traceTrigger 1 h.word) hrecorded
  rw [if_neg (by simp [core, hr])]
  exact ⟨fs, ks, .ite (htriggered.obs _) htriggered⟩

/-! ### A halt by the core's own instruction (R171) -/

/-- The core halts with the reason, source core, the instruction's place and the time, before the instruction has taken effect. -/
theorem haltCore_halts (s : State) (k : CoreId) (reason : Nat) (hr : (s.core k).halted = false) :
    let t := s.haltCore k reason
    (t.core k).halted = true ∧ (t.core k).halt.reason = reason ∧ (t.core k).halt.source = 0 ∧ (t.core k).halt.addr = (s.core k).pc ∧
      (t.core k).halt.bank = (s.core k).bank ∧ (t.core k).halt.time = s.fieldCount % 2 ^ 64 ∧ (t.core k).pc = (s.core k).pc ∧ SameMemory s t := by
  intro t
  obtain ⟨fs, ks, h⟩ := halt_running s k reason 0 (s.core k).bank (s.core k).pc 0 {} none none hr
  have hc : t.core k = _ := h.core
  have hm : SameMemory s t := fun a => congrArg (SMap.get 0 · a) h.mem
  rw [hc]
  unfold Slot.haltedWith
  split <;> exact ⟨rfl, rfl, rfl, rfl, rfl, rfl, rfl, hm⟩

/-- Under every other code than 0x0B the queues are discarded, and the running VEXEC (R174). -/
theorem haltCore_discards (s : State) (k : CoreId) (reason : Nat) (hr : (s.core k).halted = false) (hb : reason ≠ 0x0B) :
    let x := (s.haltCore k reason).slot k
    x.matQ = [] ∧ x.vecQ = [] ∧ x.dmQ = [] ∧ x.vrun = none := by
  obtain ⟨fs, ks, h⟩ := halt_running s k reason 0 (s.core k).bank (s.core k).pc 0 {} none none hr
  rw [Slot.haltedWith_discards _ _ hb] at h
  exact h.queues

/-- Under code 0x0B the queues and the running VEXEC stay (R178). -/
theorem haltCore_break_keeps (s : State) (k : CoreId) (hr : (s.core k).halted = false) :
    let x := (s.haltCore k 0x0B).slot k
    x.matQ = (s.slot k).matQ ∧ x.vecQ = (s.slot k).vecQ ∧ x.dmQ = (s.slot k).dmQ ∧ x.vrun = (s.slot k).vrun := by
  obtain ⟨fs, ks, h⟩ := halt_running s k 0x0B 0 (s.core k).bank (s.core k).pc 0 {} none none hr
  rw [Slot.haltedWith_break _ _ rfl] at h
  exact h.queues

/-! ### HALT and BRK (R172, R177) -/

theorem exec_halt (k : CoreId) (u : UForm) (s : State) : exec (.halt k u) s = execHalt k u s := rfl

theorem exec_brk (k : CoreId) (r : RForm) (s : State) : exec (.brk k r) s = execBrk k r s := rfl

/-- A core that executes normally is not halted. -/
theorem executes_not_halted {s : State} {k : CoreId} (he : s.executes k = true) : (s.core k).halted = false := by
  obtain ⟨hi, -⟩ := (executes_iff s k).1 he
  obtain ⟨-, -, hh, -⟩ := (issuing_iff s k).1 hi
  exact hh

/-- An instruction legal anywhere whose reserved fields are zero runs its body. -/
theorem coreStep_any_runs {k : CoreId} {ok : Bool} {s : State} (body : State → State) (he : s.executes k = true) (ho : ok = true) :
    coreStep k .any ok body s = .next (body s) := by
  obtain ⟨hi, hb, -, -, -, hea, heb, -⟩ := (executes_iff s k).1 he
  exact coreStep_runs k .any ok body s hi hea heb hb rfl ho

/-- One with a reserved field set halts with code 0x02 (R161). -/
theorem coreStep_any_reserved {k : CoreId} {ok : Bool} {s : State} (body : State → State) (he : s.executes k = true) (ho : ok = false) :
    coreStep k .any ok body s = .next (s.haltCore k 0x02) := by
  obtain ⟨hi, hb, -, -, -, hea, heb, -⟩ := (executes_iff s k).1 he
  simp [coreStep, fetched_clean, hi, hea, heb, hb, ho, Where.ok]

/-- HALT with RD zero and an operand of R172. -/
theorem exec_halt_valid {k : CoreId} {u : UForm} {s : State} (he : s.executes k = true) (hd : u.rd = 0)
    (hc : u.imm.toNat = 0 ∨ (0x80 ≤ u.imm.toNat ∧ u.imm.toNat ≤ 0xFF)) :
    exec (.halt k u) s = .next (s.haltCore k (if u.imm.toNat = 0 then 0x0C else u.imm.toNat)) := by
  rw [exec_halt]
  exact coreStep_any_runs _ he (by simp [hd, hc])

/-- HALT with another RD or operand. -/
theorem exec_halt_reserved {k : CoreId} {u : UForm} {s : State} (he : s.executes k = true)
    (hc : u.rd ≠ 0 ∨ (1 ≤ u.imm.toNat ∧ u.imm.toNat < 0x80) ∨ 0xFF < u.imm.toNat) :
    exec (.halt k u) s = .next (s.haltCore k 0x02) := by
  rw [exec_halt]
  refine coreStep_any_reserved _ he ?_
  rw [Bool.and_eq_false_iff, decide_eq_false_iff_not, decide_eq_false_iff_not]
  exact hc.imp_right (fun h => by omega)

theorem exec_brk_valid {k : CoreId} {r : RForm} {s : State} (he : s.executes k = true) (hv : r.rsv = 0) (hf : r.fn = 0) (hd : r.rd = 0)
    (ha : r.ra = 0) (hb : r.rb = 0) : exec (.brk k r) s = .next (s.haltCore k 0x0B) := by
  rw [exec_brk]
  exact coreStep_any_runs _ he (by simp [hv, hf, hd, ha, hb])

end Sys2Proof.Machine

section

open Sys2Proof Sys2Proof.Machine

/-- Settles O11: each of the three clauses is one halt of the running core at its own instruction (`haltCore_halts`), with the code that the operand gives. -/
theorem haltingInstructions : Obligations.HaltingInstructions := by
  intro k u r s he code halts
  have hr := executes_not_halted he
  refine ⟨fun hd hc => ?_, fun hc => ?_, fun hv hf hd ha hb => ?_⟩
  · have hne : (if code = 0 then 0x0C else code) ≠ 0x0B := by split <;> omega
    exact ⟨_, exec_halt_valid he hd hc, haltCore_halts s k _ hr, haltCore_discards s k _ hr hne⟩
  · exact ⟨_, exec_halt_reserved he hc, haltCore_halts s k _ hr⟩
  · obtain ⟨hmat, hvec, hdm, -⟩ := haltCore_break_keeps s k hr
    exact ⟨_, exec_brk_valid he hv hf hd ha hb, haltCore_halts s k _ hr, hmat, hvec, hdm⟩

end

/-! ### What a command that writes one slot, or a pair of fields, leaves -/

namespace Sys2Proof.Machine

/-- A command that answers the state it was given has been discarded. -/
theorem completes_discarded {c : Instr} {s : State} (h : exec c s = .next s) : Completes c s (fun t => t = s) := ⟨s, h, rfl⟩

theorem fld_lt (v : W64) (lo w : Nat) : fld v lo w < 2 ^ w := Nat.mod_lt _ (Nat.two_pow_pos w)

namespace SlotTo

variable {k : CoreId} {x : Slot} {s t : State}

theorem sameMemory (h : SlotTo k x s t) : SameMemory s t := fun a => congrArg (SMap.get 0 · a) (h.field (·.mem) (fun _ => rfl))

theorem sameRegisters (h : SlotTo k x s t) : SameRegisters [] s t := fun b f i _ => h.rd b f i

end SlotTo

/-- Two fields of one register lie at different bit addresses where they begin at different bits. -/
theorem fkey_ne_of_lo {f g : Field} (b i : Nat) (hoff : f.off = g.off) (hstride : f.stride = g.stride) (hlo : f.lo ≠ g.lo) :
    fkey b f i ≠ fkey b g i := by
  unfold fkey
  rw [hoff, hstride]
  omega

/-- Two fields of one register take their values; every other register and the work of the module stay. -/
theorem wr_pair (s : State) (b : Nat) (f g : Field) (v w i : Nat) (hoff : f.off = g.off) (hstride : f.stride = g.stride) (hlo : f.lo ≠ g.lo)
    (hv : v < 2 ^ f.w) (hw : w < 2 ^ g.w) :
    let t := (s.wr b f v i).wr b g w i
    t.rd b f i = v ∧ t.rd b g i = w ∧ SameRegisters [fkey b f i, fkey b g i] s t ∧ SameWork s t := by
  have hne := fkey_ne_of_lo b i hoff hstride hlo
  refine ⟨?_, ?_, fun b' f' i' hn => ?_, rfl, rfl, rfl, rfl, rfl, rfl, rfl, rfl⟩
  · rw [rd_wr_ne _ _ _ _ _ _ _ _ hne, rd_wr_self, Nat.mod_eq_of_lt hv]
  · rw [rd_wr_self, Nat.mod_eq_of_lt hw]
  · obtain ⟨hf, hg⟩ : fkey b' f' i' ≠ fkey b f i ∧ fkey b' f' i' ≠ fkey b g i := by simpa using hn
    rw [rd_wr_ne _ _ _ _ _ _ _ _ hg, rd_wr_ne _ _ _ _ _ _ _ _ hf]

/-! ### CORE_DBG (R176 to R179) -/

theorem exec_resume (k : CoreId) (s : State) : exec (.resume k) s = execResume k s := rfl

theorem exec_step (k : CoreId) (s : State) : exec (.step k) s = execStep k s := rfl

theorem exec_haltReq (k : CoreId) (s : State) : exec (.haltReq k) s = execHaltReq k s := rfl

/-- Dropping work touches no bank. -/
theorem dropWork_active (x : Slot) (fs : List Furrow) : (x.dropWork fs).active = x.active := by
  have hlines : (fs.foldl (fun y f => y.dropLines f.serial) x).active = x.active := by
    induction fs generalizing x with
    | nil => rfl
    | cons f fs ih => exact ih (x.dropLines f.serial)
  unfold Slot.dropWork
  split <;> exact hlines

theorem dropKept_active (x : Slot) : x.dropKept.active = x.active := dropWork_active x _

/-- A slot whose core runs from an offset of the active bank, outside any furrow. -/
def Slot.resumedAt (x : Slot) (pc : Nat) : Slot :=
  { x with
    started := true
    oldBank := none
    core := { x.core with
      halted := false, pc := pc, bank := x.active, inFurrow := false, wait := Wait.none, reexec := false, resume := none, stepping := false } }

theorem resumeAt_to (s : State) (k : CoreId) (pc : Nat) : SlotTo k ((s.slot k).dropKept.resumedAt pc) s (s.resumeAt k pc) := by
  have hkept := modSlot_to s k Slot.dropKept
  have hresumed := hkept.trans (modSlot_to (s.modSlot k Slot.dropKept) k (Slot.resumedAt · pc))
  rwa [hkept.slot] at hresumed

/-- The core runs from the offset in the active bank, outside any furrow (R176). -/
theorem resumeAt_runs (s : State) (k : CoreId) (pc : Nat) :
    let t := s.resumeAt k pc
    (t.core k).halted = false ∧ (t.core k).pc = pc ∧ (t.core k).bank = (s.slot k).active ∧ (t.core k).inFurrow = false ∧
      (t.core k).wait = Wait.none ∧ (t.slot k).started = true ∧ SameOthers k s t ∧ SameMemory s t := by
  intro t
  have h : SlotTo k _ s t := resumeAt_to s k pc
  rw [h.core, h.slot]
  exact ⟨rfl, rfl, dropKept_active _, rfl, rfl, rfl, h.others, h.sameMemory⟩

theorem exec_resume_halted {s : State} {k : CoreId} (hl : s.coreLive k = true) (hh : (s.core k).halted = true) :
    exec (.resume k) s = .next (s.resumeAt k (s.rd (slotB k) F.CORE_DBG_RESUME_PC / 4 * 4)) := by
  rw [exec_resume, execResume, hl, hh]
  rfl

theorem exec_resume_running {s : State} {k : CoreId} (hr : (s.core k).halted = false) : exec (.resume k) s = .next s := by
  simp [exec_resume, execResume, hr]

theorem exec_step_break {s : State} {k : CoreId} (hl : s.coreLive k = true) (hh : (s.core k).halted = true) (hb : (s.core k).halt.reason = 0x0B) :
    exec (.step k) s = .next (s.setCore k { s.core k with halted := false, stepping := true }) := by
  simp [exec_step, execStep, hl, hh, hb]

theorem exec_step_discarded {s : State} {k : CoreId} (h : (s.core k).halted = false ∨ (s.core k).halt.reason ≠ 0x0B) :
    exec (.step k) s = .next s := by
  rcases h with h | h <;> simp [exec_step, execStep, h]

theorem exec_haltReq_running {s : State} {k : CoreId} (hl : s.coreLive k = true) (hr : (s.core k).halted = false) :
    exec (.haltReq k) s = .next (s.haltDebug k) := by
  simp [exec_haltReq, execHaltReq, State.haltReq, hl, hr]

/-- The debug unit halts the core with code 0x0B at the instruction it has reached (R171, R177). -/
theorem haltDebug_halts (s : State) (k : CoreId) (hr : (s.core k).halted = false) :
    let t := s.haltDebug k
    (t.core k).halted = true ∧ (t.core k).halt.reason = 0x0B ∧ (t.core k).halt.source = 6 ∧ (t.core k).halt.addr = (s.core k).pc ∧
      (t.core k).halt.bank = (s.core k).bank ∧ SameMemory s t := by
  intro t
  obtain ⟨fs, ks, h⟩ := halt_running s k 0x0B 6 (s.core k).bank (s.core k).pc 0 {} none none hr
  rw [Slot.haltedWith_break _ _ rfl] at h
  have hc : t.core k = _ := h.core
  have hm : SameMemory s t := fun a => congrArg (SMap.get 0 · a) h.mem
  rw [hc]
  exact ⟨rfl, rfl, rfl, rfl, rfl, hm⟩

/-! ### Banks and epochs (R168, R199) -/

theorem exec_imCtlSwitch (k : CoreId) (s : State) :
    exec (.imCtlSwitch k) s = .next (s.requestSwitch k (s.rd (slotB k) F.IM_CTL_ENTRY)) := rfl

theorem requestSwitch_to (s : State) (k : CoreId) (entry : Nat) :
    SlotTo k { s.slot k with switch := some (entry % 16384 / 4 * 4) } s (s.requestSwitch k entry) := setSlot_to s k _

theorem exec_epochAdvance (k : CoreId) (s : State) : exec (.epochAdvance k) s = execEpochAdvance k s := rfl

theorem exec_epochAdvance_other {s : State} {k : CoreId} (h : s.rd (slotB k) F.EPOCH_CTL_NEXT ≠ (s.slot k).cur) :
    exec (.epochAdvance k) s = .next (s.modSlot k (fun x => { x with advance := some (s.rd (slotB k) F.EPOCH_CTL_NEXT) })) := by
  rw [exec_epochAdvance, execEpochAdvance, if_neg h]

theorem exec_epochAdvance_current {s : State} {k : CoreId} (h : s.rd (slotB k) F.EPOCH_CTL_NEXT = (s.slot k).cur) :
    exec (.epochAdvance k) s = .next s := by
  rw [exec_epochAdvance, execEpochAdvance, if_pos h]

/-! ### The completion ring (R201) -/

theorem exec_cmpRingWrite (k : CoreId) (v : W64) (s : State) : exec (.cmpRingWrite k v) s = .next (s.cmpRing k v) := rfl

theorem cmpRing_discarded (s : State) (k : CoreId) {v : W64}
    (h : (1 ≤ fld v 24 4 ∧ fld v 24 4 ≤ 3) ∨ (fld v 24 4 ≠ 0 ∧ 0x0800_0000 < 64 * fld v 0 21 + 32 * 2 ^ fld v 24 4)) :
    s.cmpRing k v = s := if_pos h

theorem cmpRing_written (s : State) (k : CoreId) {v : W64}
    (h : fld v 24 4 = 0 ∨ (4 ≤ fld v 24 4 ∧ 64 * fld v 0 21 + 32 * 2 ^ fld v 24 4 ≤ 0x0800_0000)) :
    s.cmpRing k v = (s.wr (slotB k) F.CMP_RING_BASE (fld v 0 21)).wr (slotB k) F.CMP_RING_SIZE_LOG2 (fld v 24 4) := by
  refine if_neg ?_
  rintro (⟨hone, hthree⟩ | ⟨hne, hpast⟩) <;> omega

/-! ### Token counts (R204) -/

theorem exec_tokenRegWrite (k : CoreId) (i : Fin 16) (v : W64) (s : State) : exec (.tokenRegWrite k i v) s = .next (s.tokenReg k i.val v) := rfl

theorem setTok_to (s : State) (k : CoreId) (t v : Nat) :
    SlotTo k { s.slot k with tok := (s.slot k).tok.put 0 t (BitVec.ofNat 16 v) } s (s.setTok k t v) := setSlot_to s k _

theorem tok_setTok (s : State) (k : CoreId) (j t v : Nat) : (s.setTok k t v).tok k j = if j = t then v % 2 ^ 16 else s.tok k j := by
  unfold State.tok
  rw [(setTok_to s k t v).slot, SMap.get_put]
  split
  · rw [BitVec.toNat_ofNat]
  · rfl

/-- Counts set one after the other from `base` on: of the slot the tokens alone change. -/
theorem setToks_to (s : State) (k : CoreId) (base : Nat) (val : Nat → Nat) (n : Nat) :
    ∃ m, SlotTo k { s.slot k with tok := m } s ((List.range n).foldl (fun s j => s.setTok k (base + j) (val j)) s) := by
  induction n with
  | zero => exact ⟨_, SlotTo.refl s k⟩
  | succ n ih =>
    obtain ⟨m, h⟩ := ih
    rw [List.range_succ, List.foldl_append]
    have hlast := h.trans (setTok_to _ k (base + n) (val n))
    rw [h.slot] at hlast
    exact ⟨_, hlast⟩

theorem tok_setToks (s : State) (k : CoreId) (base : Nat) (val : Nat → Nat) (n j : Nat) :
    ((List.range n).foldl (fun s j => s.setTok k (base + j) (val j)) s).tok k j =
      if base ≤ j ∧ j < base + n then val (j - base) % 2 ^ 16 else s.tok k j := by
  induction n with
  | zero => rw [if_neg (by omega)]; rfl
  | succ n ih =>
    rw [List.range_succ, List.foldl_append, List.foldl_cons, List.foldl_nil, tok_setTok, ih]
    by_cases hj : j = base + n
    · rw [if_pos hj, if_pos (by omega), hj, Nat.add_sub_cancel_left]
    · rw [if_neg hj]
      exact if_congr (by omega) rfl rfl

theorem tokenReg_discarded {s : State} {k : CoreId} (i : Nat) (v : W64) (hr : (s.core k).halted = false) (hs : (s.slot k).started = true) :
    s.tokenReg k i v = s := by
  rw [State.tokenReg, hr, hs]
  rfl

/-- The four counts of one register take its four parts, and of the module nothing else changes. -/
theorem tokenReg_written {s : State} {k : CoreId} (i : Nat) (v : W64) (h : (s.core k).halted = true ∨ (s.slot k).started = false) :
    (∃ m, SlotTo k { s.slot k with tok := m } s (s.tokenReg k i v)) ∧
      ∀ j, (s.tokenReg k i v).tok k j = if 4 * i ≤ j ∧ j < 4 * i + 4 then fld v (16 * (j - 4 * i)) 16 else s.tok k j := by
  have heq : s.tokenReg k i v = (List.range 4).foldl (fun s j => s.setTok k (4 * i + j) (fld v (16 * j) 16)) s :=
    if_pos (by simpa using h)
  rw [heq]
  refine ⟨setToks_to s k _ _ 4, fun j => ?_⟩
  rw [tok_setToks, Nat.mod_eq_of_lt (fld_lt v _ 16)]

/-! ### The seed (R96) -/

theorem exec_srSeedWrite (k : CoreId) (v : W64) (s : State) : exec (.srSeedWrite k v) s = .next (s.srSeed k v) := rfl

theorem srSeed_zero (s : State) (k : CoreId) : s.srSeed k 0 = s := if_pos rfl

theorem srSeed_nonzero (s : State) (k : CoreId) {v : W64} (h : v ≠ 0) :
    SlotTo k { s.slot k with genDraws := 0 } (s.wr (slotB k) F.SR_SEED_SEED v.toNat) (s.srSeed k v) := by
  rw [State.srSeed, if_neg h]
  exact setSlot_to _ k _

/-! ### The stack regions (R226) -/

theorem exec_wrRegionWrite (k : CoreId) (i : Fin 8) (spill : Bool) (v : W64) (s : State) :
    exec (.wrRegionWrite k i spill v) s = .next (s.wrRegion k i.val spill v) := rfl

/-- A stack with lines in it keeps its regions. -/
theorem wrRegion_discarded {s : State} {k : CoreId} {i : Nat} (spill : Bool) (v : W64)
    (h : ((s.slot k).stack i).ctop ≠ 0 ∨ ((s.slot k).stack i).wtop ≠ 0) : s.wrRegion k i spill v = s := if_pos h

theorem wrRegion_ring {s : State} {k : CoreId} {i : Nat} (v : W64) (hc : ((s.slot k).stack i).ctop = 0) (hw : ((s.slot k).stack i).wtop = 0) :
    s.wrRegion k i false v = (s.wr (slotB k) F.WR_REGION_BASE_LINE (fld v F.WR_REGION_BASE_LINE.lo F.WR_REGION_BASE_LINE.w) i).wr
      (slotB k) F.WR_REGION_RING_LINES (fld v F.WR_REGION_RING_LINES.lo F.WR_REGION_RING_LINES.w) i := by
  simp [State.wrRegion, hc, hw]

theorem wrRegion_spill {s : State} {k : CoreId} {i : Nat} (v : W64) (hc : ((s.slot k).stack i).ctop = 0) (hw : ((s.slot k).stack i).wtop = 0) :
    s.wrRegion k i true v = (s.wr (slotB k) F.WR_SPILL_BASE (fld v F.WR_SPILL_BASE.lo F.WR_SPILL_BASE.w) i).wr
      (slotB k) F.WR_SPILL_SPILL_LINES (fld v F.WR_SPILL_SPILL_LINES.lo F.WR_SPILL_SPILL_LINES.w) i := by
  simp [State.wrRegion, hc, hw]

/-! ### A Bin unit's journal (R237) -/

theorem exec_binCfgWrite (u : BinId) (v : W64) (s : State) : exec (.binCfgWrite u v) s = .next (s.binCfg u v) := rfl

theorem binCfg_written {s : State} {u : BinId} {v : W64} (hq : (s.bin u).queue = []) (hr : (s.bin u).run = none) (hj : (s.bin u).jused = 0)
    (hl : fld v 24 14 ≤ 8191) :
    s.binCfg u v = (s.wr (plotB u.plot.val) F.BIN_CFG_JOURNAL_BASE (fld v 0 21) u.unit.val).wr
      (plotB u.plot.val) F.BIN_CFG_JOURNAL_LINES (fld v 24 14) u.unit.val := by
  refine if_neg ?_
  simp [hq, hr, hj, hl]

theorem binCfg_discarded {s : State} {u : BinId} {v : W64} (h : (s.bin u).queue ≠ [] ∨ (s.bin u).jused ≠ 0 ∨ 8191 < fld v 24 14) :
    s.binCfg u v = s := by
  refine if_pos ?_
  rcases h with hq | hj | hl
  · exact .inl hq
  · exact .inr (.inr (.inl hj))
  · exact .inr (.inr (.inr hl))

end Sys2Proof.Machine

section

open Sys2Proof Sys2Proof.Machine

/-- Settles O51: each command is one named operation of the model, and its conditions say whether that operation acts or answers the state it was given. -/
theorem controlRegistersTakeEffect : Obligations.ControlRegistersTakeEffect := by
  intro k v s x c b put discarded
  refine ⟨fun hl hh => ?resume, fun hr => ⟨?resumeRunning, ?stepRunning⟩, fun hl hh hb => ?step, fun hb => ?stepOther, fun hl hr => ?haltReq,
    ?switch, fun hn => ?advance, fun hn => ?advanceCurrent, ⟨fun h => ?ring, fun h => ?ringDiscarded⟩,
    fun i => ⟨fun h => ?tokens, fun hr hs => ?tokensDiscarded⟩, fun hv => ?seed, fun hv => ?seedZero, fun i => ⟨fun hc hw => ⟨?region, ?spill⟩, fun h sp => ?stackUsed⟩,
    fun u => ⟨fun hq hr hj hl => ?journal, fun h => ?journalDiscarded⟩⟩
  case resume => exact ⟨_, exec_resume_halted hl hh, resumeAt_runs s k _⟩
  case resumeRunning => exact completes_discarded (exec_resume_running hr)
  case stepRunning => exact completes_discarded (exec_step_discarded (.inl hr))
  case step =>
    have h := setCore_to s k { c with halted := false, stepping := true }
    exact ⟨_, exec_step_break hl hh hb, h.core, h.others, h.sameRegisters, h.sameMemory⟩
  case stepOther => exact completes_discarded (exec_step_discarded (.inr hb))
  case haltReq => exact ⟨_, exec_haltReq_running hl hr, haltDebug_halts s k hr⟩
  case switch =>
    have h := requestSwitch_to s k (s.rd (slotB k) F.IM_CTL_ENTRY)
    exact ⟨_, exec_imCtlSwitch k s, by rw [h.slot], by rw [h.slot], h.core, h.others, h.sameMemory⟩
  case advance =>
    have h := modSlot_to s k (fun x => { x with advance := some (s.rd (slotB k) F.EPOCH_CTL_NEXT) })
    exact ⟨_, exec_epochAdvance_other hn, by rw [h.slot], by rw [h.slot], h.others, h.sameMemory⟩
  case advanceCurrent => exact completes_discarded (exec_epochAdvance_current hn)
  case ring =>
    refine ⟨_, exec_cmpRingWrite k v s, ?_⟩
    rw [cmpRing_written s k h]
    exact wr_pair s b F.CMP_RING_BASE F.CMP_RING_SIZE_LOG2 _ _ 0 rfl rfl (by decide) (fld_lt v 0 21) (fld_lt v 24 4)
  case ringDiscarded => exact completes_discarded (congrArg Host.Outcome.next (cmpRing_discarded s k h))
  case tokens =>
    obtain ⟨⟨m, ht⟩, hcount⟩ := tokenReg_written i.val v h
    refine ⟨_, exec_tokenRegWrite k i v s, fun j hj => ?_, fun j hj => ?_, ht.core, ht.others, ht.sameRegisters, ht.sameMemory⟩
    · rw [hcount, if_pos (by omega), Nat.add_sub_cancel_left]
    · rw [hcount, if_neg (by omega)]
  case tokensDiscarded => exact completes_discarded (congrArg Host.Outcome.next (tokenReg_discarded i.val v hr hs))
  case seed =>
    have h := srSeed_nonzero s k hv
    refine ⟨_, exec_srSeedWrite k v s, ?_, congrArg Slot.genDraws h.slot, h.others, h.sameMemory⟩
    rw [h.rd, rd_wr_self]
    exact Nat.mod_eq_of_lt v.isLt
  case seedZero => exact completes_discarded (by rw [exec_srSeedWrite, hv, srSeed_zero])
  case region =>
    refine ⟨_, exec_wrRegionWrite k i false v s, ?_⟩
    rw [wrRegion_ring v hc hw]
    obtain ⟨hbase, hlines, -, hwork⟩ := wr_pair s b F.WR_REGION_BASE_LINE F.WR_REGION_RING_LINES _ _ i.val rfl rfl (by decide)
      (fld_lt v _ _) (fld_lt v _ _)
    exact ⟨hbase, hlines, hwork⟩
  case spill =>
    refine ⟨_, exec_wrRegionWrite k i true v s, ?_⟩
    rw [wrRegion_spill v hc hw]
    obtain ⟨hbase, hlines, -, hwork⟩ := wr_pair s b F.WR_SPILL_BASE F.WR_SPILL_SPILL_LINES _ _ i.val rfl rfl (by decide)
      (fld_lt v _ _) (fld_lt v _ _)
    exact ⟨hbase, hlines, hwork⟩
  case stackUsed => exact completes_discarded (congrArg Host.Outcome.next (wrRegion_discarded sp v h))
  case journal =>
    refine ⟨_, exec_binCfgWrite u v s, ?_⟩
    rw [binCfg_written hq hr hj hl]
    obtain ⟨hbase, hlines, -, hwork⟩ := wr_pair s (plotB u.plot.val) F.BIN_CFG_JOURNAL_BASE F.BIN_CFG_JOURNAL_LINES _ _ u.unit.val rfl rfl
      (by decide) (fld_lt v 0 21) (fld_lt v 24 14)
    exact ⟨hbase, hlines, hwork⟩
  case journalDiscarded => exact completes_discarded (congrArg Host.Outcome.next (binCfg_discarded h))

end

/-! ### Numbers, bytes and slices (R9) -/

namespace Sys2Proof.Machine

@[simp] theorem length_bytesOf (n v : Nat) : (bytesOf n v).length = n := by
  induction n generalizing v with
  | zero => rfl
  | succ n ih => rw [bytesOf, List.length_cons, ih]

/-- A number's bytes spell the number, cut to their width. -/
theorem ofBytes_bytesOf (n v : Nat) : ofBytes (bytesOf n v) = v % 256 ^ n := by
  induction n generalizing v with
  | zero => simp [bytesOf, ofBytes, Nat.mod_one]
  | succ n ih => rw [bytesOf, ofBytes, ih, pow_succ', Nat.mod_mul, BitVec.toNat_ofNat]

theorem ofBytes_append (xs ys : List Byte) : ofBytes (xs ++ ys) = ofBytes xs + 256 ^ xs.length * ofBytes ys := by
  induction xs with
  | nil => simp [ofBytes]
  | cons x xs ih => rw [List.cons_append, ofBytes, ofBytes, ih, List.length_cons]; ring

theorem ofBytes_lt (xs : List Byte) : ofBytes xs < 256 ^ xs.length := by
  induction xs with
  | nil => simp [ofBytes]
  | cons x xs ih =>
    rw [ofBytes, List.length_cons, pow_succ']
    have hx : x.toNat < 256 := x.isLt
    omega

theorem sub_eq_map (bs : List Byte) (a n : Nat) : sub bs a n = (List.range n).map (fun i => bs.getD (a + i) 0) := by
  refine List.ext_getElem (by simp [sub]) (fun i hi hr => ?_)
  simp only [sub, List.getElem_append, List.getElem_map, List.getElem_range, List.getElem_take, List.getElem_drop, List.getElem_replicate, List.length_take,
    List.length_drop, List.length_map, List.length_range, List.getD_eq_getElem?_getD] at hr ⊢
  split
  · rw [List.getElem?_eq_getElem (by omega)]; rfl
  · rw [List.getElem?_eq_none (by omega)]; rfl

@[simp] theorem length_sub (bs : List Byte) (a n : Nat) : (sub bs a n).length = n := by rw [sub_eq_map, List.length_map, List.length_range]

/-- A number of four bytes is one of two low bytes and one of two high bytes. -/
theorem num_four (bs : List Byte) (a : Nat) : num bs a 4 = num bs a 2 + 0x10000 * num bs (a + 2) 2 := by
  have hsub : sub bs a 4 = sub bs a 2 ++ sub bs (a + 2) 2 := by simp [sub_eq_map, List.range_succ]
  unfold num
  rw [hsub, ofBytes_append, length_sub]
  rfl

theorem num_two_lt (bs : List Byte) (a : Nat) : num bs a 2 < 0x10000 :=
  (ofBytes_lt (sub bs a 2)).trans_eq (by rw [length_sub]; rfl)

/-- A four-byte entry as the pair of its halves. -/
theorem num_halves (bs : List Byte) (a : Nat) : num bs a 4 % 0x10000 = num bs a 2 ∧ num bs a 4 / 0x10000 = num bs (a + 2) 2 := by
  have h := num_four bs a
  have hlow := num_two_lt bs a
  omega

/-- Of pieces of one size laid end to end, the i-th stands at i times the size. -/
theorem slice_flatMap {α : Type} (g : α → List Byte) (n : Nat) (hg : ∀ x, (g x).length = n) (l : List α) (i : Nat) (hi : i < l.length) :
    ((l.flatMap g).drop (n * i)).take n = g l[i] := by
  induction l generalizing i with
  | nil => simp at hi
  | cons x l ih =>
    rw [List.flatMap_cons]
    cases i with
    | zero => simp [hg]
    | succ i =>
      have hdrop : n * (i + 1) = (g x).length + n * i := by rw [hg]; ring
      rw [hdrop, List.drop_length_add_append, List.getElem_cons_succ]
      exact ih i (by simpa using hi)

theorem length_flatMap_const {α : Type} (g : α → List Byte) (n : Nat) (hg : ∀ x, (g x).length = n) (l : List α) : (l.flatMap g).length = n * l.length := by
  simp [List.length_flatMap, hg, Nat.mul_comm]

@[simp] theorem length_bytes (s : State) (a n : Nat) : (s.bytes a n).length = n := by simp [State.bytes]

theorem bytes_congr {s t : State} {a n : Nat} (h : ∀ b, a ≤ b → b < a + n → t.byte b = s.byte b) : t.bytes a n = s.bytes a n := by
  refine List.map_congr_left (fun i hi => h _ (by omega) ?_)
  have := List.mem_range.1 hi
  omega

theorem bytes_of_mem_eq {s t : State} (h : t.mem = s.mem) (a n : Nat) : t.bytes a n = s.bytes a n :=
  bytes_congr (fun b _ _ => congrArg (SMap.get 0 · b) h)

theorem bytes_slice (s : State) {a n k m : Nat} (h : k + m ≤ n) : s.bytes (a + k) m = ((s.bytes a n).drop k).take m := by
  refine List.ext_getElem (by simp; omega) (fun i _ _ => ?_)
  simp [State.bytes, Nat.add_assoc]

/-! ### Stores that lie apart -/

theorem overlap_eq_false_iff (a n b m : Nat) : overlap a n b m = false ↔ a + n ≤ b ∨ b + m ≤ a ∨ n = 0 ∨ m = 0 := by
  simp only [overlap, Bool.and_eq_false_iff, decide_eq_false_iff_not]
  omega

/-- Parts of ranges that share no byte share none. -/
theorem overlap_parts {a n b m a' n' b' m' : Nat} (h : overlap a n b m = false) (ha : a ≤ a' ∧ a' + n' ≤ a + n) (hb : b ≤ b' ∧ b' + m' ≤ b + m) :
    overlap a' n' b' m' = false := by
  rw [overlap_eq_false_iff] at h ⊢
  omega

theorem overlap_comm (a n b m : Nat) : overlap a n b m = overlap b m a n := by
  rw [Bool.eq_iff_iff, ← not_iff_not, Bool.not_eq_true, Bool.not_eq_true, overlap_eq_false_iff, overlap_eq_false_iff]
  omega

/-- A store that a unit makes: the first address and the bytes. -/
abbrev Store := Nat × List Byte

/-- Two stores share no byte. -/
def Store.Apart (v w : Store) : Prop := overlap v.1 v.2.length w.1 w.2.length = false

/-- A store lies inside a range. -/
def Store.Within (w : Store) (e : Nat × Nat) : Prop := e.1 ≤ w.1 ∧ w.1 + w.2.length ≤ e.1 + e.2

theorem Store.Within.apart {v w : Store} {e f : Nat × Nat} (hv : v.Within e) (hw : w.Within f) (h : overlap e.1 e.2 f.1 f.2 = false) : v.Apart w :=
  overlap_parts h hv hw

/-- Stores made one after the other. -/
def State.pokes (s : State) (ws : List Store) : State := ws.foldl (fun s w => s.poke w.1 w.2) s

theorem pokes_cons (s : State) (w : Store) (ws : List Store) : s.pokes (w :: ws) = (s.poke w.1 w.2).pokes ws := rfl

/-- Its own bytes stand where a store has put them. -/
theorem bytes_poke_self (s : State) (a : Nat) (bs : List Byte) : (s.poke a bs).bytes a bs.length = bs := by
  refine List.ext_getElem (by simp) (fun i _ hi => ?_)
  simp [State.bytes, poke_byte, hi]

theorem bytes_poke_apart (s : State) (w : Store) {a n : Nat} (h : overlap w.1 w.2.length a n = false) : (s.poke w.1 w.2).bytes a n = s.bytes a n := by
  rw [overlap_eq_false_iff] at h
  exact bytes_congr (fun b hlo hhi => by rw [poke_byte, if_neg (by omega)])

theorem bytes_pokes_apart (s : State) (ws : List Store) {a n : Nat} (h : ∀ w ∈ ws, overlap w.1 w.2.length a n = false) :
    (s.pokes ws).bytes a n = s.bytes a n := by
  induction ws generalizing s with
  | nil => rfl
  | cons w ws ih =>
    rw [pokes_cons, ih _ (fun v hv => h v (List.mem_cons_of_mem w hv)), bytes_poke_apart s w (h w List.mem_cons_self)]

/-- Of stores that lie apart, each leaves its own bytes in the end. -/
theorem bytes_pokes_of_mem (s : State) {ws : List Store} (hp : ws.Pairwise Store.Apart) {w : Store} (hw : w ∈ ws) :
    (s.pokes ws).bytes w.1 w.2.length = w.2 := by
  induction ws generalizing s with
  | nil => simp at hw
  | cons v ws ih =>
    obtain ⟨hv, hws⟩ := List.pairwise_cons.1 hp
    rcases List.mem_cons.1 hw with rfl | hw
    · rw [pokes_cons, bytes_pokes_apart _ _ (fun u hu => by rw [overlap_comm]; exact hv u hu), bytes_poke_self]
    · exact ih _ hws hw

/-- Where a store of pieces of one size is among stores that lie apart, its i-th piece stands in its place. -/
theorem bytes_pokes_piece {α : Type} (s : State) {ws : List Store} (hp : ws.Pairwise Store.Apart) {a n : Nat} {g : α → List Byte} {l : List α}
    (hw : (a, l.flatMap g) ∈ ws) (hg : ∀ x, (g x).length = n) {i : Nat} (hi : i < l.length) : (s.pokes ws).bytes (a + n * i) n = g l[i] := by
  have hwhole := bytes_pokes_of_mem s hp hw
  have hend : n * i + n ≤ (l.flatMap g).length := by
    rw [length_flatMap_const g n hg]
    exact Nat.mul_le_mul_left n hi
  rw [bytes_slice _ hend, hwhole, slice_flatMap g n hg l i hi]

/-! ### Stores under `State.unrecorded` -/

theorem mem_of_unrecorded {s t : State} (h : t.unrecorded = s.unrecorded) : t.mem = s.mem := show t.unrecorded.mem = s.unrecorded.mem by rw [h]

theorem poke_unrecorded (s : State) (a : Nat) (bs : List Byte) : (s.poke a bs).unrecorded = s.unrecorded.poke a bs := rfl

theorem memPuts_append (m : SMap Byte) (a : Nat) (xs ys : List Byte) : memPuts m a (xs ++ ys) = memPuts (memPuts m a xs) (a + xs.length) ys := by
  induction xs generalizing m a with
  | nil => rfl
  | cons x xs ih =>
    rw [List.cons_append, memPuts, memPuts, ih, List.length_cons, Nat.add_assoc, Nat.add_comm 1]

/-- A store of two parts is a store of the first and one of the second behind it. -/
theorem poke_append (s : State) (a : Nat) (xs ys : List Byte) : s.poke a (xs ++ ys) = (s.poke a xs).poke (a + xs.length) ys := by
  simp [State.poke, memPuts_append]

/-- What a write stores up to the end of line `x` is what it stores up to the line's first byte and the line's own part. -/
theorem take_through_line (a x : Nat) (bs : List Byte) (hlo : a / 64 ≤ x) (hhi : 64 * x < a + bs.length) :
    (unitPart 64 x a bs).1 = a + (bs.take (64 * x - a)).length ∧
      bs.take (64 * (x + 1) - a) = bs.take (64 * x - a) ++ (unitPart 64 x a bs).2 := by
  have hskip : max a (64 * x) - a = 64 * x - a := by omega
  have hend : 64 * (x + 1) - a = (64 * x - a) + (64 * x + 64 - max a (64 * x)) := by omega
  simp only [unitPart, hskip]
  refine ⟨?_, ?_⟩
  · rw [List.length_take]
    omega
  · rw [hend, List.take_add, List.append_cancel_left_eq, List.take_eq_take_iff, List.length_drop]
    omega

theorem pokes_unrecorded (s : State) (ws : List Store) : (s.pokes ws).unrecorded = s.unrecorded.pokes ws := by
  induction ws generalizing s with
  | nil => rfl
  | cons w ws ih => exact ih (s.poke w.1 w.2)

/-! ### What a write leaves beside the bytes (R57) -/

theorem peak_unrecorded (s : State) (b : Nat) (f : Field) (v i : Nat) : (s.peak b f v i).unrecorded = s.unrecorded := by
  unfold State.peak
  split <;> rfl

theorem extentCounts_unrecorded (s : State) (a : Nat) : (s.extentCounts a).unrecorded = s.unrecorded := by
  unfold State.extentCounts
  split
  · exact peak_unrecorded ..
  · exact peak_unrecorded ..
  · rfl

theorem openOne_unrecorded (s : State) (o : Owner) (a n : Nat) : (s.openOne o a n).unrecorded = s.unrecorded := by
  unfold State.openOne
  split
  · rfl
  · exact extentCounts_unrecorded ..

/-- Opening an extent changes the table of open extents and the counts alone. -/
theorem openExtent_unrecorded (s : State) (o : Owner) (a n : Nat) : (s.openExtent o a n).unrecorded = s.unrecorded := by
  unfold State.openExtent
  split
  · exact List.foldlRecOn (motive := fun t => t.unrecorded = s.unrecorded) _ _ rfl (fun t ht p _ => (openOne_unrecorded t o _ _).trans ht)
  · exact openOne_unrecorded ..

/-! ### Reads and writes of an open plot through its code (R205, R211, R213, R57) -/

/-- Plot `p` exists, its wrapper is open, no line has an error and none is forced. -/
structure State.PlotClean (s : State) (p : Nat) : Prop where
  lt : p < 32
  bad : s.mx.granBad = []
  inj : s.mx.granInj = []
  opened : s.plotOpen p = true

/-- A range of plot `p` that begins in it: an empty one at the plot's end begins in the next. -/
def BeginsInPlot (p : Nat) (e : Nat × Nat) : Prop := inPlot p e = true ∧ e.1 < lineAddr p 0x20_0000

theorem inPlot_iff (p : Nat) (e : Nat × Nat) : inPlot p e = true ↔ lineAddr p 0 ≤ e.1 ∧ e.1 + e.2 ≤ lineAddr p 0x20_0000 := by
  simp [inPlot]

theorem beginsInPlot_line {p line n : Nat} (hline : line < 2 ^ 21) (h : inPlot p (drillExt p line n) = true) : BeginsInPlot p (drillExt p line n) := by
  refine ⟨h, ?_⟩
  simp only [drillExt, lineAddr]
  omega

theorem beginsInPlot_part {p : Nat} {e f : Nat × Nat} (h : inPlot p e = true) (hlo : e.1 ≤ f.1) (hhi : f.1 + f.2 ≤ e.1 + e.2) (hn : 0 < f.2) :
    BeginsInPlot p f := by
  rw [BeginsInPlot, inPlot_iff]
  rw [inPlot_iff] at h
  omega

section

variable {s : State} {p a n : Nat}

theorem regionOf_plot (hp : p < 32) (h : BeginsInPlot p (a, n)) : regionOf a = .granary p := by
  obtain ⟨hin, hlt⟩ := h
  simp only [inPlot_iff, lineAddr] at hin hlt
  rw [regionOf, if_pos (by omega)]
  congr 1
  omega

theorem plotsTouched_plot (h : BeginsInPlot p (a, n)) : plotsTouched a n = [p] := by
  obtain ⟨hin, hlt⟩ := h
  simp only [inPlot_iff, lineAddr] at hin hlt
  have hlo : a / 0x0800_0000 = p := by omega
  have hhi : (a + max n 1 - 1) / 0x0800_0000 = p := by omega
  simp [plotsTouched, hlo, hhi]

namespace State.PlotClean

theorem congr {t : State} (hc : s.PlotClean p) (h : t.unrecorded = s.unrecorded) : t.PlotClean p :=
  ⟨hc.lt, (show t.unrecorded.mx.granBad = s.unrecorded.mx.granBad by rw [h]).trans hc.bad,
    (show t.unrecorded.mx.granInj = s.unrecorded.mx.granInj by rw [h]).trans hc.inj,
    (show t.unrecorded.plotOpen p = s.unrecorded.plotOpen p by rw [h]).trans hc.opened⟩

theorem poke (hc : s.PlotClean p) (a : Nat) (bs : List Byte) : (s.poke a bs).PlotClean p := ⟨hc.lt, hc.bad, hc.inj, hc.opened⟩

theorem wrapper (hc : s.PlotClean p) (h : BeginsInPlot p (a, n)) : s.wrapperShut a n = false := by
  simp [State.wrapperShut, regionOf_plot hc.lt h, plotsTouched_plot h, hc.opened]

/-! #### Reads -/

theorem granRead (hc : s.PlotClean p) (sev rq x : Nat) (c : Cause) : s.granRead sev rq x c = (rOK, s.wrapAdd telB F.GRAN_RD_BYTES 64 (x / 0x20_0000)) := by
  simp [State.granRead, hc.bad]

/-- Reading lines counts them and changes nothing else. -/
theorem overUnits_granRead (hc : s.PlotClean p) (sev rq : Nat) (c : Cause) (us : List Nat) :
    ∃ m, s.overUnits (fun s x => s.granRead sev rq x c) us = (rOK, { s with csr := m }) := by
  induction us generalizing s with
  | nil => exact ⟨s.csr, rfl⟩
  | cons u us ih =>
    have hread : s.overUnits (fun s x => s.granRead sev rq x c) (u :: us) =
        (s.wrapAdd telB F.GRAN_RD_BYTES 64 (u / 0x20_0000)).overUnits (fun s x => s.granRead sev rq x c) us := by
      simp [State.overUnits, hc.granRead]
    obtain ⟨m, hm⟩ := ih (s := s.wrapAdd telB F.GRAN_RD_BYTES 64 (u / 0x20_0000)) (hc.congr rfl)
    exact ⟨m, hread.trans hm⟩

theorem memRead (hc : s.PlotClean p) (h : BeginsInPlot p (a, n)) (furrow elastic : Bool) (rq : Nat) (c : Cause) :
    ∃ m, s.memRead furrow elastic rq a n c = (rOK, s.bytes a n, { s with csr := m }) := by
  obtain ⟨m, hm⟩ := hc.overUnits_granRead (if furrow then 1 else 0) rq c (unitsOf 64 a n)
  refine ⟨m, ?_⟩
  simp only [State.memRead, hc.wrapper h, regionOf_plot hc.lt h, hm]
  rfl

/-- Several ranges are read as they stand. -/
theorem readRanges (hc : s.PlotClean p) {rs : List (Nat × Nat)} (h : ∀ e ∈ rs, BeginsInPlot p e) (rq : Nat) (c : Cause) :
    ∃ m, s.readRanges rq rs c = (rOK, rs.map (fun e => s.bytes e.1 e.2), { s with csr := m }) := by
  suffices hacc : ∀ (rows : List (List Byte)) (m : SMap Nat), ∃ m', rs.foldl (fun acc r =>
      let t := acc.2.2.memRead true false rq r.1 r.2 c
      (if acc.1 = rOK then t.1 else acc.1, acc.2.1 ++ [t.2.1], t.2.2)) (rOK, rows, { s with csr := m }) =
      (rOK, rows ++ rs.map (fun e => s.bytes e.1 e.2), { s with csr := m' }) from hacc [] s.csr
  induction rs with
  | nil => exact fun rows m => ⟨m, by simp⟩
  | cons e rs ih =>
    intro rows m
    obtain ⟨m₁, hm₁⟩ := memRead (s := { s with csr := m }) (hc.congr rfl) (h e List.mem_cons_self) true false rq c
    obtain ⟨m₂, hm₂⟩ := ih (fun f hf => h f (List.mem_cons_of_mem e hf)) (rows ++ [s.bytes e.1 e.2]) m₁
    refine ⟨m₂, ?_⟩
    rw [List.foldl_cons, List.map_cons, List.append_cons]
    simp only [hm₁]
    exact hm₂

/-! #### Writes -/

/-- With no line in error there is none to take from the list. -/
theorem granBad_erase (hc : s.PlotClean p) (x : Nat) : s.mx.granBad.erase x = s.mx.granBad := by
  rw [hc.bad]
  rfl

/-- A whole line is stored, and so is a part of one. -/
theorem granWrite (hc : s.PlotClean p) (sev rq x lo : Nat) (bs : List Byte) (c : Cause) :
    ∃ t, s.granWrite sev rq x lo bs c = (rOK, t) ∧ t.unrecorded = (s.poke lo bs).unrecorded := by
  by_cases hlen : bs.length = 64
  · refine ⟨{ (s.wrapAdd telB F.GRAN_WR_BYTES 64 (x / 0x20_0000)).poke lo bs with mx.granBad := s.mx.granBad.erase x }, ?_, ?_⟩
    · simp [State.granWrite, hlen, hc.inj]
    · rw [hc.granBad_erase x]
      rfl
  · refine ⟨((s.wrapAdd telB F.GRAN_WR_BYTES 64 (x / 0x20_0000)).wrapAdd telB F.GRAN_RD_BYTES 64 (x / 0x20_0000)).poke lo bs, ?_, rfl⟩
    simp [State.granWrite, hlen, hc.bad]

/-- The lines that a write touches, taken in order, store its bytes up to the end of the last one taken. -/
theorem overUnits_granWrite (hc : s.PlotClean p) (sev rq a : Nat) (bs : List Byte) (c : Cause) (j : Nat) (hj : 64 * (a / 64 + j) < a + bs.length + 64) :
    ∃ t, s.overUnits (fun s x => let u := unitPart 64 x a bs; s.granWrite sev rq x u.1 u.2 c) ((List.range j).map (· + a / 64)) = (rOK, t) ∧
      t.unrecorded = (s.poke a (bs.take (64 * (j + a / 64) - a))).unrecorded := by
  induction j with
  | zero =>
    have hnone : 64 * (0 + a / 64) - a = 0 := by omega
    exact ⟨s, rfl, by rw [hnone]; rfl⟩
  | succ j ih =>
    obtain ⟨t, ht, hstored⟩ := ih (by omega)
    obtain ⟨hat, htake⟩ := take_through_line a (j + a / 64) bs (by omega) (by omega)
    obtain ⟨u, hu, hpart⟩ := ((hc.poke a _).congr hstored).granWrite sev rq (j + a / 64) (unitPart 64 (j + a / 64) a bs).1 (unitPart 64 (j + a / 64) a bs).2 c
    refine ⟨u, ?_, ?_⟩
    · rw [State.overUnits] at ht ⊢
      rw [List.range_succ, List.map_append, List.foldl_append, ht]
      simp [hu]
    · rw [hpart, hat, Nat.add_right_comm, htake, poke_append, poke_unrecorded t, hstored]
      rfl

/-- Every line that a write touches takes its part. -/
theorem overUnits_granWrite_all (hc : s.PlotClean p) (sev rq a : Nat) (bs : List Byte) (c : Cause) :
    ∃ t, s.overUnits (fun s x => let u := unitPart 64 x a bs; s.granWrite sev rq x u.1 u.2 c) (unitsOf 64 a bs.length) = (rOK, t) ∧
      t.unrecorded = (s.poke a bs).unrecorded := by
  by_cases hlen : bs.length = 0
  · rw [List.length_eq_zero_iff.1 hlen]
    exact ⟨s, rfl, rfl⟩
  · obtain ⟨t, ht, hstored⟩ := hc.overUnits_granWrite sev rq a bs c ((a + bs.length - 1) / 64 + 1 - a / 64) (by omega)
    rw [List.take_of_length_le (by omega)] at hstored
    exact ⟨t, by rw [unitsOf, if_neg hlen]; exact ht, hstored⟩

/-- A write in the plot stores its bytes; besides, registers, records and the table of open extents alone change. -/
theorem writeOpen (hc : s.PlotClean p) {bs : List Byte} (h : BeginsInPlot p (a, bs.length)) (o : Owner) (rq : Nat) (c : Cause) :
    (s.writeOpen o rq a bs c).1 = rOK ∧ (s.writeOpen o rq a bs c).2.unrecorded = (s.poke a bs).unrecorded := by
  obtain ⟨t, ht, hstored⟩ := hc.overUnits_granWrite_all 1 rq a bs c
  have hwrite : s.memWrite true false rq a bs c = (rOK, t) := by
    simp only [State.memWrite, hc.wrapper h, regionOf_plot hc.lt h, ↓reduceIte, ht]
    rfl
  simp only [State.writeOpen, hwrite, hc.wrapper h, true_and]
  exact (openExtent_unrecorded ..).trans hstored

end State.PlotClean

end

/-! #### What a halt and a held signal leave -/

theorem err_unrecorded (s : State) (cls sev : Nat) (loc : Loc) (c : Cause) (d0 d1 : Nat) : (s.err cls sev loc c d0 d1).unrecorded = s.unrecorded :=
  ((SlotUpTo.refl s (coreOf 0)).err cls sev loc c d0 d1).rest

/-- A halt changes slots, records and the marks of extents, whether the core runs or has halted. -/
theorem halt_unrecorded (s : State) (k : CoreId) (reason source : Nat) (bank : Bool) (addr cmd : Nat) (c : Cause) (sender : Option W64)
    (order : Option Nat) : (s.halt k reason source bank addr cmd c sender order).unrecorded = s.unrecorded := by
  by_cases hr : (s.core k).halted = false
  · obtain ⟨_, _, h⟩ := halt_running s k reason source bank addr cmd c sender order hr
    exact h.rest
  · unfold State.halt
    extract_lets core h rec? recorded
    have hrec : (rec? s).unrecorded = s.unrecorded := by
      unfold rec?
      split
      · rfl
      · exact err_unrecorded ..
    rw [if_pos (by simpa [core] using hr)]
    split
    · split <;> exact hrec
    · exact hrec

theorem hold_unrecorded (s : State) (k : CoreId) (h : Held) : (s.hold k h).unrecorded = s.unrecorded := by
  unfold State.hold
  split
  · rfl
  · split
    · rfl
    · exact peak_unrecorded ..

theorem holdFor_unrecorded (s : State) (k : CoreId) (d : Desc) (h : Held) : (s.holdFor k d h).unrecorded = s.unrecorded := by
  unfold State.holdFor
  split
  · exact hold_unrecorded ..
  · rfl

/-! ### What the Drill reads, writes and leaves at its end (R364, R369) -/

/-- Registers alone have changed. -/
def OnlyRegisters (s t : State) : Prop := ∃ m, t = { s with csr := m }

namespace OnlyRegisters

variable {s t u : State}

theorem trans (h : OnlyRegisters s t) (g : OnlyRegisters t u) : OnlyRegisters s u := by
  obtain ⟨m, rfl⟩ := h
  obtain ⟨n, rfl⟩ := g
  exact ⟨n, rfl⟩

theorem bytes (h : OnlyRegisters s t) (a n : Nat) : t.bytes a n = s.bytes a n := by
  obtain ⟨m, rfl⟩ := h
  rfl

theorem mx (h : OnlyRegisters s t) : t.mx = s.mx := by
  obtain ⟨m, rfl⟩ := h
  rfl

theorem unrecorded (h : OnlyRegisters s t) : t.unrecorded = s.unrecorded := by
  obtain ⟨m, rfl⟩ := h
  rfl

end OnlyRegisters

/-- With no extent open, a Drill command's reads return the bytes that stand in memory. -/
theorem drillRead_reads {s : State} {p : Nat} {r : UnitRun} {rs : List (Nat × Nat)} (hc : s.PlotClean p) (he : s.mx.extents = []) (hh : s.mx.hostExtents = [])
    (hd : r.denied = false) (h : ∀ e ∈ rs, BeginsInPlot p e) :
    ∃ t, OnlyRegisters s t ∧
      ∀ use : List (List Byte) → State → State, s.drillRead p r rs use = use (rs.map (fun e => s.bytes e.1 e.2)) t := by
  obtain ⟨m, hm⟩ := hc.readRanges h 25 r.p.cause
  have hfree : s.firstBlocked (.furrow r.p.poster r.p.serial) rs = none := by simp [State.firstBlocked, State.blocked, he, hh]
  refine ⟨_, ⟨m, rfl⟩, fun use => ?_⟩
  simp [State.drillRead, hd, hfree, hm, deniedZero]

theorem drillWrite_stores {s : State} {p a : Nat} {bs : List Byte} (hc : s.PlotClean p) (h : BeginsInPlot p (a, bs.length)) (q : Posted) :
    (s.drillWrite q a bs).unrecorded = (s.poke a bs).unrecorded := by
  obtain ⟨hok, hstored⟩ := hc.writeOpen h (.furrow q.poster q.serial) 25 q.cause
  simpa only [State.drillWrite, hok, ↓reduceIte] using hstored

/-- Stores that a Drill command makes one after the other. -/
def State.drillWrites (s : State) (q : Posted) (ws : List Store) : State := ws.foldl (fun s w => s.drillWrite q w.1 w.2) s

theorem drillWrites_append (s : State) (q : Posted) (vs ws : List Store) : s.drillWrites q (vs ++ ws) = (s.drillWrites q vs).drillWrites q ws :=
  List.foldl_append ..

theorem drillWrites_store {s : State} {p : Nat} {ws : List Store} (hc : s.PlotClean p) (h : ∀ w ∈ ws, BeginsInPlot p (w.1, w.2.length)) (q : Posted) :
    (s.drillWrites q ws).unrecorded = (s.pokes ws).unrecorded := by
  induction ws generalizing s with
  | nil => rfl
  | cons w ws ih =>
    have hw := drillWrite_stores hc (h w List.mem_cons_self) q
    refine (ih ((hc.poke w.1 w.2).congr hw) (fun v hv => h v (List.mem_cons_of_mem w hv))).trans ?_
    rw [pokes_cons, pokes_unrecorded, pokes_unrecorded, hw]

/-- Where a command has changed registers alone before it stores, memory holds its stores over what stood there. -/
theorem drillWrites_mem {s t : State} {p : Nat} {ws : List Store} (hc : s.PlotClean p) (ht : OnlyRegisters s t)
    (h : ∀ w ∈ ws, BeginsInPlot p (w.1, w.2.length)) (q : Posted) : (t.drillWrites q ws).mem = (s.pokes ws).mem := by
  have hstored : (t.drillWrites q ws).unrecorded = (s.pokes ws).unrecorded := by
    rw [drillWrites_store (hc.congr ht.unrecorded) h q, pokes_unrecorded, pokes_unrecorded, ht.unrecorded]
  exact mem_of_unrecorded hstored

theorem drillCheckFail_unrecorded (s : State) (p : Nat) (q : Posted) (check : Nat) : (s.drillCheckFail p q check).unrecorded = s.unrecorded := by
  refine (err_unrecorded ..).trans ?_
  unfold State.wantCheck
  split <;> rfl

/-- The Drill of plot `p` has nothing in hand, and memory is that of `s`. -/
def State.DrillEnded (s : State) (p : Nat) (t : State) : Prop := t.mem = s.mem ∧ (t.drill p).run = none

theorem State.DrillEnded.congr {s t u : State} {p : Nat} (h : s.DrillEnded p t) (hu : u.unrecorded = t.unrecorded) : s.DrillEnded p u :=
  ⟨(mem_of_unrecorded hu).trans h.1, (show (u.unrecorded.drill p).run = (t.unrecorded.drill p).run by rw [hu]).trans h.2⟩

theorem drill_setDrill_self (s : State) (p : Nat) (x : DrillUnit) : (s.setDrill p x).drill p = x := by simp [State.drill, State.setDrill]

/-- A change of the Drill that leaves its command. -/
theorem State.DrillEnded.modDrill {s t : State} {p : Nat} (h : s.DrillEnded p t) (g : DrillUnit → DrillUnit) (hg : ∀ x, (g x).run = x.run) :
    s.DrillEnded p (t.modDrill p g) := by
  obtain ⟨hmem, hrun⟩ := h
  exact ⟨hmem, by rw [State.modDrill, drill_setDrill_self, hg, hrun]⟩

/-- The end of a command takes it out of the Drill's hand and leaves memory, whatever its signal and the Drill's checks do. -/
theorem drillDone_ended (s : State) (p : Nat) (q : Posted) : s.DrillEnded p (s.drillDone p q) := by
  unfold State.drillDone
  extract_lets counted compared checked d
  have hcounted : s.DrillEnded p counted := ⟨rfl, congrArg DrillUnit.run (drill_setDrill_self s p _)⟩
  have hcompared : s.DrillEnded p compared := by
    unfold compared
    split
    · exact (hcounted.modDrill (fun x => { x with injCompare := false }) (fun _ => rfl)).congr (drillCheckFail_unrecorded ..)
    · exact hcounted
  have hchecked : s.DrillEnded p checked := by
    unfold checked
    split
    · exact (hcompared.modDrill (fun x => { x with parityBad := false }) (fun _ => rfl)).congr (drillCheckFail_unrecorded ..)
    · exact hcompared
  split
  · split
    · exact hchecked.congr (halt_unrecorded ..)
    · exact hchecked
  · exact hchecked.congr (holdFor_unrecorded ..)

/-! ### What DWINNOW files (R366) -/

/-- Selections of expert `e` among the first `n`. -/
def chosen (sel : Nat → Nat) (e n : Nat) : Nat := ((List.range n).filter (fun j => sel j = e)).length

theorem chosen_succ (sel : Nat → Nat) (e n : Nat) : chosen sel e (n + 1) = chosen sel e n + if sel n = e then 1 else 0 := by
  unfold chosen
  rw [List.range_succ, List.filter_append, List.length_append]
  by_cases h : sel n = e <;> simp [h]

theorem chosen_mono (sel : Nat → Nat) (e : Nat) {m n : Nat} (h : m ≤ n) : chosen sel e m ≤ chosen sel e n := by
  induction n, h using Nat.le_induction with
  | base => exact Nat.le_refl _
  | succ n _ ih => exact ih.trans (by rw [chosen_succ]; exact Nat.le_add_right ..)

/-- A selection counts among those of its expert up to any later one. -/
theorem chosen_lt (sel : Nat → Nat) {i n : Nat} (h : i < n) : chosen sel (sel i) i < chosen sel (sel i) n := by
  have hlater := chosen_mono sel (sel i) (Nat.succ_le_of_lt h)
  rw [Nat.succ_eq_add_one, chosen_succ, if_pos rfl] at hlater
  exact hlater

/-- Selection `i` is filed: its expert exists and its buffer has room at the count of the expert's earlier selections. -/
def Desc.files (d : Desc) (sel : Nat → Nat) (i : Nat) : Bool := decide (sel i < d.dExperts) && decide (chosen sel (sel i) i < d.dCap)

theorem files_iff (d : Desc) (sel : Nat → Nat) (i : Nat) : d.files sel i = true ↔ sel i < d.dExperts ∧ chosen sel (sel i) i < d.dCap := by simp [Desc.files]

/-- The index entry of selection `i`. -/
def Desc.indexEntry (d : Desc) (sel : Nat → Nat) (i : Nat) : Nat :=
  if d.dExperts ≤ sel i then 0xFFFFFFFF
  else if chosen sel (sel i) i < d.dCap then sel i + 0x10000 * chosen sel (sel i) i else sel i + 0xFFFF0000

theorem dExperts_lt (d : Desc) : d.dExperts < 2 ^ 12 := fld_lt ..

theorem dCap_lt (d : Desc) : d.dCap < 2 ^ 16 := fld_lt ..

theorem indexEntry_lt (d : Desc) (sel : Nat → Nat) (i : Nat) : d.indexEntry sel i < 2 ^ 32 := by
  have hexperts := dExperts_lt d
  have hcap := dCap_lt d
  unfold Desc.indexEntry
  split
  · omega
  · split <;> omega

/-- A selection of no expert changes no count and places no row. -/
theorem winnow_step_none {d : Desc} {e : Nat} (he : d.dExperts ≤ e) (w : Winnow) (r : Nat) :
    (w.step d (r, e)).counts = w.counts ∧ (w.step d (r, e)).index = w.index ++ [0xFFFFFFFF] ∧ (w.step d (r, e)).rows = w.rows := by
  by_cases hnone : e = 0xFFFF
  · simp [Winnow.step, hnone]
  · simp [Winnow.step, hnone, he]

/-- With room in its expert's buffer a selection takes the next row there. -/
theorem winnow_step_files {d : Desc} {e : Nat} {w : Winnow} (he : e < d.dExperts) (hn : w.counts.get 0 e < d.dCap) (r : Nat) :
    (w.step d (r, e)).counts = w.counts.insert e (w.counts.get 0 e + 1) ∧ (w.step d (r, e)).index = w.index ++ [e + 0x10000 * w.counts.get 0 e] ∧
      (w.step d (r, e)).rows = w.rows ++ [(r, e, w.counts.get 0 e)] := by
  have hexperts := dExperts_lt d
  simp only [Winnow.step, if_neg (show e ≠ 0xFFFF by omega), if_neg (show ¬ d.dExperts ≤ e by omega), if_pos hn, and_self]

/-- With its expert's buffer full a selection overflows. -/
theorem winnow_step_full {d : Desc} {e : Nat} {w : Winnow} (he : e < d.dExperts) (hn : d.dCap ≤ w.counts.get 0 e) (r : Nat) :
    (w.step d (r, e)).counts = w.counts ∧ (w.step d (r, e)).index = w.index ++ [e + 0xFFFF0000] ∧ (w.step d (r, e)).rows = w.rows := by
  have hexperts := dExperts_lt d
  simp only [Winnow.step, if_neg (show e ≠ 0xFFFF by omega), if_neg (show ¬ d.dExperts ≤ e by omega), if_neg (show ¬ w.counts.get 0 e < d.dCap by omega), and_self]

/-- The first `n` selections taken in rising order. -/
def Desc.winnow (d : Desc) (sel : Nat → Nat) (n : Nat) : Winnow := ((List.range n).map (fun i => (i / d.dTopk, sel i))).foldl (Winnow.step d) {}

theorem winnow_succ (d : Desc) (sel : Nat → Nat) (n : Nat) : d.winnow sel (n + 1) = (d.winnow sel n).step d (n / d.dTopk, sel n) := by
  rw [Desc.winnow, List.range_succ, List.map_append, List.foldl_append]
  rfl

/-- What the first `n` selections have placed: the counts stop at CAP, every selection has its entry, and those filed have their rows. -/
theorem winnow_places (d : Desc) (sel : Nat → Nat) (n : Nat) :
    (∀ e, e < d.dExperts → (d.winnow sel n).counts.get 0 e = min d.dCap (chosen sel e n)) ∧
      (d.winnow sel n).index = (List.range n).map (d.indexEntry sel) ∧
      (d.winnow sel n).rows = ((List.range n).filter (d.files sel)).map (fun i => (i / d.dTopk, sel i, chosen sel (sel i) i)) := by
  induction n with
  | zero => exact ⟨fun e _ => (Nat.min_zero _).symm, rfl, rfl⟩
  | succ n ih =>
    obtain ⟨hcounts, hindex, hrows⟩ := ih
    rw [winnow_succ, List.range_succ, List.map_append, List.filter_append, List.map_append, ← hindex, ← hrows]
    by_cases he : d.dExperts ≤ sel n
    · obtain ⟨hc, hi, hr⟩ := winnow_step_none he (d.winnow sel n) (n / d.dTopk)
      refine ⟨fun e hlt => ?_, ?_, ?_⟩
      · rw [hc, hcounts e hlt, chosen_succ, if_neg (by omega), Nat.add_zero]
      · simp [hi, Desc.indexEntry, he]
      · simp [hr, Desc.files, he]
    · have hexpert : sel n < d.dExperts := by omega
      have hcount := hcounts (sel n) hexpert
      by_cases hfull : d.dCap ≤ chosen sel (sel n) n
      · rw [Nat.min_eq_left hfull] at hcount
        obtain ⟨hc, hi, hr⟩ := winnow_step_full hexpert hcount.ge (n / d.dTopk)
        refine ⟨fun e hlt => ?_, ?_, ?_⟩
        · rw [hc, hcounts e hlt, chosen_succ]
          split
          · subst e; omega
          · rfl
        · simp [hi, Desc.indexEntry, he, Nat.not_lt.2 hfull]
        · simp [hr, Desc.files, Nat.not_lt.2 hfull]
      · rw [Nat.min_eq_right (by omega)] at hcount
        obtain ⟨hc, hi, hr⟩ := winnow_step_files hexpert (by omega : (d.winnow sel n).counts.get 0 (sel n) < d.dCap) (n / d.dTopk)
        rw [hcount] at hc hi hr
        refine ⟨fun e hlt => ?_, ?_, ?_⟩
        · rw [hc, SMap.get_insert, hcounts e hlt, chosen_succ]
          by_cases hsel : sel n = e
          · subst hsel; rw [if_pos rfl, if_pos rfl]; omega
          · rw [if_neg (Ne.symm hsel), if_neg hsel, Nat.add_zero]
        · simp [hi, Desc.indexEntry, he, Nat.not_le.1 hfull]
        · simp [hr, Desc.files, hexpert, Nat.not_le.1 hfull]

/-! ### The expert buffers -/

/-- A stretch of rows of one expert's buffer ends inside the output extent. -/
theorem bufferRows_end {S R E cap e q m : Nat} (he : e < E) (hq : q + m ≤ cap) : S * e + R * q + R * m ≤ S * (E - 1) + cap * R := by
  have hexpert : S * e ≤ S * (E - 1) := Nat.mul_le_mul_left S (by omega)
  have hrows : R * (q + m) ≤ cap * R := by rw [Nat.mul_comm cap]; exact Nat.mul_le_mul_left R hq
  rw [Nat.mul_add] at hrows
  omega

/-- Rows of a lower expert's buffer end before those of a higher expert's begin, where a buffer fits in the stride. -/
theorem bufferRows_before {S R cap e q m e' q' : Nat} (hq : q + m ≤ cap) (hfit : cap * R ≤ S) (hlt : e < e') : S * e + R * q + R * m ≤ S * e' + R * q' := by
  have hnext : S * (e + 1) ≤ S * e' := Nat.mul_le_mul_left S hlt
  have hrows : R * (q + m) ≤ cap * R := by rw [Nat.mul_comm cap]; exact Nat.mul_le_mul_left R hq
  rw [Nat.mul_add] at hrows hnext
  omega

/-- Rows of different buffers, or different rows of one, share no byte. -/
theorem bufferRows_apart {S R E cap e q m e' q' m' : Nat} (base : Nat) (hfit : cap * R ≤ S ∨ E = 1) (he : e < E) (he' : e' < E) (hq : q + m ≤ cap)
    (hq' : q' + m' ≤ cap) (hne : e ≠ e' ∨ q + m ≤ q' ∨ q' + m' ≤ q) :
    overlap (base + S * e + R * q) (R * m) (base + S * e' + R * q') (R * m') = false := by
  rw [overlap_eq_false_iff]
  rcases Nat.lt_trichotomy e e' with hlt | rfl | hlt
  · have h := bufferRows_before (R := R) (q' := q') hq (hfit.resolve_right (by omega)) hlt
    omega
  · rcases hne with hne | hle | hle
    · exact absurd rfl hne
    all_goals
      have h := Nat.mul_le_mul_left R hle
      rw [Nat.mul_add] at h
      omega
  · have h := bufferRows_before (R := R) (q' := q) hq' (hfit.resolve_right (by omega)) hlt
    omega

/-! ### The stores of DWINNOW -/

/-- The expert that selection `i` of a DWINNOW names. -/
def State.selection (s : State) (p : Nat) (d : Desc) (i : Nat) : Nat := num (s.bytes (lineAddr p d.dSel) (2 * d.dSels)) (2 * i) 2

/-- Row `q` of expert `e`'s buffer. -/
def bufferRow (p : Nat) (d : Desc) (e q : Nat) : Nat := lineAddr p d.dOut + 64 * d.dStride * e + 64 * d.dRowLines * q

/-- The row of a selection that is filed. -/
def State.rowStore (s : State) (p : Nat) (d : Desc) (sel : Nat → Nat) (i : Nat) : Store :=
  (bufferRow p d (sel i) (chosen sel (sel i) i), s.bytes (lineAddr p d.dSrc + 64 * d.dRowLines * (i / d.dTopk)) (64 * d.dRowLines))

/-- Rows filed for an expert. -/
def Desc.filled (d : Desc) (sel : Nat → Nat) (e : Nat) : Nat := min d.dCap (chosen sel e d.dSels)

/-- The zeros behind an expert's last row. -/
def zeroStore (p : Nat) (d : Desc) (sel : Nat → Nat) (e : Nat) : Store :=
  (bufferRow p d e (d.filled sel e), List.replicate (64 * d.dRowLines * (d.dCap - d.filled sel e)) 0)

def indexStore (p : Nat) (d : Desc) (sel : Nat → Nat) : Store := (lineAddr p d.dIdx, ((List.range d.dSels).map (d.indexEntry sel)).flatMap (bytesOf 4))

def countStore (p : Nat) (d : Desc) (sel : Nat → Nat) : Store := (lineAddr p d.dCnt, (List.range d.dExperts).flatMap (fun e => bytesOf 2 (d.filled sel e)))

/-- The selections that are filed. -/
def Desc.filed (d : Desc) (sel : Nat → Nat) : List Nat := (List.range d.dSels).filter (d.files sel)

/-- The experts whose buffers are not full. -/
def Desc.unfilled (d : Desc) (sel : Nat → Nat) : List Nat := (List.range d.dExperts).filter (fun e => d.filled sel e < d.dCap)

/-- What a DWINNOW stores, in order. -/
def State.winnowStores (s : State) (p : Nat) (d : Desc) (sel : Nat → Nat) : List Store :=
  (d.filed sel).map (s.rowStore p d sel) ++ (d.unfilled sel).map (zeroStore p d sel) ++ [indexStore p d sel, countStore p d sel]

theorem drillExtents_winnow {d : Desc} (h : d.code = 0x50) (p : Nat) :
    drillExtents p d = [drillExt p d.dSrc (d.dRows * (64 * d.dRowLines)), drillExt p d.dSel (2 * d.dSels),
      drillExt p d.dOut (64 * d.dStride * (d.dExperts - 1) + d.dCap * (64 * d.dRowLines)), drillExt p d.dIdx (4 * d.dSels), drillExt p d.dCnt (2 * d.dExperts)] :=
  if_pos h

theorem filed_iff {d : Desc} {sel : Nat → Nat} {i : Nat} : i ∈ d.filed sel ↔ i < d.dSels ∧ sel i < d.dExperts ∧ chosen sel (sel i) i < d.dCap := by
  simp [Desc.filed, files_iff]

theorem unfilled_iff {d : Desc} {sel : Nat → Nat} {e : Nat} : e ∈ d.unfilled sel ↔ e < d.dExperts ∧ d.filled sel e < d.dCap := by
  simp [Desc.unfilled]

/-- A filed selection's row lies below the count of its expert's rows. -/
theorem chosen_lt_filled {d : Desc} {sel : Nat → Nat} {i : Nat} (h : i ∈ d.filed sel) : chosen sel (sel i) i < d.filled sel (sel i) := by
  obtain ⟨hi, -, hcap⟩ := filed_iff.1 h
  exact Nat.lt_min.2 ⟨hcap, chosen_lt sel hi⟩

@[simp] theorem length_rowStore (s : State) (p : Nat) (d : Desc) (sel : Nat → Nat) (i : Nat) : (s.rowStore p d sel i).2.length = 64 * d.dRowLines * 1 := by
  simp [State.rowStore]

@[simp] theorem length_zeroStore (p : Nat) (d : Desc) (sel : Nat → Nat) (e : Nat) :
    (zeroStore p d sel e).2.length = 64 * d.dRowLines * (d.dCap - d.filled sel e) := by simp [zeroStore]

@[simp] theorem length_indexStore (p : Nat) (d : Desc) (sel : Nat → Nat) : (indexStore p d sel).2.length = 4 * d.dSels := by
  rw [indexStore, length_flatMap_const _ 4 (length_bytesOf 4), List.length_map, List.length_range]

@[simp] theorem length_countStore (p : Nat) (d : Desc) (sel : Nat → Nat) : (countStore p d sel).2.length = 2 * d.dExperts := by
  rw [countStore, length_flatMap_const _ 2 (fun e => length_bytesOf 2 _), List.length_range]

/-- The output extent of a DWINNOW. -/
def outExtent (p : Nat) (d : Desc) : Nat × Nat := drillExt p d.dOut (64 * d.dStride * (d.dExperts - 1) + d.dCap * (64 * d.dRowLines))

section

variable (s : State) (p : Nat) {d : Desc} {sel : Nat → Nat}

theorem rowStore_within {i : Nat} (h : i ∈ d.filed sel) : (s.rowStore p d sel i).Within (outExtent p d) := by
  obtain ⟨-, hexpert, hcap⟩ := filed_iff.1 h
  have hend := bufferRows_end (S := 64 * d.dStride) (R := 64 * d.dRowLines) (m := 1) hexpert (Nat.succ_le_of_lt hcap)
  rw [Store.Within, length_rowStore]
  simp only [outExtent, drillExt, State.rowStore, bufferRow]
  omega

theorem zeroStore_within {e : Nat} (h : e ∈ d.unfilled sel) : (zeroStore p d sel e).Within (outExtent p d) := by
  obtain ⟨hexpert, hcap⟩ := unfilled_iff.1 h
  have hend := bufferRows_end (S := 64 * d.dStride) (R := 64 * d.dRowLines) hexpert (show d.filled sel e + (d.dCap - d.filled sel e) ≤ d.dCap by omega)
  rw [Store.Within, length_zeroStore]
  simp only [outExtent, drillExt, zeroStore, bufferRow]
  omega

theorem dRowLines_pos (d : Desc) : 0 < d.dRowLines := Nat.succ_pos _

/-- A DWINNOW stores inside its plot. -/
theorem winnowStores_begin (hcode : d.code = 0x50) (hin : (drillExtents p d).all (inPlot p) = true) :
    ∀ w ∈ s.winnowStores p d sel, BeginsInPlot p (w.1, w.2.length) := by
  simp only [drillExtents_winnow hcode, List.all_cons, List.all_nil, Bool.and_eq_true] at hin
  obtain ⟨-, -, hout, hidx, hcnt, -⟩ := hin
  have hpos := dRowLines_pos d
  intro w hw
  simp only [State.winnowStores, List.mem_append, List.mem_map, List.mem_cons, List.not_mem_nil, or_false] at hw
  rcases hw with (⟨i, hi, rfl⟩ | ⟨e, he, rfl⟩) | rfl | rfl
  · obtain ⟨hlo, hhi⟩ := rowStore_within s p hi
    exact beginsInPlot_part hout hlo hhi (by simp only [length_rowStore]; omega)
  · obtain ⟨hlo, hhi⟩ := zeroStore_within p he
    have hroom := (unfilled_iff.1 he).2
    exact beginsInPlot_part hout hlo hhi (by rw [length_zeroStore]; exact Nat.mul_pos (by omega) (by omega))
  · rw [length_indexStore]
    exact beginsInPlot_line (fld_lt ..) hidx
  · rw [length_countStore]
    exact beginsInPlot_line (fld_lt ..) hcnt

section

variable (hfit : d.dCap * (64 * d.dRowLines) ≤ 64 * d.dStride ∨ d.dExperts = 1)

include hfit

/-- Two filed selections take different rows. -/
theorem rowStores_apart {i j : Nat} (hi : i ∈ d.filed sel) (hj : j ∈ d.filed sel) (hlt : i < j) :
    (s.rowStore p d sel i).Apart (s.rowStore p d sel j) := by
  obtain ⟨-, hei, hci⟩ := filed_iff.1 hi
  obtain ⟨-, hej, hcj⟩ := filed_iff.1 hj
  rw [Store.Apart, length_rowStore, length_rowStore]
  refine bufferRows_apart _ hfit hei hej (Nat.succ_le_of_lt hci) (Nat.succ_le_of_lt hcj) ?_
  by_cases hsel : sel i = sel j
  · have hrank := chosen_lt sel hlt
    rw [hsel] at hrank
    rw [hsel]
    omega
  · exact .inl hsel

theorem zeroStores_apart {e f : Nat} (he : e ∈ d.unfilled sel) (hf : f ∈ d.unfilled sel) (hlt : e < f) :
    (zeroStore p d sel e).Apart (zeroStore p d sel f) := by
  obtain ⟨hexpert, hroom⟩ := unfilled_iff.1 he
  obtain ⟨hother, hroom'⟩ := unfilled_iff.1 hf
  rw [Store.Apart, length_zeroStore, length_zeroStore]
  exact bufferRows_apart _ hfit hexpert hother (by omega) (by omega) (.inl (by omega))

theorem rowStore_zeroStore_apart {i e : Nat} (hi : i ∈ d.filed sel) (he : e ∈ d.unfilled sel) :
    (s.rowStore p d sel i).Apart (zeroStore p d sel e) := by
  obtain ⟨-, hei, hci⟩ := filed_iff.1 hi
  obtain ⟨hexpert, hroom⟩ := unfilled_iff.1 he
  have hbelow := chosen_lt_filled hi
  rw [Store.Apart, length_rowStore, length_zeroStore]
  refine bufferRows_apart _ hfit hei hexpert (Nat.succ_le_of_lt hci) (by omega) ?_
  by_cases hsel : sel i = e
  · subst e; omega
  · exact .inl hsel

/-- No two stores of a DWINNOW share a byte. -/
theorem winnowStores_apart (hcode : d.code = 0x50) (hdisjoint : (drillExtents p d).Pairwise (fun e f => overlap e.1 e.2 f.1 f.2 = false)) :
    (s.winnowStores p d sel).Pairwise Store.Apart := by
  simp only [drillExtents_winnow hcode, List.pairwise_cons, List.mem_cons, List.not_mem_nil, or_false, forall_eq_or_imp, forall_eq] at hdisjoint
  obtain ⟨-, -, ⟨hidx, hcnt⟩, hidxcnt, -⟩ := hdisjoint
  have hidxWithin : (indexStore p d sel).Within (drillExt p d.dIdx (4 * d.dSels)) := ⟨Nat.le_refl _, by rw [length_indexStore]; rfl⟩
  have hcntWithin : (countStore p d sel).Within (drillExt p d.dCnt (2 * d.dExperts)) := ⟨Nat.le_refl _, by rw [length_countStore]; rfl⟩
  have hbuffers : ∀ w : Store, w.Within (outExtent p d) → ∀ v ∈ [indexStore p d sel, countStore p d sel], w.Apart v := by
    intro w hw v hv
    rcases List.mem_pair.1 hv with rfl | rfl
    · exact hw.apart hidxWithin hidx
    · exact hw.apart hcntWithin hcnt
  have hrising : ∀ {n : Nat} {f : Nat → Bool}, ((List.range n).filter f).Pairwise (· < ·) := List.pairwise_lt_range.filter _
  refine List.pairwise_append.2 ⟨List.pairwise_append.2 ⟨?rows, ?zeros, ?rowsZeros⟩, ?tables, ?buffersTables⟩
  case rows => exact List.pairwise_map.2 (hrising.imp_of_mem (fun hi hj hlt => rowStores_apart s p hfit hi hj hlt))
  case zeros => exact List.pairwise_map.2 (hrising.imp_of_mem (fun he hf hlt => zeroStores_apart p hfit he hf hlt))
  case rowsZeros =>
    intro v hv w hw
    obtain ⟨i, hi, rfl⟩ := List.mem_map.1 hv
    obtain ⟨e, he, rfl⟩ := List.mem_map.1 hw
    exact rowStore_zeroStore_apart s p hfit hi he
  case tables => exact List.pairwise_pair.2 (hidxWithin.apart hcntWithin hidxcnt)
  case buffersTables =>
    intro v hv
    rcases List.mem_append.1 hv with hv | hv <;> obtain ⟨n, hn, rfl⟩ := List.mem_map.1 hv
    · exact hbuffers _ (rowStore_within s p hn)
    · exact hbuffers _ (zeroStore_within p hn)

end

end

/-! ### How DWINNOW runs -/

theorem exec_dwinnow (p : Fin 32) (s : State) : exec (.dwinnow p) s = execDwinnow p s := rfl

theorem drillWrites_pair (s : State) (q : Posted) (v w : Store) :
    s.drillWrites q [v, w] = (s.drillWrite q v.1 v.2).drillWrite q w.1 w.2 := by
  rw [State.drillWrites, List.foldl_cons, List.foldl_cons, List.foldl_nil]

theorem drillWrites_map {α : Type} (s : State) (q : Posted) (f : α → Store) (l : List α) :
    s.drillWrites q (l.map f) = l.foldl (fun s x => s.drillWrite q (f x).1 (f x).2) s := List.foldl_map

theorem drillWrites_map_filter {α : Type} (s : State) (q : Posted) (f : α → Store) (g : α → Bool) (l : List α) :
    s.drillWrites q ((l.filter g).map f) = l.foldl (fun s x => if g x then s.drillWrite q (f x).1 (f x).2 else s) s := by
  rw [drillWrites_map, List.foldl_filter]

/-- What a DWINNOW stores, of its selections' winnowing and the rows it has read. -/
def Winnow.stores (w : Winnow) (p : Nat) (d : Desc) (rows : List (List Byte)) : List Store :=
  (w.rows.zip rows).map (fun x => (bufferRow p d x.1.2.1 x.1.2.2, x.2)) ++
  ((List.range d.dExperts).filter (fun e => w.counts.get 0 e < d.dCap)).map
    (fun e => (bufferRow p d e (w.counts.get 0 e), List.replicate (64 * d.dRowLines * (d.dCap - w.counts.get 0 e)) 0)) ++
  [(lineAddr p d.dIdx, w.index.flatMap (bytesOf 4)), (lineAddr p d.dCnt, (List.range d.dExperts).flatMap (fun e => bytesOf 2 (w.counts.get 0 e)))]

/-- DRILL_OVER and DRILL_DONE.BAD_SEL take what did not find its place. -/
def Winnow.note (w : Winnow) (p : Nat) (s : State) : State :=
  let s := (s.wrapAdd (plotB p) F.DRILL_OVER_OVERFLOWED w.excess).satAdd (plotB p) F.DRILL_DONE_BAD_SEL w.bad
  if w.excess = 0 then s else s.wr (plotB p) F.DRILL_OVER_LAST_EXPERT w.lastOver

theorem note_mem (w : Winnow) (p : Nat) (s : State) : (w.note p s).mem = s.mem := by
  unfold Winnow.note
  dsimp only
  split <;> rfl

/-- A DWINNOW reads its selections and the rows of those it files, stores, and ends. -/
theorem exec_dwinnow_runs {p : Fin 32} {r : UnitRun} {s : State} (hrun : (s.drill p.val).run = some r) (hcode : r.p.desc.code = 0x50)
    (hw : s.postedWaits r.p (.furrow r.p.poster r.p.serial) 0 3 = false) :
    exec (.dwinnow p) s = .next (s.drillRead p.val r [drillExt p.val r.p.desc.dSel (2 * r.p.desc.dSels)] (fun sel s =>
      let w := r.p.desc.winnow (fun i => num (sel.headD []) (2 * i) 2) r.p.desc.dSels
      s.drillRead p.val r (w.rows.map (fun x => (lineAddr p.val r.p.desc.dSrc + 64 * r.p.desc.dRowLines * x.1, 64 * r.p.desc.dRowLines))) (fun rows s =>
        (w.note p.val (s.drillWrites r.p (w.stores p.val r.p.desc rows))).drillDone p.val r.p))) := by
  rw [exec_dwinnow, execDwinnow]
  simp only [hrun, hcode, hw, ne_eq, not_true_eq_false, decide_false, Bool.or_false, Bool.false_eq_true, if_false]
  refine congrArg Host.Outcome.next (congrArg (s.drillRead p.val r _) (funext₂ fun sel s => ?_))
  simp only [Desc.winnow]
  generalize List.foldl (Winnow.step r.p.desc) {} _ = w
  refine congrArg (s.drillRead p.val r _) (funext₂ fun rows s => congrArg (State.drillDone · p.val r.p) (congrArg (w.note p.val) ?_))
  rw [Winnow.stores, drillWrites_append, drillWrites_append, drillWrites_map_filter, drillWrites_map, drillWrites_pair]
  simp only [decide_eq_true_eq, bufferRow]

/-- The winnowing stores the rows filed, the zeros behind them, the index and the counts. -/
theorem winnow_stores (s : State) (p : Nat) (d : Desc) (sel : Nat → Nat) :
    (d.winnow sel d.dSels).stores p d ((d.winnow sel d.dSels).rows.map (fun x =>
      s.bytes (lineAddr p d.dSrc + 64 * d.dRowLines * x.1) (64 * d.dRowLines))) = s.winnowStores p d sel := by
  obtain ⟨hcounts, hindex, hrows⟩ := winnow_places d sel d.dSels
  have hfilled : ∀ e ∈ List.range d.dExperts, (d.winnow sel d.dSels).counts.get 0 e = d.filled sel e := fun e he => hcounts e (List.mem_range.1 he)
  unfold Winnow.stores State.winnowStores
  refine congrArg₂ _ (congrArg₂ _ ?rows ?zeros) (congrArg₂ _ ?index (congrArg (fun bs => [(_, bs)]) ?counts))
  case rows =>
    rw [hrows, List.map_map, List.zip_map', List.map_map]
    rfl
  case zeros =>
    have hroom : (List.range d.dExperts).filter (fun e => (d.winnow sel d.dSels).counts.get 0 e < d.dCap) = d.unfilled sel :=
      List.filter_congr (fun e he => by rw [hfilled e he])
    rw [hroom]
    exact List.map_congr_left (fun e he => by rw [hfilled e (List.mem_of_mem_filter he)]; rfl)
  case index =>
    rw [hindex]
    rfl
  case counts => exact List.flatMap_congr (fun e he => by rw [hfilled e he])

/-- Row `i / TOPK` of a selection lies in the source extent. -/
theorem sourceRow_begins {p : Nat} {d : Desc} {i : Nat} (hin : inPlot p (drillExt p d.dSrc (d.dRows * (64 * d.dRowLines))) = true) (hi : i < d.dSels) :
    BeginsInPlot p (lineAddr p d.dSrc + 64 * d.dRowLines * (i / d.dTopk), 64 * d.dRowLines) := by
  have hpos := dRowLines_pos d
  have hrow : i / d.dTopk < d.dRows := Nat.div_lt_of_lt_mul (by rwa [Desc.dSels, Nat.mul_comm] at hi)
  have hend : 64 * d.dRowLines * (i / d.dTopk + 1) ≤ 64 * d.dRowLines * d.dRows := Nat.mul_le_mul_left _ hrow
  rw [Nat.mul_add, Nat.mul_comm _ d.dRows] at hend
  refine beginsInPlot_part hin ?_ ?_ ?_ <;> simp only [drillExt] <;> omega

section

variable {p : Fin 32} {r : UnitRun} {s : State}

/-- A DWINNOW makes its stores and ends. -/
theorem exec_dwinnow_stores (hc : s.PlotClean p.val) (he : s.mx.extents = []) (hh : s.mx.hostExtents = []) (hd : r.denied = false)
    (hw : s.postedWaits r.p (.furrow r.p.poster r.p.serial) 0 3 = false) (hrun : (s.drill p.val).run = some r) (hcode : r.p.desc.code = 0x50)
    (hin : (drillExtents p.val r.p.desc).all (inPlot p.val) = true) :
    ∃ t : State, exec (.dwinnow p) s = .next (t.drillDone p.val r.p) ∧
      t.mem = (s.pokes (s.winnowStores p.val r.p.desc (s.selection p.val r.p.desc))).mem := by
  have hbegin := winnowStores_begin (s := s) (sel := s.selection p.val r.p.desc) p.val hcode hin
  simp only [drillExtents_winnow hcode, List.all_cons, List.all_nil, Bool.and_eq_true] at hin
  obtain ⟨hsrc, hsel, -⟩ := hin
  have hread : ∀ e ∈ [drillExt p.val r.p.desc.dSel (2 * r.p.desc.dSels)], BeginsInPlot p.val e :=
    List.forall_mem_singleton.2 (beginsInPlot_line (fld_lt ..) hsel)
  have hrows : ∀ e ∈ (r.p.desc.winnow (s.selection p.val r.p.desc) r.p.desc.dSels).rows.map
      (fun x => (lineAddr p.val r.p.desc.dSrc + 64 * r.p.desc.dRowLines * x.1, 64 * r.p.desc.dRowLines)), BeginsInPlot p.val e := by
    intro e hmem
    rw [(winnow_places r.p.desc (s.selection p.val r.p.desc) r.p.desc.dSels).2.2, List.map_map] at hmem
    obtain ⟨i, hi, rfl⟩ := List.mem_map.1 hmem
    exact sourceRow_begins hsrc (List.mem_range.1 (List.mem_of_mem_filter hi))
  obtain ⟨t, ht, hsels⟩ := drillRead_reads hc he hh hd hread
  obtain ⟨u, hu, hsrcs⟩ := drillRead_reads (hc.congr ht.unrecorded) (ht.mx ▸ he) (ht.mx ▸ hh) hd hrows
  have hselection : (fun i => num (([drillExt p.val r.p.desc.dSel (2 * r.p.desc.dSels)].map (fun e => s.bytes e.1 e.2)).headD []) (2 * i) 2) =
    s.selection p.val r.p.desc := rfl
  refine ⟨(r.p.desc.winnow (s.selection p.val r.p.desc) r.p.desc.dSels).note p.val
    (u.drillWrites r.p (s.winnowStores p.val r.p.desc (s.selection p.val r.p.desc))), ?_, ?_⟩
  · rw [exec_dwinnow_runs hrun hcode hw, hsels]
    simp only [hselection, hsrcs, List.map_map, ht.bytes]
    rw [← winnow_stores]
    rfl
  · rw [note_mem]
    exact drillWrites_mem hc (ht.trans hu) hbegin r.p

end

/-! ### What DWINNOW leaves in memory -/

section

variable (s : State) {p : Nat} {d : Desc} {sel : Nat → Nat} (hp : (s.winnowStores p d sel).Pairwise Store.Apart)

include hp

/-- The index of a DWINNOW: entry `i` names the expert and the row, or says that the selection has none. -/
theorem winnowStores_index {i : Nat} (hi : i < d.dSels) :
    ofBytes ((s.pokes (s.winnowStores p d sel)).bytes (lineAddr p d.dIdx + 4 * i) 4) = d.indexEntry sel i := by
  have hmem : indexStore p d sel ∈ s.winnowStores p d sel := List.mem_append_right _ List.mem_cons_self
  rw [bytes_pokes_piece s hp hmem (length_bytesOf 4) (by simpa using hi), ofBytes_bytesOf, List.getElem_map, List.getElem_range]
  exact Nat.mod_eq_of_lt (indexEntry_lt d sel i)

/-- The counts of a DWINNOW: the rows filed for each expert. -/
theorem winnowStores_counts {e : Nat} (he : e < d.dExperts) :
    ofBytes ((s.pokes (s.winnowStores p d sel)).bytes (lineAddr p d.dCnt + 2 * e) 2) = d.filled sel e := by
  have hmem : countStore p d sel ∈ s.winnowStores p d sel := List.mem_append_right _ (List.mem_cons_of_mem _ List.mem_cons_self)
  have hfilled : d.filled sel e < 2 ^ 16 := (Nat.min_le_left ..).trans_lt (dCap_lt d)
  rw [bytes_pokes_piece s hp hmem (fun e => length_bytesOf 2 _) (by simpa using he), ofBytes_bytesOf, List.getElem_range]
  exact Nat.mod_eq_of_lt hfilled

/-- The rows of a DWINNOW: each filed selection's row stands at its count in its expert's buffer. -/
theorem winnowStores_rows {i : Nat} (hi : i ∈ d.filed sel) :
    (s.pokes (s.winnowStores p d sel)).bytes (bufferRow p d (sel i) (chosen sel (sel i) i)) (64 * d.dRowLines) =
      s.bytes (lineAddr p d.dSrc + 64 * d.dRowLines * (i / d.dTopk)) (64 * d.dRowLines) := by
  have hmem : s.rowStore p d sel i ∈ s.winnowStores p d sel := List.mem_append_left _ (List.mem_append_left _ (List.mem_map_of_mem hi))
  have hrow := bytes_pokes_of_mem s hp hmem
  rwa [length_rowStore, Nat.mul_one] at hrow

end

/-! ### DRESOW (R367) -/

theorem exec_dresow (p : Fin 32) (s : State) : exec (.dresow p) s = execDresow p s := rfl

theorem drillExtents_resow {d : Desc} (h : d.code = 0x51) (p : Nat) :
    drillExtents p d = [drillExt p d.dSel (4 * d.dSels), drillExt p d.dOut (d.dSels * (64 * d.dRowLines)),
      drillExt p d.dSrc (64 * d.dStride * (d.dExperts - 1) + 64 * d.dRowLines)] :=
  if_neg (by rw [h]; decide)

/-- Index entry `i` of a DRESOW: expert and position. -/
def State.sowEntry (s : State) (p : Nat) (d : Desc) (i : Nat) : Nat × Nat :=
  (num (s.bytes (lineAddr p d.dSel) (4 * d.dSels)) (4 * i) 2, num (s.bytes (lineAddr p d.dSel) (4 * d.dSels)) (4 * i + 2) 2)

/-- The expert is an entry's low half and the position its high half (R363). -/
theorem sowEntry_eq (s : State) (p : Nat) (d : Desc) (i : Nat) :
    let idx := num (s.bytes (lineAddr p d.dSel) (4 * d.dSels)) (4 * i) 4
    s.sowEntry p d i = (idx % 0x10000, idx / 0x10000) := by
  obtain ⟨hexpert, hposition⟩ := num_halves (s.bytes (lineAddr p d.dSel) (4 * d.dSels)) (4 * i)
  exact Prod.ext hexpert.symm hposition.symm

/-- The index of a DRESOW. -/
def State.sowEntries (s : State) (p : Nat) (d : Desc) : List (Nat × Nat) := (List.range d.dSels).map (s.sowEntry p d)

/-- Where the row of an entry stands. -/
def sowSource (p : Nat) (d : Desc) (e : Nat × Nat) : Nat := lineAddr p d.dSrc + 64 * d.dStride * e.1 + 64 * d.dRowLines * e.2

/-- The row that an entry brings back: zeros for a selection that was not filed. -/
def State.sowRow (s : State) (p : Nat) (d : Desc) (e : Nat × Nat) : List Byte :=
  if e.2 ≠ 0xFFFF then s.bytes (sowSource p d e) (64 * d.dRowLines) else List.replicate (64 * d.dRowLines) 0

@[simp] theorem length_sowRow (s : State) (p : Nat) (d : Desc) (e : Nat × Nat) : (s.sowRow p d e).length = 64 * d.dRowLines := by
  unfold State.sowRow
  split
  · exact length_bytes ..
  · exact List.length_replicate

/-- The store of output row `i`. -/
def State.sowStore (s : State) (p : Nat) (d : Desc) (i : Nat) : Store := (lineAddr p d.dOut + 64 * d.dRowLines * i, s.sowRow p d (s.sowEntry p d i))

/-- What a DRESOW stores, in order. -/
def State.sowStores (s : State) (p : Nat) (d : Desc) : List Store := (List.range d.dSels).map (s.sowStore p d)

theorem sowStores_begin (s : State) {p : Nat} {d : Desc} (hout : inPlot p (drillExt p d.dOut (d.dSels * (64 * d.dRowLines))) = true) :
    ∀ w ∈ s.sowStores p d, BeginsInPlot p (w.1, w.2.length) := by
  intro w hw
  obtain ⟨i, hi, rfl⟩ := List.mem_map.1 hw
  have hend : 64 * d.dRowLines * (i + 1) ≤ 64 * d.dRowLines * d.dSels := Nat.mul_le_mul_left _ (List.mem_range.1 hi)
  have hpos := dRowLines_pos d
  rw [Nat.mul_add, Nat.mul_comm _ d.dSels] at hend
  refine beginsInPlot_part hout ?_ ?_ ?_ <;> simp only [drillExt, State.sowStore, length_sowRow] <;> omega

/-- Output rows share no byte. -/
theorem sowStores_apart (s : State) (p : Nat) (d : Desc) : (s.sowStores p d).Pairwise Store.Apart := by
  refine List.pairwise_map.2 (List.pairwise_lt_range.imp (fun {i j} hlt => ?_))
  have hnext : 64 * d.dRowLines * (i + 1) ≤ 64 * d.dRowLines * j := Nat.mul_le_mul_left _ hlt
  rw [Nat.mul_add] at hnext
  simp only [Store.Apart, State.sowStore, length_sowRow, overlap_eq_false_iff]
  omega

/-- Looking a key up among the keys and their images finds its image. -/
theorem find_zip_map {α : Type} [DecidableEq α] (g : α → List Byte) {l : List α} {x : α} (hx : x ∈ l) :
    (((l.zip (l.map g)).find? (fun y => y.1 = x)).map (·.2)).getD [] = g x := by
  induction l with
  | nil => simp at hx
  | cons y l ih =>
    by_cases hy : y = x
    · simp [hy]
    · simpa [hy] using ih ((List.mem_cons.1 hx).resolve_left (Ne.symm hy))

theorem getD_sowEntries (s : State) (p : Nat) {d : Desc} {i : Nat} (hi : i < d.dSels) : (s.sowEntries p d).getD i (0, 0) = s.sowEntry p d i := by
  simp [State.sowEntries, hi]

/-- Among the rows read for the entries that were filed, an entry finds its own. -/
theorem sowRow_found (s : State) (p : Nat) {d : Desc} {i : Nat} (hi : i < d.dSels) :
    let e := s.sowEntry p d i
    let filed := (s.sowEntries p d).filter (fun e => e.2 ≠ 0xFFFF)
    (if e.2 ≠ 0xFFFF then
      (((filed.zip (filed.map (fun e => s.bytes (sowSource p d e) (64 * d.dRowLines)))).find? (fun g => g.1 = e)).map (·.2)).getD []
    else List.replicate (64 * d.dRowLines) 0) = s.sowRow p d e := by
  intro e filed
  unfold State.sowRow
  split
  · have hmem : e ∈ filed := List.mem_filter.2 ⟨List.mem_map_of_mem (List.mem_range.2 hi), by simpa⟩
    exact find_zip_map (fun e => s.bytes (sowSource p d e) (64 * d.dRowLines)) hmem
  · rfl

section

variable {p : Fin 32} {r : UnitRun} {s : State}

/-- A DRESOW whose filed entries lie in the plot makes its stores and ends. -/
theorem exec_dresow_stores (hc : s.PlotClean p.val) (he : s.mx.extents = []) (hh : s.mx.hostExtents = []) (hd : r.denied = false)
    (hw : s.postedWaits r.p (.furrow r.p.poster r.p.serial) 0 3 = false) (hrun : (s.drill p.val).run = some r) (hcode : r.p.desc.code = 0x51)
    (hin : (drillExtents p.val r.p.desc).all (inPlot p.val) = true)
    (hfiled : ∀ e ∈ s.sowEntries p.val r.p.desc, e.2 ≠ 0xFFFF → inPlot p.val (sowSource p.val r.p.desc e, 64 * r.p.desc.dRowLines) = true) :
    ∃ t : State, exec (.dresow p) s = .next (t.drillDone p.val r.p) ∧ t.mem = (s.pokes (s.sowStores p.val r.p.desc)).mem := by
  simp only [drillExtents_resow hcode, List.all_cons, List.all_nil, Bool.and_eq_true] at hin
  obtain ⟨hsel, hout, -⟩ := hin
  have hpos := dRowLines_pos r.p.desc
  have hread : ∀ e ∈ [drillExt p.val r.p.desc.dSel (4 * r.p.desc.dSels)], BeginsInPlot p.val e :=
    List.forall_mem_singleton.2 (beginsInPlot_line (fld_lt ..) hsel)
  have hrows : ∀ e ∈ ((s.sowEntries p.val r.p.desc).filter (fun e => e.2 ≠ 0xFFFF)).map (fun e => (sowSource p.val r.p.desc e, 64 * r.p.desc.dRowLines)),
      BeginsInPlot p.val e := by
    intro f hf
    obtain ⟨e, he, rfl⟩ := List.mem_map.1 hf
    obtain ⟨hmem, hlive⟩ := List.mem_filter.1 he
    exact beginsInPlot_part (hfiled e hmem (by simpa using hlive)) (Nat.le_refl _) (Nat.le_refl _) (by omega)
  have hinside : (s.sowEntries p.val r.p.desc).any (fun e => e.2 ≠ 0xFFFF && !inPlot p.val (sowSource p.val r.p.desc e, 64 * r.p.desc.dRowLines)) = false := by
    rw [List.any_eq_false]
    intro e hmem
    by_cases hlive : e.2 = 0xFFFF
    · simp [hlive]
    · simp [hfiled e hmem hlive]
  obtain ⟨t, ht, hidx⟩ := drillRead_reads hc he hh hd hread
  obtain ⟨u, hu, hsrcs⟩ := drillRead_reads (hc.congr ht.unrecorded) (ht.mx ▸ he) (ht.mx ▸ hh) hd hrows
  have hentries : (List.range r.p.desc.dSels).map (fun i =>
      (num (([drillExt p.val r.p.desc.dSel (4 * r.p.desc.dSels)].map (fun e => s.bytes e.1 e.2)).headD []) (4 * i) 2,
        num (([drillExt p.val r.p.desc.dSel (4 * r.p.desc.dSels)].map (fun e => s.bytes e.1 e.2)).headD []) (4 * i + 2) 2)) =
    s.sowEntries p.val r.p.desc := rfl
  refine ⟨u.drillWrites r.p (s.sowStores p.val r.p.desc), ?_, drillWrites_mem hc (ht.trans hu) (sowStores_begin s hout) r.p⟩
  rw [exec_dresow, execDresow]
  simp only [hrun, hcode, hw, ne_eq, not_true_eq_false, decide_false, Bool.or_false, Bool.false_eq_true, if_false, hidx, hentries]
  simp only [sowSource] at hinside hsrcs
  rw [hinside, if_neg Bool.false_ne_true, hsrcs, State.sowStores, drillWrites_map]
  refine congrArg (fun u => Host.Outcome.next (State.drillDone u p.val r.p)) (List.foldl_ext _ _ _ (fun v i hi => ?_))
  rw [List.map_map, getD_sowEntries s p.val (List.mem_range.1 hi)]
  refine congrArg (v.drillWrite r.p _) (Eq.trans ?_ (sowRow_found s p.val (List.mem_range.1 hi)))
  simp only [ht.bytes]
  rfl

end

/-! ### DRILL_DEQUEUE (R365) -/

section

variable (s : State) (n : Nat) (x : DrillUnit)

@[simp] theorem rd_setDrill (b : Nat) (f : Field) (i : Nat) : (s.setDrill n x).rd b f i = s.rd b f i := rd_congr _ _ _ _ _ rfl rfl rfl

@[simp] theorem rdB_setDrill (b : Nat) (f : Field) (i : Nat) : (s.setDrill n x).rdB b f i = s.rdB b f i := by rw [State.rdB, State.rdB, rd_setDrill]

@[simp] theorem barnIn_setDrill (parts : List Nat) (fuel a m : Nat) : (s.setDrill n x).barnIn parts fuel a m = s.barnIn parts fuel a m := by
  induction fuel generalizing a m with
  | zero => rfl
  | succ fuel ih => simp only [State.barnIn, rd_setDrill, rdB_setDrill, ih]

@[simp] theorem inPlotPart_setDrill (p : Nat) : (s.setDrill n x).inPlotPart p = s.inPlotPart p := by
  funext e
  simp only [State.inPlotPart, State.partOf, State.inPart, State.inParts, rd_setDrill, rdB_setDrill, barnIn_setDrill]

@[simp] theorem unitPlotOk_setDrill (p : Nat) : (s.setDrill n x).unitPlotOk p = s.unitPlotOk p := by
  funext e
  rw [State.unitPlotOk, State.unitPlotOk, inPlotPart_setDrill]

@[simp] theorem sigFallow_setDrill (d : Desc) : (s.setDrill n x).sigFallow d = s.sigFallow d := rfl

/-- The checks at dequeue do not read the Drill. -/
@[simp] theorem checks_setDrill (k : CoreId) (d : Desc) (codeOk bodyOk fallow aligned extents : Bool) :
    (s.setDrill n x).checks k d codeOk bodyOk fallow aligned extents = s.checks k d codeOk bodyOk fallow aligned extents := rfl

end

theorem exec_drillDequeue (p : Fin 32) (s : State) : exec (.drillDequeue p) s = execDrillDequeue p s := rfl

/-- A live Drill with nothing in hand takes its next descriptor if the checks pass. -/
theorem exec_drillDequeue_ok {p : Fin 32} {s : State} {q : Posted} {rest : List Posted} (hlive : s.drillLive p.val = true)
    (hrun : (s.drill p.val).run = none) (hqueue : (s.drill p.val).queue = q :: rest)
    (hok : s.checks q.poster q.desc (q.desc.code = 0x50 || q.desc.code = 0x51) (drillBodyOk q.desc && (drillExtents p.val q.desc).all (s.unitPlotOk p.val))
      (s.sigFallow q.desc) true ((drillExtents p.val q.desc).all (s.inPlotPart p.val)) = .ok) :
    exec (.drillDequeue p) s =
      .next ((s.modDrill p.val (fun x => { x with queue := rest })).modDrill p.val (fun x => { x with run := some { p := q, tDeq := s.fieldCount } })) := by
  rw [exec_drillDequeue, execDrillDequeue]
  simp [hlive, hrun, hqueue, State.modDrill, hok]

end Sys2Proof.Machine

section

open Sys2Proof Sys2Proof.Machine

/-- Settles O37: a command's stores lie apart (`winnowStores_apart`, `sowStores_apart`), so memory in the end holds each of them; what DWINNOW stores for a selection
follows by induction on the selections (`winnow_places`). -/
theorem drillCommands : Obligations.DrillCommands := by
  intro p r s he hh hbad hinj hopen hdenied hwaits pl d row
  have hc : s.PlotClean p.val := ⟨p.isLt, hbad, hinj, hopen⟩
  refine ⟨fun rest hlive hrun hqueue hok => ?dequeue, ?winnow, ?resow⟩
  case dequeue =>
    refine ⟨_, exec_drillDequeue_ok hlive hrun hqueue hok, ?_, ?_, fun _ => rfl, rfl⟩ <;> simp only [State.modDrill, drill_setDrill_self, pl]
  case winnow =>
    intro hrun hcode hin hdisjoint hfit sel before
    obtain ⟨t, ht, hmem⟩ := exec_dwinnow_stores hc he hh hdenied hwaits hrun hcode hin
    obtain ⟨hkept, hended⟩ := drillDone_ended t p.val r.p
    have hapart := winnowStores_apart s p.val (sel := sel) hfit hcode hdisjoint
    have hbytes := bytes_of_mem_eq (hkept.trans hmem)
    refine ⟨_, ht, hended, fun i hi => ?_, fun e he => ?_, fun i hi hexpert hroom => ?_⟩
    · rw [hbytes]
      exact winnowStores_index s hapart hi
    · rw [hbytes]
      exact winnowStores_counts s hapart he
    · rw [hbytes]
      exact winnowStores_rows s hapart (filed_iff.2 ⟨hi, hexpert, hroom⟩)
  case resow =>
    intro hrun hcode hin idx src hinside
    have hentry : ∀ i, s.sowEntry pl d i = (idx i % 0x10000, idx i / 0x10000) := sowEntry_eq s pl d
    have hfiled : ∀ e ∈ s.sowEntries pl d, e.2 ≠ 0xFFFF → inPlot pl (sowSource pl d e, 64 * d.dRowLines) = true := by
      intro e hmem hlive
      obtain ⟨i, hi, rfl⟩ := List.mem_map.1 hmem
      rw [hentry] at hlive ⊢
      exact hinside i (List.mem_range.1 hi) hlive
    obtain ⟨t, ht, hmem⟩ := exec_dresow_stores hc he hh hdenied hwaits hrun hcode hin hfiled
    obtain ⟨hkept, hended⟩ := drillDone_ended t p.val r.p
    refine ⟨_, ht, hended, fun i hi => ?_⟩
    have hrow := bytes_pokes_of_mem s (sowStores_apart s pl d) (List.mem_map_of_mem (List.mem_range.2 hi) : s.sowStore pl d i ∈ s.sowStores pl d)
    rw [bytes_of_mem_eq (hkept.trans hmem)]
    rw [State.sowStore, length_sowRow, hentry, State.sowRow, ite_not] at hrow
    exact hrow

end
